-- ==== Sys2Proof/Word.lean ====
section
/-! DEFINITION. The few values the manual treats as bits: bytes on the lines, tag IDs and tag content (R24). -/

namespace Sys2Proof

/-- One byte on a port or on the sensor loop. -/
abbrev Byte := BitVec 8

/-- The 48-bit number carried on a wheel's tag. -/
abbrev TagId := BitVec 48

/-- The eight bytes of tag content, byte 0 the most significant (R24). -/
abbrev TagContent := BitVec 64

end Sys2Proof
end

