-- ==== Sys2Proof/Syntax.lean ====
section
/-! DEFINITION. The commands the block takes: one constructor of `Instr` for each row of spec/opcode_table.json, with the
row's operands as the raw numbers the frames carry. -/

namespace Sys2Proof

/-- The three ports (R181). -/
inductive Port
  | management | robot | climate
deriving DecidableEq, Repr

/-- How the body of an accepted frame fits its kind: it fits, its length does not match the arguments of its kind (R181), or
a named value in it (an action, a section, a kind of hold or fault) is none of those its rule lists (R32, R113, R147, R187). -/
inductive BodyForm
  | fits | badLength | badName
deriving DecidableEq, Repr

/-- What the Port Unit has of a request's frame beside the arguments: the port it arrived on, its result code byte, which is
0 in a proper request (R180), and whether its body fits (R181). -/
structure Frame where
  port   : Port
  result : Nat := 0
  form   : BodyForm := .fits
deriving DecidableEq, Repr

/-- A coordinate or slot address as its three bytes give it (R181). -/
structure RawCoord where
  aisle    : Nat
  level    : Nat
  position : Nat
deriving DecidableEq, Repr

/-- A tag report or a carrying report: nothing, or eight bytes of tag content (R24, R101). -/
abbrev TagReport := Option TagContent

/-- The pair a task report names its task by (R98). -/
structure TaskRef where
  task  : Nat
  issue : Nat
deriving DecidableEq, Repr

/-- The robot fault kinds of R113. -/
inductive FaultKind
  | tool | motion | grip | slotBlocked
deriving DecidableEq, Repr

/-- The hold kinds of R18. -/
inductive Hold
  | none | inspect | quarantine
deriving DecidableEq, Repr

/-- The notice kinds of R185. -/
inductive Notice
  | restarted | inventoryLost | configDefaulted | clockUnset | backlog | starved | discrepancy | discrepancyFull
  | taskFailed | moveEnded | robotLost | robotHalted | zoneAlarm
  | taskAvailable | abortRequested
  | sensorLost | headMissing | captureDone | captureOverrun | exclusionGranted | exclusionEnded
deriving DecidableEq, Repr

/-- The arguments of SET_ZONE_LIMITS after the zone, and of a ZONE section (R167). -/
structure RawLimits where
  lo     : Nat
  hi     : Nat
  hy     : Nat
  dwell  : Nat
  boost  : Nat
  hold   : Nat
  shift  : Nat
deriving DecidableEq, Repr

/-- The fields of a CARE_CLASS section as written (R37, R38): D1 to D3, Bf[0..3] and Bb[0..3] in order. -/
structure RawClass where
  valid    : Bool
  setpoint : Nat
  d1       : Nat
  d2       : Nat
  d3       : Nat
  flipBase : Vector Nat 4
  brushBase : Vector Nat 4
  kf       : Nat
  kb       : Nat
  weight   : Nat
  merge    : Nat
deriving DecidableEq, Repr

/-- The fields of a ROBOT section as written (R187): the allowances in the order of the table of R117. -/
structure RawRobot where
  infeed     : RawCoord
  outfeed    : RawCoord
  home       : RawCoord
  allowances : Vector Nat 8
  ca         : Nat
  cl         : Nat
  boost      : Nat
deriving DecidableEq, Repr

/-- The section a READ_CONFIG names (R187). -/
inductive SectionName
  | geometry | zoneMap (aisle : Nat) | careClass (n : Nat) | robot | sweep | sensor | zone (n : Nat)
deriving DecidableEq, Repr

/-- The slot argument of BOOK_IN: a level and position, or AUTO (R123). -/
inductive SlotChoice
  | explicit (level position : Nat) | auto
deriving DecidableEq, Repr

/-- What the environment shows a start: the three baud straps, high for 115,200 baud (R181), and whether the CRC-16 over the
stored image matches (R189). -/
structure StartInputs where
  managementFast : Bool := false
  robotFast      : Bool := false
  climateFast    : Bool := false
  imageCrc       : Bool := true
deriving DecidableEq, Repr

/-- The commands of spec/opcode_table.json, in the table's order. -/
inductive Instr
  | setWindow (f : Frame) (source destination : Nat)
  | readNotices (f : Frame)
  | setNoticeMask (f : Frame) (flags : List (Notice × Bool))
  | listLevel (f : Frame) (level : Nat)
  | ready (f : Frame) (known : Bool) (position : Option RawCoord) (carrying : TagReport)
  | take (f : Frame)
  | homed (f : Frame)
  | arrived (f : Frame) (ref : TaskRef) (tag : TagReport)
  | picked (f : Frame) (ref : TaskRef)
  | slotRead (f : Frame) (ref : TaskRef) (position : Nat) (tag : TagReport)
  | doneReport (f : Frame) (ref : TaskRef) (flipDone brushDone : Bool)
  | faultReport (f : Frame) (kind : FaultKind) (ref : Option TaskRef)
  | slotBlocked (f : Frame) (ref : Option TaskRef)
  | readHeads (f : Frame)
  | setZoneLimits (f : Frame) (zone : Nat) (limits : RawLimits)
  | ackZone (f : Frame) (zone : Nat)
  | readZone (f : Frame) (zone : Nat)
  | startCapture (f : Frame) (zone count : Nat)
  | stopCapture (f : Frame) (zone : Nat)
  | readCapture (f : Frame) (zone count : Nat)
  | endExclusion (f : Frame) (zone : Nat)
  | readConfig (f : Frame) (name : SectionName)
  | requestExclusion (f : Frame) (zone minutes : Nat)
  | setSlotFault (f : Frame) (level position : Nat)
  | clearSlotFault (f : Frame) (level position : Nat)
  | setClock (f : Frame) (minute : Nat)
  | readStatus (f : Frame)
  | readWheel (f : Frame) (handle : Nat)
  | findWheel (f : Frame) (tag : TagId)
  | setClass (f : Frame) (handle cls : Nat)
  | holdWheel (f : Frame) (handle : Nat) (kind : Hold)
  | release (f : Frame) (handle : Nat)
  | clearCareFault (f : Frame) (handle : Nat)
  | bookIn (f : Frame) (tag : TagId) (batch entry cls : Nat) (slot : SlotChoice) (quarantine : Bool)
  | relocate (f : Frame) (sourceLevel sourcePosition destLevel destPosition : Nat)
  | bookOut (f : Frame) (handle : Nat)
  | cancelMove (f : Frame) (handle : Nat)
  | abortTask (f : Frame) (task : Nat)
  | pauseDispatch (f : Frame)
  | resumeDispatch (f : Frame)
  | readTasks (f : Frame) (start : Nat)
  | clearRobotHalt (f : Frame)
  | requestSurvey (f : Frame) (level first last : Nat)
  | readDiscrepancy (f : Frame)
  | resolveSlotConfirm (f : Frame) (level position : Nat)
  | resolveSlotClear (f : Frame) (level position : Nat)
  | resolveSlotAssign (f : Frame) (level position : Nat) (tag : TagId)
  | resolveWheelPlaceAt (f : Frame) (handle level position : Nat)
  | resolveWheelDelete (f : Frame) (handle : Nat)
  | writeConfigGeometry (f : Frame) (aisles levels positions : Nat) (quarantine : Vector Bool 16)
  | writeConfigZoneMap (f : Frame) (aisle : Nat) (zones : Vector Nat 12)
  | writeConfigCareClass (f : Frame) (n : Nat) (fields : RawClass)
  | writeConfigRobot (f : Frame) (fields : RawRobot)
  | writeConfigSweep (f : Frame) (period : Nat)
  | writeConfigSensor (f : Frame) (period : Nat) (heads : Vector (Option Nat) 24)
  | writeConfigZone (f : Frame) (zone : Nat) (limits : RawLimits)
  | saveConfig (f : Frame)
  | saveComplete (imageEqual : Bool)
  | frameDiscard (p : Port) (lengthByte : Byte) (rest : List Byte)
  | interByteGap (p : Port) (next : Byte)
  | requestBusy (p : Port) (kindCode : Nat)
  | minuteEvent
  | secondEvent
  | sweepPeriodBoundary
  | sweepVisit
  | taskDeadlineExpiry
  | homeOrderExpiry
  | exclusionEnding (zone : Fin 8)
  | loopPassStart
  | loopReply (bytes : Vector Byte 5)
  | replyWindowClose
  | zoneUpdate
  | mainSupplyFail
  | mainSupplyReturn (inputs : StartInputs)
  | resetLine (inputs : StartInputs)
  | batteryThreshold (below : Bool)
  | responseSent (p : Port)
  | unknownKindRequest (f : Frame) (kindCode : Nat)
deriving DecidableEq, Repr

end Sys2Proof
end

