-- ==== Sys2Proof/Machine/Checks.lean ====
section
/-! DEFINITION. The cyclic checks of tags, port frames and sensor-loop messages (R24, R154, R180). -/

namespace Sys2Proof.Machine

/-- One bit step of a CRC-16 with generator 8005h, most significant bit first. -/
def crc16Bit (c : BitVec 16) : BitVec 16 :=
  if c.msb then (c <<< 1) ^^^ 0x8005#16 else c <<< 1

/-- One byte of a CRC-16. -/
def crc16Byte (c : BitVec 16) (b : Byte) : BitVec 16 :=
  let x := c ^^^ (b.setWidth 16 <<< 8)
  crc16Bit (crc16Bit (crc16Bit (crc16Bit (crc16Bit (crc16Bit (crc16Bit (crc16Bit x)))))))

/-- The CRC-16 of R24 (initial value 0000h) and R180 (initial value FFFFh). -/
def crc16 (initial : BitVec 16) (bytes : List Byte) : BitVec 16 :=
  bytes.foldl crc16Byte initial

/-- One bit step of a CRC-8 with generator 31h, most significant bit first. -/
def crc8Bit (c : Byte) : Byte :=
  if c.msb then (c <<< 1) ^^^ 0x31#8 else c <<< 1

/-- One byte of a CRC-8. -/
def crc8Byte (c b : Byte) : Byte :=
  crc8Bit (crc8Bit (crc8Bit (crc8Bit (crc8Bit (crc8Bit (crc8Bit (crc8Bit (c ^^^ b))))))))

/-- The CRC-8 of the loop messages (R154). -/
def crc8 (bytes : List Byte) : Byte :=
  bytes.foldl crc8Byte 0xFF#8

/-- The bytes of a value, most significant first. -/
def bytesOf (n : Nat) : Nat → List Byte
  | v => (List.range n).map fun i => BitVec.ofNat 8 (v / 256 ^ (n - 1 - i))

/-- The value of bytes, most significant first. -/
def valueOf (bytes : List Byte) : Nat :=
  bytes.foldl (fun v b => v * 256 + b.toNat) 0

/-- The tag ID in tag content: bytes 0 to 5 (R24). -/
def tagIdOf (c : TagContent) : TagId := c.extractLsb' 16 48

/-- The check in tag content: bytes 6 and 7 (R24). -/
def tagCheckOf (c : TagContent) : BitVec 16 := c.extractLsb' 0 16

/-- 0 and FFFFFFFFFFFFh are no tag IDs (R18, R24). -/
def tagIdValid (t : TagId) : Bool := t != 0#48 && t != BitVec.allOnes 48

/-- Readable content: its check matches and its ID is valid (R24). -/
def tagReadable (c : TagContent) : Bool :=
  crc16 0x0000#16 (bytesOf 6 (tagIdOf c).toNat) == tagCheckOf c && tagIdValid (tagIdOf c)

/-- The length byte and what follows it up to the check, and the check itself, survive the tests of R180. -/
def frameSurvives (lengthByte : Byte) (rest : List Byte) : Bool :=
  decide (2 ≤ lengthByte.toNat) && rest.length == lengthByte.toNat + 2 &&
    (crc16 0xFFFF#16 (lengthByte :: rest.take lengthByte.toNat)).toNat == valueOf (rest.drop lengthByte.toNat)

end Sys2Proof.Machine
end

