-- ==== Sys2Proof/Config.lean ====
section
/-! DEFINITION. The limits that are fixed in the part. The configuration the host writes is state (`Machine.Configuration`),
not part of this file. The spec leaves no result of a command undefined, so there is no opaque constant here. -/

namespace Sys2Proof.Config

/-- The largest cellar minute, due time and enqueue sequence (R15, R49, R69). -/
abbrev maxMinute : Nat := 4294967295

/-- Handles run from 0 to one less than this (R18). -/
abbrev handles : Nat := 8192

/-- The largest value of a saturating count of a wheel record (R18). -/
abbrev maxCount : Nat := 65535

/-- Places of the task list, of its care side and of its non-care side (R62). -/
abbrev listRoom : Nat := 64
abbrev careRoom : Nat := 56
abbrev nonCareRoom : Nat := 24

/-- Places of the discrepancy list (R144). -/
abbrev discrepancyRoom : Nat := 32

/-- Places of a capture ring (R173). -/
abbrev ringRoom : Nat := 32

/-- The deadline of a HOME order, in elapsed minutes (R104). -/
abbrev homeAllowance : Nat := 10

/-- The weight a SURVEY is scored with (R63). -/
abbrev surveyWeight : Nat := 8

/-- The largest lateness term and the largest score (R63). -/
abbrev maxLateness : Nat := 32767
abbrev maxScore : Nat := 65535

/-- The longest hold count (R162). -/
abbrev maxHold : Nat := 720

/-- The attempts at which a task ends FAILED(ATTEMPTS) (R99). -/
abbrev maxAttempts : Nat := 3

end Sys2Proof.Config
end

