-- ==== Sys2Proof/Machine/State.lean ====
section
/-! DEFINITION. The state of the block: every register, table, list, timer and flag the spec gives it, as plain data, block by
block; the answers its ports send; and the state right after the first start. -/

namespace Sys2Proof.Machine

/-! ## Addresses, tables, kinds -/

/-- A slot address or the coordinate of a travel point, within the largest hall (R1, R5). -/
structure Coord where
  aisle    : Fin 16
  level    : Fin 12
  position : Fin 48
deriving DecidableEq, Repr

/-- A sparse store: keys strictly rising (see `Table.canonical`). -/
abbrev Table (α : Type) := List (Nat × α)

/-- One of the eight humidity zones. -/
abbrev ZoneNumber := Fin 8

/-- The roles of a reservation (R6). -/
inductive Role
  | destination | putBack
deriving DecidableEq, Repr

/-- A slot entry (R6): state, wheel handle and reservation role. `putBack` is the role the spec writes RETURN. -/
inductive SlotEntry
  | empty
  | occupied (w : Nat)
  | reserved (role : Role) (w : Nat)
  | suspect (w : Option Nat)
  | faulted
deriving DecidableEq, Repr

/-- The five state names LIST_LEVEL answers with (R13). -/
inductive SlotState
  | empty | occupied | reserved | suspect | faulted
deriving DecidableEq, Repr

/-- The four kinds of movement (R121). -/
inductive MoveKind
  | place | move | remove | park
deriving DecidableEq, Repr

/-- The kinds of task (R67). -/
inductive TaskKind
  | flip | brush | flipBrush | movement (k : MoveKind) | survey
deriving DecidableEq, Repr

/-- Where a movement sets its wheel down (R121). -/
inductive Destination
  | slot (s : Coord) | infeed | outfeed
deriving DecidableEq, Repr

/-- Whether the wheel has been lifted for the movement (R121). -/
inductive Phase
  | beforePick | carried
deriving DecidableEq, Repr

/-- PENDING until a task of the intent has been issued (R121). -/
inductive IntentStatus
  | pending | active
deriving DecidableEq, Repr

/-- A wheel's movement intent (R121). -/
structure Intent where
  kind        : MoveKind
  destination : Destination
  retargeted  : Bool
  returnSlot  : Option Coord
  phase       : Phase
  status      : IntentStatus
deriving DecidableEq, Repr

/-- Where the part believes a wheel is (R19). -/
inductive Location
  | atInfeed | inSlot (s : Coord) | inGripper | unknown
deriving DecidableEq, Repr

/-- The reasons of an ending FAILED (R100, R134). -/
inductive FailReason
  | mismatch | unreadable | blocked | attempts | incomplete | lostLoad
deriving DecidableEq, Repr

/-- How a movement or a task ended (R18, R100). `incomplete` is the reason the spec writes PARTIAL. -/
inductive Ending
  | done | failed (r : FailReason) | cancelled | aborted
deriving DecidableEq, Repr

/-- The reasons of a care fault (R34). -/
inductive CareFault
  | attempts | mismatchAtCare | unreadableAtCare
deriving DecidableEq, Repr

/-- The faces of a wheel (R21). -/
inductive Face
  | a | b
deriving DecidableEq, Repr

/-- A wheel record (R18); its handle is its key in the wheel table. -/
structure Wheel where
  tag         : TagId
  batch       : Nat
  cls         : Fin 16
  entry       : Nat
  location    : Location
  faceUp      : Face
  lastFlip    : Option Nat
  lastBrush   : Option Nat
  flipDue     : Option Nat
  brushDue    : Option Nat
  flipCount   : Nat
  brushCount  : Nat
  hold        : Hold
  careFault   : Option CareFault
  intent      : Option Intent
  lastOutcome : Option Ending
  lastSeen    : Option Nat
  flipMark    : Bool
  brushMark   : Bool
  moveMark    : Bool
deriving DecidableEq, Repr

/-- The states of a task (R68). -/
inductive TaskState
  | queued | issued | aborting
deriving DecidableEq, Repr

/-- The slot field of a task record (R67): a board, INFEED, or the aisle and level of a survey. -/
inductive TaskPlace
  | board (s : Coord) | infeed | level (aisle : Fin 16) (level : Fin 12)
deriving DecidableEq, Repr

/-- The survey range of a SURVEY (R67, R140); next expected position `none` is the mark COMPLETE. -/
structure SurveyRange where
  first : Fin 48
  last  : Fin 48
  next  : Option (Fin 48)
deriving DecidableEq, Repr

/-- A task record (R67). `minute` is the due minute of a care task and the basis minute of the others. -/
structure TaskRecord where
  number      : Fin 64
  issue       : Nat
  kind        : TaskKind
  wheel       : Option Nat
  place       : TaskPlace
  destination : Option Destination
  range       : Option SurveyRange
  phase       : Option Phase
  state       : TaskState
  minute      : Nat
  sequence    : Nat
  attempts    : Nat
  rereads     : Nat
deriving DecidableEq, Repr

/-- The kinds of a discrepancy entry (R144). -/
inductive DiscrepancyKind
  | mismatch | unreadable | missing | unexpected | blocked | infeedMismatch | gripperUnexpected | gripperEmpty | gripperUnknown
deriving DecidableEq, Repr

/-- An entry of the discrepancy list (R144). -/
structure Discrepancy where
  kind   : DiscrepancyKind
  minute : Nat
  slot   : Option Coord
  handle : Option Nat
  tag    : Option TagId
deriving DecidableEq, Repr

/-- The last survey record (R143). -/
structure SurveyRecord where
  task    : Fin 64
  aisle   : Fin 16
  level   : Fin 12
  first   : Fin 48
  last    : Fin 48
  applied : Nat
  ending  : Ending
  minute  : Nat
deriving DecidableEq, Repr

/-! ## Configuration -/

/-- The GEOMETRY section (R1). -/
structure Geometry where
  aisles     : Nat
  levels     : Nat
  positions  : Nat
  quarantine : Vector Bool 16
deriving DecidableEq, Repr

/-- A care class record (R37). -/
structure CareClass where
  valid     : Bool
  setpoint  : Nat
  d1        : Nat
  d2        : Nat
  d3        : Nat
  flipBase  : Vector Nat 4
  brushBase : Vector Nat 4
  kf        : Nat
  kb        : Nat
  weight    : Nat
  merge     : Nat
deriving DecidableEq, Repr

/-- The ROBOT section (R187); the allowances of FLIP, BRUSH, FLIP_BRUSH, PLACE, MOVE, REMOVE, PARK, SURVEY in that order (R117). -/
structure RobotSection where
  infeed     : Coord
  outfeed    : Coord
  home       : Coord
  allowances : Vector Nat 8
  ca         : Nat
  cl         : Nat
  boost      : Nat
deriving DecidableEq, Repr

/-- The SENSOR section (R156): head address h stands at index h - 1. -/
structure SensorSection where
  period     : Nat
  assignment : Vector (Option ZoneNumber) 24
deriving DecidableEq, Repr

/-- A ZONE section (R167). -/
structure ZoneLimits where
  lo     : Nat
  hi     : Nat
  hy     : Nat
  dwell  : Nat
  boost  : Nat
  hold   : Nat
  shift  : Nat
deriving DecidableEq, Repr

/-- The working configuration, and the image of the stored one (11.5). -/
structure Configuration where
  geometry : Geometry
  zoneMap  : Vector (Vector ZoneNumber 12) 16
  classes  : Vector CareClass 16
  robot    : RobotSection
  period   : Nat
  sensor   : SensorSection
  zones    : Vector ZoneLimits 8
deriving DecidableEq, Repr

/-- The default GEOMETRY section (R1). -/
def Geometry.default : Geometry :=
  { aisles := 16, levels := 12, positions := 48, quarantine := Vector.replicate 16 false }

/-- The default care class, an invalid one (R41). -/
def CareClass.default : CareClass :=
  { valid := false, setpoint := 880, d1 := 30, d2 := 90, d3 := 365,
    flipBase := #v[1440, 2880, 4320, 10080], brushBase := #v[0, 2880, 5760, 10080],
    kf := 10, kb := 20, weight := 8, merge := 60 }

/-- The default ROBOT section (R5, R117, R187). -/
def RobotSection.default : RobotSection :=
  { infeed := ⟨0, 0, 0⟩, outfeed := ⟨0, 0, 47⟩, home := ⟨0, 0, 0⟩,
    allowances := #v[5, 8, 12, 15, 15, 15, 10, 4], ca := 40, cl := 6, boost := 1000 }

/-- The default ZONE section (R167). -/
def ZoneLimits.default : ZoneLimits :=
  { lo := 850, hi := 970, hy := 15, dwell := 3, boost := 400, hold := 60, shift := 2 }

/-- Every section at its default (R189). -/
def Configuration.default : Configuration :=
  { geometry := Geometry.default
    zoneMap := Vector.replicate 16 (Vector.replicate 12 0)
    classes := Vector.replicate 16 CareClass.default
    robot := RobotSection.default
    period := 10
    sensor := { period := 60, assignment := Vector.replicate 24 none }
    zones := Vector.replicate 8 ZoneLimits.default }

/-- The outcome of a save (R188). -/
inductive SaveOutcome
  | ok | failed
deriving DecidableEq, Repr

/-- Where the working configuration was loaded from (R189). -/
inductive ConfigSource
  | stored | defaults
deriving DecidableEq, Repr

/-- The Configuration Memory (R188, R189). `saving` holds the copy being written while a save is IN_FLIGHT. -/
structure ConfigMemory where
  image    : Configuration
  valid    : Bool
  saving   : Option Configuration
  lastSave : Option SaveOutcome
  source   : ConfigSource
deriving DecidableEq, Repr

/-! ## Clock, supply, Dispatcher, Robot Link, Care Engine -/

/-- The cellar clock and its flag (R15, R17). -/
structure Clock where
  minute : Nat
  unset  : Bool
deriving DecidableEq, Repr

/-- The supply states (R190). -/
inductive SupplyState
  | running | retention
deriving DecidableEq, Repr

/-- What the Clock and Retention Unit holds of the supplies (R190). -/
structure Supply where
  state      : SupplyState
  intact     : Bool
  batteryLow : Bool
deriving DecidableEq, Repr

/-- The Dispatcher's state beside the task list (R69, R70, R90). -/
structure Dispatcher where
  paused    : Bool
  sequence  : Nat
  lastIssue : Vector Nat 64
deriving DecidableEq, Repr

/-- The link states (R95, R96). -/
inductive LinkState
  | offline | unhomed | idle | working | recovery | halted | lost
deriving DecidableEq, Repr

/-- The last fault record (R95, R115). -/
structure FaultRecord where
  kind   : FaultKind
  minute : Nat
  task   : Option TaskKind
deriving DecidableEq, Repr

/-- The Robot Link's state (R95). `homeOrder` holds the deadline remaining of an outstanding HOME order. -/
structure RobotLink where
  state     : LinkState
  position  : Option Coord
  faults    : Nat
  lastFault : Option FaultRecord
  verified  : Bool
  issuedTag : Option TagId
  deadline  : Option Nat
  homeOrder : Option Nat
deriving DecidableEq, Repr

/-- The sweep state (R53). `boundaries` counts the period boundaries that minute events have brought and no
SWEEP_PERIOD_BOUNDARY has yet acted on. -/
structure Sweep where
  running    : Bool
  cursor     : Nat
  passCount  : Nat
  owed       : Bool
  late       : Bool
  timer      : Nat
  boundaries : Nat
deriving DecidableEq, Repr

/-! ## Sensor Loop and Zone Monitor -/

/-- The states of a head (R158). -/
inductive HeadState
  | off | probing | active | missing | faulty
deriving DecidableEq, Repr

/-- A head record (R158). -/
structure Head where
  state   : HeadState
  misses  : Nat
  reading : Option Nat
deriving DecidableEq, Repr

/-- A pass in progress: the head polled, whose reply window is open, the first complete reply received in the window, and the
rest of the poll list (R153, R157). A head is named by its index, its address less 1. -/
structure LoopPass where
  polled : Fin 24
  reply  : Option (Vector Byte 5)
  rest   : List (Fin 24)
deriving DecidableEq, Repr

/-- What a pass hands on for one zone: the number of accepted readings and their sum (R160). -/
structure ZoneReadings where
  count : Nat
  sum   : Nat
deriving DecidableEq, Repr

/-- The Sensor Loop (R153 to R160). `startsDue` counts the pass starts that second events have brought and no LOOP_PASS_START
has yet acted on; `handed` holds the ended passes that no ZONE_UPDATE has yet taken, oldest first. -/
structure SensorLoop where
  timer     : Nat
  startsDue : Nat
  pass      : Option LoopPass
  lastPoll  : Option (Byte × Byte)
  heads     : Vector Head 24
  handed    : List (Vector ZoneReadings 8)
deriving DecidableEq, Repr

/-- The humidity states of a zone (R162). -/
inductive HumidityState
  | unseen | live | holding | lost
deriving DecidableEq, Repr

/-- The alarm states of a zone (R166). -/
inductive AlarmState
  | normal | lowWatch | lowAlarm | highWatch | highAlarm
deriving DecidableEq, Repr

/-- The capture modes of a zone (R166). -/
inductive CaptureMode
  | off | counted (remaining : Nat) | continuous
deriving DecidableEq, Repr

/-- A capture sample (R173). -/
structure Sample where
  minute   : Nat
  raw      : Nat
  filtered : Nat
  count    : Nat
deriving DecidableEq, Repr

/-- The exclusion of a zone, with its pending or remaining minutes (R166). -/
inductive Exclusion
  | none | pending (minutes : Nat) | active (remaining : Nat)
deriving DecidableEq, Repr

/-- A zone record (R162, R166). -/
structure Zone where
  humidity  : HumidityState
  raw       : Option Nat
  filtered  : Option Nat
  holdCount : Nat
  alarm     : AlarmState
  dwell     : Nat
  unacked   : Bool
  capture   : CaptureMode
  ring      : List Sample
  overrun   : Bool
  exclusion : Exclusion
  presence  : Bool
deriving DecidableEq, Repr

/-- A zone record at its reset values (R162, R166). -/
def Zone.initial : Zone :=
  { humidity := .unseen, raw := none, filtered := none, holdCount := 0, alarm := .normal, dwell := 0, unacked := false,
    capture := .off, ring := [], overrun := false, exclusion := .none, presence := false }

/-! ## Answers and ports -/

/-- The result codes of R184, in the order of its table. -/
inductive ResultCode
  | ok | granted | pending | none | proceed | reread | mismatch | abort | busy | notPermitted | badField | state | duplicate
  | notFound | full | stale | tooLate | sequence | unknownLoad | saveFailed
deriving DecidableEq, Repr

/-- A list task as the answer to TAKE carries it (R80, R193). -/
structure Work where
  number      : Fin 64
  issue       : Nat
  kind        : TaskKind
  state       : TaskState
  phase       : Option Phase
  tag         : Option TagId
  first       : Coord
  last        : Coord
  destination : Option Destination
  range       : Option SurveyRange
deriving DecidableEq, Repr

/-- The reasons of an answer NONE (R79, R184). -/
inductive NoWork
  | empty | blocked | paused
deriving DecidableEq, Repr

/-- The outcomes of an applied survey report (R140). -/
inductive SurveyOutcome
  | confirmed | restored | cleared | madeSuspect | noted | noChange | ignored
deriving DecidableEq, Repr

/-- One head in the answer to READ_HEADS (R161). -/
structure HeadReport where
  assignment : Option ZoneNumber
  head       : Head
deriving DecidableEq, Repr

/-- The zone record as READ_ZONE answers it (R172). -/
structure ZoneReport where
  humidity  : HumidityState
  raw       : Option Nat
  filtered  : Option Nat
  holdCount : Nat
  alarm     : AlarmState
  dwell     : Nat
  unacked   : Bool
  capture   : CaptureMode
  samples   : Nat
  overrun   : Bool
  exclusion : Exclusion
  presence  : Bool
deriving DecidableEq, Repr

/-- A configuration section as READ_CONFIG answers it (R187); a class with its reference count (R41). -/
inductive SectionBody
  | geometry (g : Geometry)
  | zoneMap (zones : Vector ZoneNumber 12)
  | careClass (c : CareClass) (references : Nat)
  | robot (r : RobotSection)
  | sweep (period : Nat)
  | sensor (s : SensorSection)
  | zone (l : ZoneLimits)
deriving DecidableEq, Repr

/-- The items of READ_STATUS (R192). -/
structure Status where
  minute       : Nat
  clockUnset   : Bool
  passRunning  : Bool
  cursor       : Nat
  passCount    : Nat
  sweepLate    : Bool
  sequence     : Nat
  paused       : Bool
  link         : LinkState
  position     : Option Coord
  faults       : Nat
  lastFault    : Option FaultRecord
  homeOrder    : Option Nat
  taskOut      : Option (Fin 64 × Nat × Option Nat)
  lastSurvey   : Option SurveyRecord
  saveInFlight : Bool
  lastSave     : Option SaveOutcome
  source       : ConfigSource
  batteryLow   : Bool
deriving DecidableEq, Repr

/-- One task in the answer to READ_TASKS, with its lateness and standing score (R93). -/
structure TaskLine where
  task     : TaskRecord
  lateness : Nat
  standing : Nat
deriving DecidableEq, Repr

/-- What a taken ABORT_TASK made of the task (R88). -/
inductive AbortResult
  | withdrawn | aborting
deriving DecidableEq, Repr

/-- The body of a response. -/
inductive Body
  | empty
  | window (source destination : Fin 16)
  | notices (kinds : List Notice)
  | mask (flags : List (Notice × Bool))
  | level (aisle : Fin 16) (level count : Nat) (states : List SlotState)
  | link (state : LinkState)
  | work (w : Work)
  | homeOrder (home : Coord)
  | noWork (r : NoWork)
  | verifyFailed (r : FailReason)
  | surveyed (outcome : SurveyOutcome) (next : Option (Fin 48))
  | heads (reports : Vector HeadReport 24) (period remaining : Nat)
  | limits (l : ZoneLimits)
  | zone (z : ZoneReport)
  | capture (samples : List Sample) (remaining : Nat) (mode : CaptureMode) (overrun : Bool)
  | configSection (c : SectionBody)
  | status (s : Status)
  | wheel (handle : Nat) (w : Wheel)
  | handle (w : Nat)
  | hold (h : Hold)
  | booked (w : Nat) (slot : Coord) (entered : Bool)
  | moving (w : Nat) (entered : Bool)
  | deleted
  | removePending (entered : Bool)
  | moveCancelled
  | moveAborting
  | aborted (kind : TaskKind) (wheel : Option Nat) (result : AbortResult)
  | tasks (count care nonCare : Nat) (lines : List TaskLine)
  | survey (task : Fin 64)
  | discrepancy (d : Discrepancy) (remaining : Nat)
  | assigned (w : Nat) (released : Option Nat)
deriving DecidableEq, Repr

/-- What a served request is answered with. -/
structure Reply where
  result : ResultCode
  body   : Body
deriving DecidableEq, Repr

/-- The two places of a transmitter (R182): the response to the outstanding request, and one BUSY. -/
inductive TxPlace
  | answer | busy
deriving DecidableEq, Repr

/-- A response in a transmitter: the kind code it repeats (R181), its reply, and the place it holds. -/
structure Response where
  kindCode : Nat
  reply    : Reply
  place    : TxPlace
deriving DecidableEq, Repr

/-- What holds a port's outstanding request between commands (R182). -/
inductive Outstanding
  /-- Accepted and not yet granted: the port's next request command is its grant (log entry 5). -/
  | accepted
  /-- A SAVE_CONFIG whose save is in flight (R188). -/
  | saving
  /-- Served; its answer waits for its place in the transmitter (log entry 4). -/
  | answered (kindCode : Nat) (reply : Reply)
deriving DecidableEq, Repr

/-- A port's aisle window (R11). -/
structure Window where
  source      : Fin 16
  destination : Fin 16
deriving DecidableEq, Repr

/-- The two rates a strap selects (R181). -/
inductive Baud
  | b57600 | b115200
deriving DecidableEq, Repr

/-- One port's share of the Port Unit (R11, R180 to R185). `rx` holds the bytes of a frame begun, none while hunting; `tx` the
responses waiting or being sent, the first of them the one being sent. -/
structure PortRecord where
  window      : Window
  notices     : List Notice
  mask        : List Notice
  rx          : List Byte
  outstanding : Option Outstanding
  tx          : List Response
  baud        : Baud
deriving DecidableEq, Repr

/-- The three ports. -/
structure Ports where
  management : PortRecord
  robot      : PortRecord
  climate    : PortRecord
deriving DecidableEq, Repr

/-! ## The arbiter -/

/-- The internal requesters (R186). -/
inductive InternalRequest
  | taskDeadline | homeDeadline | zoneUpdate | exclusionEnd (z : ZoneNumber)
deriving DecidableEq, Repr

/-- The places of the arbiter's cycle (R186). -/
inductive CyclePlace
  | port (p : Port) | sweep
deriving DecidableEq, Repr

/-- The arbiter's own state (R186). -/
structure Arbiter where
  cycleLast  : CyclePlace
  passedOver : Nat
  asked      : List InternalRequest
deriving DecidableEq, Repr

/-! ## The whole state -/

/-- The state of the part, block by block, and the queue of commands that wait. -/
structure State where
  clock            : Clock
  supply           : Supply
  slots            : Table SlotEntry
  wheels           : Table Wheel
  tags             : Table Nat
  tasks            : List TaskRecord
  discrepancies    : List Discrepancy
  retainedGeometry : Geometry
  retainedProfiles : Vector CareClass 16
  lastSurvey       : Option SurveyRecord
  dispatch         : Dispatcher
  link             : RobotLink
  sweep            : Sweep
  loop             : SensorLoop
  zones            : Vector Zone 8
  config           : Configuration
  memory           : ConfigMemory
  ports            : Ports
  arbiter          : Arbiter
  pending          : List Instr
deriving DecidableEq, Repr

/-- The block stops on nothing: every command has an effect, or is answered with a result code in its response. Safe: no
command of the table is left without a next state. -/
inductive Fault
deriving DecidableEq, Repr

/-- The reasons a command has no meaning. -/
inductive Refusal
  /-- Raised only by an arm of `exec` whose command has no meaning yet. No arm does so now. Safe: the model stops. -/
  | notModelled (mnemonic : String)
deriving DecidableEq, Repr

/-! ## Reset -/

/-- The notice kinds of a port, in the order of the table of R185. -/
def portNotices : Port → List Notice
  | .management => [.restarted, .inventoryLost, .configDefaulted, .clockUnset, .backlog, .starved, .discrepancy,
      .discrepancyFull, .taskFailed, .moveEnded, .robotLost, .robotHalted, .zoneAlarm]
  | .robot => [.taskAvailable, .abortRequested]
  | .climate => [.zoneAlarm, .sensorLost, .headMissing, .captureDone, .captureOverrun, .exclusionGranted, .exclusionEnded]

/-- A port at a start (R11, R182, R185), before the start notices of R191. -/
def PortRecord.initial (p : Port) (baud : Baud) : PortRecord :=
  { window := ⟨0, 0⟩, notices := [], mask := portNotices p, rx := [], outstanding := none, tx := [], baud := baud }

/-- The link at a start (R95). -/
def RobotLink.initial : RobotLink :=
  { state := .offline, position := none, faults := 0, lastFault := none, verified := false, issuedTag := none, deadline := none,
    homeOrder := none }

/-- The sweep at a start: a pass runs from handle 0 (R53). -/
def Sweep.initial : Sweep :=
  { running := true, cursor := 0, passCount := 0, owed := false, late := false, timer := 0, boundaries := 0 }

/-- The Dispatcher at a start (R94). -/
def Dispatcher.initial : Dispatcher :=
  { paused := false, sequence := 0, lastIssue := Vector.replicate 64 0 }

/-- The part right after its first power-on start (R190, R191): retention loss, the default configuration settled, every block
at its reset values, the first sweep pass running, and the first loop pass, which has no head to poll, ended and handed on.
The stored configuration is invalid, the battery not low and the straps low (log entry 6). -/
def State.reset : State :=
  { clock := { minute := 0, unset := true }
    supply := { state := .running, intact := true, batteryLow := false }
    slots := []
    wheels := []
    tags := []
    tasks := []
    discrepancies := []
    retainedGeometry := Geometry.default
    retainedProfiles := Vector.replicate 16 CareClass.default
    lastSurvey := none
    dispatch := Dispatcher.initial
    link := RobotLink.initial
    sweep := Sweep.initial
    loop :=
      { timer := 0, startsDue := 0, pass := none, lastPoll := none
        heads := Vector.replicate 24 { state := .off, misses := 0, reading := none }
        handed := [Vector.replicate 8 { count := 0, sum := 0 }] }
    zones := Vector.replicate 8 Zone.initial
    config := Configuration.default
    memory :=
      { image := Configuration.default, valid := false, saving := none, lastSave := none, source := .defaults }
    ports :=
      { management :=
          { PortRecord.initial .management .b57600 with
            notices := [.restarted, .inventoryLost, .configDefaulted, .clockUnset] }
        robot := PortRecord.initial .robot .b57600
        climate := PortRecord.initial .climate .b57600 }
    arbiter := { cycleLast := .sweep, passedOver := 0, asked := [.zoneUpdate] }
    pending := [] }

end Sys2Proof.Machine
end

