-- ==== Sys2Proof/Machine/Flags.lean ====
section
/-! DEFINITION. Notice sets, masks and attention lines (R185). -/

namespace Sys2Proof.Machine

/-- Whether a notice kind belongs to a port (the table of R185). -/
def Notice.belongs (n : Notice) (p : Port) : Bool := (portNotices p).contains n

/-- A notice set with a kind placed in it. A set is kept in the order of the port's table, so that equal sets are equal lists. -/
def placeNotice (p : Port) (n : Notice) (set : List Notice) : List Notice :=
  (portNotices p).filter fun k => k == n || set.contains k

/-- The record of one port. -/
def Ports.get (ps : Ports) : Port → PortRecord
  | .management => ps.management
  | .robot => ps.robot
  | .climate => ps.climate

/-- The ports with one record replaced. -/
def Ports.set (ps : Ports) (p : Port) (r : PortRecord) : Ports :=
  match p with
  | .management => { ps with management := r }
  | .robot => { ps with robot := r }
  | .climate => { ps with climate := r }

/-- The record of one port. -/
def State.port (s : State) (p : Port) : PortRecord := s.ports.get p

/-- Replace the record of one port. -/
def State.setPort (s : State) (p : Port) (r : PortRecord) : State := { s with ports := s.ports.set p r }

/-- Raising a notice places its kind in the port's set; a kind already present stays present once (R185). -/
def State.raise (s : State) (p : Port) (n : Notice) : State :=
  s.setPort p { s.port p with notices := placeNotice p n (s.port p).notices }

/-- Raise a notice when a condition holds. -/
def State.raiseIf (s : State) (c : Bool) (p : Port) (n : Notice) : State :=
  if c then s.raise p n else s

/-- A port's attention line: asserted exactly when its notice set holds a kind its mask enables, and deasserted during
retention (R185). -/
def State.attention (s : State) (p : Port) : Bool :=
  s.supply.state == .running && (s.port p).notices.any fun n => (s.port p).mask.contains n

end Sys2Proof.Machine
end

