-- ==== Sys2Proof/Machine/Table.lean ====
section
/-! DEFINITION. The operations of the keyed stores (slot map, wheel table, tag index): look up, put, change, drop, and the
canonical form they keep. -/

namespace Sys2Proof.Machine

/-- The entry under a key. -/
def Table.find {α : Type} (k : Nat) : Table α → Option α
  | [] => none
  | (j, v) :: t => if j = k then some v else Table.find k t

/-- Enter or replace the entry under a key, keeping the keys rising. -/
def Table.put {α : Type} (k : Nat) (v : α) : Table α → Table α
  | [] => [(k, v)]
  | (j, w) :: t => if k < j then (k, v) :: (j, w) :: t else if k = j then (k, v) :: t else (j, w) :: Table.put k v t

/-- Change the entry under a key, if there is one. -/
def Table.change {α : Type} (k : Nat) (f : α → α) : Table α → Table α
  | [] => []
  | (j, v) :: t => if j = k then (j, f v) :: t else (j, v) :: Table.change k f t

/-- Remove the entry under a key. -/
def Table.drop {α : Type} (k : Nat) (t : Table α) : Table α :=
  t.filter fun e => e.1 != k

/-- The canonical form: keys strictly rising. -/
def Table.canonical {α : Type} : Table α → Bool
  | [] => true
  | [_] => true
  | (j, _) :: (k, w) :: t => decide (j < k) && Table.canonical ((k, w) :: t)

/-- The lowest key not below `k`, with its entry (R56). -/
def Table.nextFrom {α : Type} (k : Nat) : Table α → Option (Nat × α)
  | [] => none
  | (j, v) :: t => if k ≤ j then some (j, v) else Table.nextFrom k t

/-- The lowest number, from `k` up, that is no key (R20: the lowest free handle). -/
def Table.lowestFree {α : Type} (k : Nat) : Table α → Nat
  | [] => k
  | (j, _) :: t => if j = k then Table.lowestFree (k + 1) t else if j < k then Table.lowestFree k t else k

end Sys2Proof.Machine
end

