-- ==== Sys2Proof/Machine/Ops.lean ====
section
/-! DEFINITION. The named operations over the stores: slots, wheels, the tag index, tasks, zones, the discrepancy list, and the
port and arbiter bookkeeping around a served request. -/

namespace Sys2Proof.Machine

/-! ## Slots -/

/-- A slot address as a key: every address has its own. -/
def Coord.key (c : Coord) : Nat := (c.aisle.val * 12 + c.level.val) * 48 + c.position.val

/-- The coordinate with the given parts, if they lie within the largest hall (R5). -/
def Coord.ofParts (aisle level position : Nat) : Option Coord :=
  if h : aisle < 16 ∧ level < 12 ∧ position < 48 then some ⟨⟨aisle, h.1⟩, ⟨level, h.2.1⟩, ⟨position, h.2.2⟩⟩ else none

/-- The coordinate that raw parts name (R5, R101). -/
def coordOf (r : RawCoord) : Option Coord := Coord.ofParts r.aisle r.level r.position

/-- A slot exists within the configured counts (R1). -/
def Geometry.has (g : Geometry) (c : Coord) : Bool :=
  decide (c.aisle.val < g.aisles) && decide (c.level.val < g.levels) && decide (c.position.val < g.positions)

/-- The slot entry; an unlisted slot is EMPTY (R10). -/
def State.slot (s : State) (c : Coord) : SlotEntry := (s.slots.find c.key).getD .empty

/-- Write a slot entry, keeping EMPTY slots unlisted. -/
def State.setSlot (s : State) (c : Coord) (e : SlotEntry) : State :=
  { s with slots := if e = .empty then s.slots.drop c.key else s.slots.put c.key e }

/-- The wheel handle an entry records (R6). -/
def SlotEntry.handle : SlotEntry → Option Nat
  | .empty => none
  | .occupied w => some w
  | .reserved _ w => some w
  | .suspect w => w
  | .faulted => none

/-- The state name of an entry (R13). -/
def SlotEntry.name : SlotEntry → SlotState
  | .empty => .empty
  | .occupied _ => .occupied
  | .reserved _ _ => .reserved
  | .suspect _ => .suspect
  | .faulted => .faulted

/-- An entry that is OCCUPIED. -/
def SlotEntry.isOccupied : SlotEntry → Bool
  | .occupied _ => true
  | _ => false

/-- A slot goes to EMPTY when it is RESERVED in the given role by the given wheel, and is left as it is otherwise. -/
def State.freeReserved (s : State) (c : Coord) (role : Role) (w : Nat) : State :=
  if s.slot c = .reserved role w then s.setSlot c .empty else s

/-- A slot lies in a quarantine aisle (R3). -/
def State.quarantined (s : State) (c : Coord) : Bool := s.config.geometry.quarantine[c.aisle]

/-! ## Wheels and the tag index -/

/-- The wheel record under a handle. -/
def State.wheel (s : State) (w : Nat) : Option Wheel := s.wheels.find w

/-- Change a wheel record, if there is one. -/
def State.changeWheel (s : State) (w : Nat) (f : Wheel → Wheel) : State := { s with wheels := s.wheels.change w f }

/-- The handle the tag index holds for a tag (R26). -/
def State.lookup (s : State) (t : TagId) : Option Nat := s.tags.find t.toNat

/-- Create a record with its tag index entry (R20, R26). -/
def State.createWheel (s : State) (w : Nat) (x : Wheel) : State :=
  { s with wheels := s.wheels.put w x, tags := s.tags.put x.tag.toNat w }

/-- Delete a record with its tag index entry (R20, R26). -/
def State.deleteWheel (s : State) (w : Nat) : State :=
  match s.wheel w with
  | none => s
  | some x => { s with wheels := s.wheels.drop w, tags := s.tags.drop x.tag.toNat }

/-- The number of records that hold a class (R37). -/
def State.references (s : State) (n : Fin 16) : Nat := s.wheels.countP fun e => e.2.cls == n

/-! ## Zones -/

/-- The zone of an aisle and level (R4). -/
def State.zoneAt (s : State) (aisle : Fin 16) (level : Fin 12) : ZoneNumber := (s.config.zoneMap[aisle])[level]

/-- The zone of a slot (R4). -/
def State.zoneOf (s : State) (c : Coord) : ZoneNumber := s.zoneAt c.aisle c.level

/-- A zone record. -/
def State.zone (s : State) (z : ZoneNumber) : Zone := s.zones[z]

/-- Change a zone record. -/
def State.changeZone (s : State) (z : ZoneNumber) (f : Zone → Zone) : State := { s with zones := s.zones.set z (f s.zones[z]) }

/-! ## The discrepancy list -/

/-- Record a discrepancy: the entry is added and DISCREPANCY raised, or DISCREPANCY_FULL is raised instead (R145). -/
def State.record (s : State) (kind : DiscrepancyKind) (slot : Option Coord) (handle : Option Nat) (tag : Option TagId) : State :=
  if s.discrepancies.length < Config.discrepancyRoom then
    State.raise { s with discrepancies := s.discrepancies ++ [⟨kind, s.clock.minute, slot, handle, tag⟩] } .management .discrepancy
  else s.raise .management .discrepancyFull

/-! ## Tasks -/

/-- A care task (04 section 4.4). -/
def TaskRecord.isCare (t : TaskRecord) : Bool :=
  match t.kind with
  | .flip | .brush | .flipBrush => true
  | _ => false

/-- A movement task. -/
def TaskRecord.isMovement (t : TaskRecord) : Bool :=
  match t.kind with
  | .movement _ => true
  | _ => false

/-- A task that names a wheel. -/
def TaskRecord.names (t : TaskRecord) (w : Nat) : Bool := t.wheel == some w

/-- A QUEUED task. -/
def TaskRecord.queued (t : TaskRecord) : Bool := t.state == .queued

/-- The care count (R62). -/
def State.careCount (s : State) : Nat := s.tasks.countP TaskRecord.isCare

/-- The non-care count (R62). -/
def State.nonCareCount (s : State) : Nat := s.tasks.countP fun t => !t.isCare

/-- The task that is ISSUED or ABORTING (R68). -/
def State.out (s : State) : Option TaskRecord := s.tasks.find? fun t => !t.queued

/-- The task under a task number. -/
def State.task (s : State) (n : Fin 64) : Option TaskRecord := s.tasks.find? fun t => t.number == n

/-- Change the task under a task number. -/
def State.changeTask (s : State) (n : Fin 64) (f : TaskRecord → TaskRecord) : State :=
  { s with tasks := s.tasks.map fun t => if t.number = n then f t else t }

/-- Set or clear the wheel's marks for the actions of a task kind (R23). -/
def Wheel.mark (x : Wheel) (k : TaskKind) (b : Bool) : Wheel :=
  match k with
  | .flip => { x with flipMark := b }
  | .brush => { x with brushMark := b }
  | .flipBrush => { x with flipMark := b, brushMark := b }
  | .movement _ => { x with moveMark := b }
  | .survey => x

/-- Set or clear the marks of a task on its wheel (R23). -/
def State.markTask (s : State) (t : TaskRecord) (b : Bool) : State :=
  match t.wheel with
  | none => s
  | some w => s.changeWheel w fun x => x.mark t.kind b

/-- Withdraw every QUEUED task that a test picks: each leaves the list, its number is freed and its wheel's marks are cleared;
no outcome is recorded and no notice raised (R85). -/
def State.withdrawWhere (s : State) (p : TaskRecord → Bool) : State :=
  (s.tasks.filter fun t => t.queued && p t).foldl (fun u t => u.markTask t false)
    { s with tasks := s.tasks.filter fun t => !(t.queued && p t) }

/-- Withdraw the QUEUED task under a task number. -/
def State.withdraw (s : State) (n : Fin 64) : State := s.withdrawWhere fun t => t.number == n

/-- Withdraw a wheel's QUEUED care tasks. -/
def State.withdrawCare (s : State) (w : Nat) : State := s.withdrawWhere fun t => t.isCare && t.names w

/-- Withdraw a wheel's QUEUED movement task. -/
def State.withdrawMovement (s : State) (w : Nat) : State := s.withdrawWhere fun t => t.isMovement && t.names w

/-- The tasks that would work on a slot: care tasks whose slot it is, and BEFORE_PICK MOVEs and REMOVEs from it (R86). -/
def TaskRecord.worksOn (t : TaskRecord) (c : Coord) : Bool :=
  t.place == .board c &&
    (t.isCare || ((t.kind == .movement .move || t.kind == .movement .remove) && t.phase == some .beforePick))

/-- A slot becomes SUSPECT: the QUEUED tasks that would work on it are withdrawn in the same grant (R86). -/
def State.makeSuspect (s : State) (c : Coord) (w : Option Nat) : State :=
  (s.setSlot c (.suspect w)).withdrawWhere fun t => t.worksOn c

/-- An OCCUPIED slot becomes SUSPECT naming its recorded wheel; a slot in another state is left as it is (R107, R108, R114). -/
def State.suspectOccupied (s : State) (c : Coord) : State :=
  match s.slot c with
  | .occupied w => s.makeSuspect c (some w)
  | _ => s

/-! ## Served requests -/

/-- The receiver goes back to hunting (R180). -/
def State.hunt (s : State) (p : Port) : State := s.setPort p { s.port p with rx := [] }

/-- The receiver at a request's own command: it hunts again behind the frame (R180), unless the frame was accepted before, when it
holds what has come in since (log entry 5). -/
def PortRecord.received (r : PortRecord) : PortRecord :=
  match r.outstanding with
  | some .accepted => r
  | _ => { r with rx := [] }

/-- A request's frame is in (R180, R182). -/
def State.received (s : State) (p : Port) : State := s.setPort p (s.port p).received

/-- Place a response in a port's transmitter. The request is outstanding until then: while an earlier answer still holds its
place, the answer waits with its request (R182, log entry 4). -/
def PortRecord.answer (r : PortRecord) (code : Nat) (reply : Reply) : PortRecord :=
  if r.tx.any fun x => x.place == .answer then { r with outstanding := some (.answered code reply) }
  else { r with tx := r.tx ++ [⟨code, reply, .answer⟩], outstanding := none }

/-- Answer a request. -/
def State.answer (s : State) (p : Port) (code : Nat) (reply : Reply) : State := s.setPort p ((s.port p).answer code reply)

/-- A BUSY waits in the transmitter: it has been placed and not yet been sent (R182, log entry 4). -/
def PortRecord.busyWaits (r : PortRecord) : Bool := r.tx.any fun x => x.place == .busy

/-- A request command's frame is turned away: another request of the port is outstanding, or a BUSY waits. The command of a request
accepted before is its grant, and a BUSY placed since does not touch it (R182). -/
def PortRecord.turnsAway (r : PortRecord) : Bool :=
  match r.outstanding with
  | some .accepted => false
  | some .saving | some (.answered _ _) => true
  | none => r.busyWaits

/-- That another request is outstanding, where the record holds none, tells of one accepted and not yet granted (R182; log entry 5). -/
def PortRecord.holdsRequest (r : PortRecord) : PortRecord := { r with outstanding := some (r.outstanding.getD .accepted) }

/-- A request accepted while another is outstanding is answered BUSY at once, or discarded when a BUSY already waits (R182). -/
def PortRecord.answerBusy (r : PortRecord) (code : Nat) : PortRecord :=
  if r.busyWaits then r else { r with tx := r.tx ++ [⟨code, ⟨.busy, .empty⟩, .busy⟩] }

/-- Answer a request BUSY. -/
def State.answerBusy (s : State) (p : Port) (code : Nat) : State := s.setPort p ((s.port p).answerBusy code)

/-- A response has left the transmitter: its place is free, and an answer that waited for a place takes it (R182). -/
def PortRecord.sent (r : PortRecord) : PortRecord :=
  match r.outstanding with
  | some (.answered code reply) => PortRecord.answer { r with tx := r.tx.tail } code reply
  | _ => { r with tx := r.tx.tail }

/-- A grant goes to another requester while the sweep visit waits (R186). -/
def State.passSweep (s : State) : State :=
  { s with arbiter := { s.arbiter with
      passedOver := if s.sweep.running then min 4 (s.arbiter.passedOver + 1) else s.arbiter.passedOver } }

/-- A grant to a port: it is the most recent of the cycle, and a waiting sweep visit has been passed over (R186). -/
def State.grantPort (s : State) (p : Port) : State :=
  let u := s.passSweep
  { u with arbiter := { u.arbiter with cycleLast := .port p } }

/-- A grant to an internal requester that has asked; it does not move the cycle (R186). -/
def State.grantInternal (s : State) (i : InternalRequest) : State :=
  if s.arbiter.asked.contains i then
    let u := s.passSweep
    { u with arbiter := { u.arbiter with asked := u.arbiter.asked.erase i } }
  else s

/-- A grant to the sweep (R186). -/
def State.grantSweep (s : State) : State := { s with arbiter := { s.arbiter with cycleLast := .sweep, passedOver := 0 } }

/-- An internal requester asks (R186). -/
def State.ask (s : State) (i : InternalRequest) : State :=
  { s with arbiter := { s.arbiter with asked := s.arbiter.asked ++ [i] } }

/-- Ask when a condition holds. -/
def State.askIf (s : State) (c : Bool) (i : InternalRequest) : State := if c then s.ask i else s

/-- Outside RUNNING the ports and blocks stand still (R182, R190). -/
def State.whenRunning (s : State) (f : State → State) : State :=
  match s.supply.state with
  | .running => f s
  | .retention => s

end Sys2Proof.Machine
end

