-- ==== Sys2Proof/Machine/Operands.lean ====
section
/-! DEFINITION. How a request's frame and arguments are judged: kind codes and permissions (R181 to R183), slots through the
aisle windows (R11), handles (02 section 2.4), tag reports (R24), zones, named coordinates. -/

namespace Sys2Proof.Machine

/-! ## Kinds, permissions, admission -/

/-- The request kinds in the order of the permissions table of R183, each row read from left to right. -/
inductive RequestKind
  | setWindow | readNotices | setNoticeMask
  | listLevel
  | ready | take | homed | arrived | picked | slotRead | done | fault
  | readHeads | setZoneLimits | ackZone | readZone | startCapture | stopCapture | readCapture | endExclusion | readConfig
  | requestExclusion
  | setSlotFault | clearSlotFault | setClock | readStatus | readWheel | findWheel | setClass | hold | release | clearCareFault
  | bookIn | relocate | bookOut | cancelMove | abortTask | pauseDispatch | resumeDispatch | readTasks | clearRobotHalt
  | requestSurvey | readDiscrepancy | resolveSlot | resolveWheel | writeConfig | saveConfig
deriving DecidableEq, Repr

/-- Every request kind, in order. -/
def RequestKind.all : List RequestKind :=
  [.setWindow, .readNotices, .setNoticeMask,
   .listLevel,
   .ready, .take, .homed, .arrived, .picked, .slotRead, .done, .fault,
   .readHeads, .setZoneLimits, .ackZone, .readZone, .startCapture, .stopCapture, .readCapture, .endExclusion, .readConfig,
   .requestExclusion,
   .setSlotFault, .clearSlotFault, .setClock, .readStatus, .readWheel, .findWheel, .setClass, .hold, .release, .clearCareFault,
   .bookIn, .relocate, .bookOut, .cancelMove, .abortTask, .pauseDispatch, .resumeDispatch, .readTasks, .clearRobotHalt,
   .requestSurvey, .readDiscrepancy, .resolveSlot, .resolveWheel, .writeConfig, .saveConfig]

/-- The kind code, 01h to 2Fh (R181). -/
def RequestKind.code (k : RequestKind) : Nat := RequestKind.all.idxOf k + 1

/-- The permissions table of R183. READ_CONFIG on the climate port depends on its section too, see `readConfigPermitted`. -/
def RequestKind.permitted (k : RequestKind) (p : Port) : Bool :=
  match k, p with
  | .setWindow, _ | .readNotices, _ | .setNoticeMask, _ => true
  | .listLevel, .management | .listLevel, .robot => true
  | .ready, .robot | .take, .robot | .homed, .robot | .arrived, .robot | .picked, .robot | .slotRead, .robot | .done, .robot
  | .fault, .robot => true
  | .readHeads, .management | .setZoneLimits, .management | .ackZone, .management | .readZone, .management
  | .startCapture, .management | .stopCapture, .management | .readCapture, .management | .endExclusion, .management
  | .readConfig, .management => true
  | .readHeads, .climate | .setZoneLimits, .climate | .ackZone, .climate | .readZone, .climate
  | .startCapture, .climate | .stopCapture, .climate | .readCapture, .climate | .endExclusion, .climate
  | .readConfig, .climate => true
  | .requestExclusion, .climate => true
  | .setSlotFault, .management | .clearSlotFault, .management | .setClock, .management | .readStatus, .management
  | .readWheel, .management | .findWheel, .management | .setClass, .management | .hold, .management | .release, .management
  | .clearCareFault, .management | .bookIn, .management | .relocate, .management | .bookOut, .management
  | .cancelMove, .management | .abortTask, .management | .pauseDispatch, .management | .resumeDispatch, .management
  | .readTasks, .management | .clearRobotHalt, .management | .requestSurvey, .management | .readDiscrepancy, .management
  | .resolveSlot, .management | .resolveWheel, .management | .writeConfig, .management | .saveConfig, .management => true
  | _, _ => false

/-- On the climate port READ_CONFIG is permitted for the ZONE n sections and the SENSOR section (R183). -/
def readConfigPermitted (p : Port) (name : SectionName) : Bool :=
  RequestKind.readConfig.permitted p &&
    match p, name with
    | .climate, .zone _ => true
    | .climate, .sensor => true
    | .climate, _ => false
    | _, _ => true

/-- What becomes of a request's frame before its own checks; `busy` is a BUSY, or nothing at all where a BUSY waits already. -/
inductive Admission
  | stopped | busy | refused (c : ResultCode) | granted
deriving DecidableEq, Repr

/-- The order of R182 and R183: nothing is received during retention; BUSY while another request of the port is outstanding, and no
answer at all while a BUSY waits, but for a request accepted before; a nonzero result code; the permission; the length. -/
def State.admission (s : State) (f : Frame) (permitted : Bool) : Admission :=
  if s.supply.state = .retention then .stopped
  else if (s.port f.port).turnsAway then .busy
  else if f.result ≠ 0 then .refused .badField
  else if !permitted then .refused .notPermitted
  else if f.form = .badLength then .refused .badField
  else .granted

/-- Carry a request through its admission; when it is granted, `effect` is made in its grant. The effect answers the request or
leaves it outstanding. -/
def State.receive (s : State) (f : Frame) (code : Nat) (permitted : Bool) (effect : State → State) : State :=
  match s.admission f permitted with
  | .stopped => s
  | .busy => (s.hunt f.port).answerBusy f.port code
  | .refused c => (s.received f.port).answer f.port code ⟨c, .empty⟩
  | .granted => effect ((s.received f.port).grantPort f.port)

/-- Serve a request in one grant and answer it (R186). -/
def State.request (s : State) (f : Frame) (k : RequestKind) (effect : State → State × Reply) : State :=
  s.receive f k.code (k.permitted f.port) fun u => (effect u).1.answer f.port k.code (effect u).2

/-- A refusal: nothing changes and the body is empty (R184). -/
def refuse (s : State) (c : ResultCode) : State × Reply := (s, ⟨c, .empty⟩)

/-- Taken, answered OK with a body. -/
def accept (s : State) (b : Body := .empty) : State × Reply := (s, ⟨.ok, b⟩)

/-- A named value that its rule does not list is refused with BAD_FIELD (R32, R113, R147, R187). -/
def named (form : BodyForm) (s : State) (r : State × Reply) : State × Reply :=
  if form = .badName then refuse s .badField else r

/-! ## Arguments -/

/-- A level and position in an aisle, when they lie inside the configured geometry (R11). -/
def State.boardIn (s : State) (aisle : Fin 16) (level position : Nat) : Option Coord :=
  if level < s.config.geometry.levels ∧ position < s.config.geometry.positions then Coord.ofParts aisle.val level position
  else none

/-- The slot a management request names: in the source aisle of the management port's window (R11). -/
def State.sourceBoard (s : State) (level position : Nat) : Option Coord :=
  s.boardIn s.ports.management.window.source level position

/-- Serve a request that names a board of the source aisle; outside the geometry it is refused with BAD_FIELD first (R11). -/
def State.onBoard (s : State) (level position : Nat) (k : Coord → State × Reply) : State × Reply :=
  match s.sourceBoard level position with
  | none => refuse s .badField
  | some c => k c

/-- Serve a request that names a wheel: a handle above 8191 is BAD_FIELD and a free one NOT_FOUND, before any other check. -/
def State.onWheel (s : State) (handle : Nat) (k : Wheel → State × Reply) : State × Reply :=
  if handle < Config.handles then
    match s.wheel handle with
    | none => refuse s .notFound
    | some x => k x
  else refuse s .badField

/-- Serve a request that names a zone: above 7 is BAD_FIELD (R167, R170, R172, R174, R175, R177, R179). -/
def onZone (s : State) (zone : Nat) (k : ZoneNumber → State × Reply) : State × Reply :=
  if h : zone < 8 then k ⟨zone, h⟩ else refuse s .badField

/-- A tag report, classified (R24). -/
inductive TagFinding
  | nothing | unreadable | readable (t : TagId)
deriving DecidableEq, Repr

/-- The classification of a tag report (R24). -/
def classify : TagReport → TagFinding
  | none => .nothing
  | some c => if tagReadable c then .readable (tagIdOf c) else .unreadable

/-- The tag a discrepancy entry keeps: the readable tag found, or none (R25). -/
def TagFinding.tag : TagFinding → Option TagId
  | .readable t => some t
  | _ => none

end Sys2Proof.Machine
end

