-- ==== Sys2Proof/Machine/Score.lean ====
section
/-! DEFINITION. Zones, points and scores of a task, and its eligibility (04 R63, 05 R71 to R77). -/

namespace Sys2Proof.Machine

/-! ## Zones and points -/

/-- The coordinate of a movement's destination; a travel point's is read from the ROBOT section as it stands (R5, R72). -/
def Destination.coord (d : Destination) (s : State) : Coord :=
  match d with
  | .slot c => c
  | .infeed => s.config.robot.infeed
  | .outfeed => s.config.robot.outfeed

/-- The zone of a destination; a travel point belongs to none (R5, R71). -/
def Destination.zones (d : Destination) (s : State) : List ZoneNumber :=
  match d with
  | .slot c => [s.zoneOf c]
  | _ => []

/-- The zone of a task's slot field (R71). -/
def TaskPlace.zones (p : TaskPlace) (s : State) : List ZoneNumber :=
  match p with
  | .board c => [s.zoneOf c]
  | .infeed => []
  | .level a l => [s.zoneAt a l]

/-- The zones of a task under the zone map as it stands (R71). -/
def TaskRecord.zones (t : TaskRecord) (s : State) : List ZoneNumber :=
  match t.kind with
  | .flip | .brush | .flipBrush | .survey => t.place.zones s
  | .movement .place => (t.destination.map fun d => d.zones s).getD []
  | .movement .move => t.place.zones s ++ (t.destination.map fun d => d.zones s).getD []
  | .movement .remove => t.place.zones s
  | .movement .park => []

/-- The coordinate of a task's slot field. -/
def TaskPlace.coord (p : TaskPlace) (s : State) : Coord :=
  match p with
  | .board c => c
  | .infeed => s.config.robot.infeed
  | .level a l => ⟨a, l, 0⟩

/-- The board at a position of the aisle and level of a survey. -/
def TaskPlace.at (p : TaskPlace) (s : State) (position : Fin 48) : Coord := { p.coord s with position := position }

/-- The coordinate of a task's destination, or of its slot field when it has none. -/
def TaskRecord.goal (t : TaskRecord) (s : State) : Coord :=
  match t.destination with
  | some d => d.coord s
  | none => t.place.coord s

/-- The first point (R72, and R140 for a survey that is COMPLETE). -/
def TaskRecord.firstPoint (t : TaskRecord) (s : State) : Coord :=
  match t.kind with
  | .flip | .brush | .flipBrush => t.place.coord s
  | .movement _ => if t.phase = some .carried then t.goal s else t.place.coord s
  | .survey =>
    match t.range with
    | some r => t.place.at s (r.next.getD r.last)
    | none => t.place.coord s

/-- The last point (R72). -/
def TaskRecord.lastPoint (t : TaskRecord) (s : State) : Coord :=
  match t.kind with
  | .flip | .brush | .flipBrush => t.place.coord s
  | .movement _ => t.goal s
  | .survey =>
    match t.range with
    | some r => t.place.at s r.last
    | none => t.place.coord s

/-! ## Scores -/

/-- The weight of a task: that of the class its wheel holds, and 8 for a SURVEY (R63). -/
def State.weightOf (s : State) (t : TaskRecord) : Nat :=
  match t.wheel.bind s.wheel with
  | some x => s.config.classes[x.cls].weight
  | none => Config.surveyWeight

/-- The lateness L of a task, 0 when its minute lies ahead of the clock (R63). -/
def State.lateness (s : State) (t : TaskRecord) : Nat := s.clock.minute - t.minute

/-- The alarm boost: of a care task whose zone is in HIGH_ALARM (R63). The zone is that of its board by the zone map as it stands, for a
task that is ISSUED or ABORTING too (DESIGN CHOICE, log entry 32). -/
def State.alarmBoost (s : State) (t : TaskRecord) : Nat :=
  if t.isCare then
    match t.place with
    | .board c => if (s.zone (s.zoneOf c)).alarm = .highAlarm then s.config.zones[s.zoneOf c].boost else 0
    | _ => 0
  else 0

/-- The kind boost: the movement boost of a non-care task (R63). -/
def State.kindBoost (s : State) (t : TaskRecord) : Nat := if t.isCare then 0 else s.config.robot.boost

/-- The standing score (R63). -/
def State.standing (s : State) (t : TaskRecord) : Nat :=
  min Config.maxScore
    (min Config.maxLateness (s.lateness t * s.weightOf t / 8) + s.alarmBoost t + s.kindBoost t)

/-- The travel cost from the robot position to the first point; 0 when the position is unknown (R73). -/
def State.travelCost (s : State) (t : TaskRecord) : Nat :=
  match s.link.position with
  | none => 0
  | some p =>
    let q := t.firstPoint s
    s.config.robot.ca * ((p.aisle.val : Int) - q.aisle.val).natAbs + s.config.robot.cl * ((p.level.val : Int) - q.level.val).natAbs

/-- The dispatch score: the standing score less the travel cost, clamped to 0-65535 (R73). -/
def State.dispatchScore (s : State) (t : TaskRecord) : Nat := s.standing t - s.travelCost t

/-! ## Eligibility and choice -/

/-- A zone with an exclusion PENDING or ACTIVE (R76). -/
def State.excluded (s : State) (z : ZoneNumber) : Bool := (s.zone z).exclusion != .none

/-- A task's slot lies in a zone in LOW_ALARM. -/
def State.inLowAlarm (s : State) (t : TaskRecord) : Bool :=
  match t.place with
  | .board c => (s.zone (s.zoneOf c)).alarm == .lowAlarm
  | _ => false

/-- A task is eligible at TAKE (R76). -/
def State.eligible (s : State) (t : TaskRecord) : Bool :=
  t.queued && (t.zones s).all (fun z => !s.excluded z) && !(t.kind == .brush && s.inLowAlarm t)

/-- The better of two eligible tasks: the higher dispatch score, and among equals the lower enqueue sequence (R75). -/
def State.better (s : State) (a b : TaskRecord) : TaskRecord :=
  if s.dispatchScore a < s.dispatchScore b ∨ (s.dispatchScore a = s.dispatchScore b ∧ b.sequence < a.sequence) then b else a

/-- The best of the eligible tasks (R75). -/
def State.best (s : State) : List TaskRecord → Option TaskRecord
  | [] => none
  | t :: rest => some (rest.foldl s.better t)

/-- The earlier entered of two tasks. -/
def older (a b : TaskRecord) : TaskRecord := if b.sequence < a.sequence then b else a

/-- The QUEUED CARRIED task with the lowest enqueue sequence (R77). -/
def State.carriedFirst (s : State) : Option TaskRecord :=
  match s.tasks.filter fun t => t.queued && t.phase == some .carried with
  | [] => none
  | t :: rest => some (rest.foldl older t)

/-- What the Dispatcher makes of a TAKE after the check: nothing to do, everything held back, or a task (R77, R79). -/
inductive Choice
  | empty | blocked | task (t : TaskRecord)
deriving DecidableEq, Repr

/-- The Dispatcher's choice in a list already checked (R77, R79 steps 3 to 5). -/
def State.choice (s : State) : Choice :=
  if s.tasks = [] then .empty
  else
    match s.carriedFirst with
    | some t => if s.eligible t then .task t else .blocked
    | none =>
      match s.best (s.tasks.filter s.eligible) with
      | some t => .task t
      | none => .blocked

/-! ## The check at TAKE -/

/-- The wheel's location agrees with its intent (the table of R58). -/
def State.intentFits (s : State) (x : Wheel) (i : Intent) : Bool :=
  match i.phase, i.kind, x.location with
  | .beforePick, .place, .atInfeed => true
  | .beforePick, .move, .inSlot c => (s.slot c).isOccupied
  | .beforePick, .remove, .inSlot c => (s.slot c).isOccupied
  | .carried, _, .inGripper => true
  | _, _, _ => false

/-- A QUEUED task disagrees with its wheel, its slot or its zone (R78). -/
def State.disagrees (s : State) (t : TaskRecord) : Bool :=
  match t.kind with
  | .survey => false
  | .movement k =>
    match t.wheel.bind s.wheel with
    | none => true
    | some x =>
      match x.intent with
      | none => true
      | some i => i.kind != k || t.phase != some i.phase || !s.intentFits x i
  | _ =>
    match t.wheel.bind s.wheel, t.place with
    | some x, .board c =>
      x.location != .inSlot c || !(s.slot c).isOccupied || x.hold == .inspect || x.careFault.isSome ||
        (t.kind == .brush && ((s.zone (s.zoneOf c)).alarm == .lowAlarm || x.hold == .quarantine))
    | _, _ => true

/-- The check each TAKE in IDLE makes: the QUEUED tasks that disagree are withdrawn (R78). -/
def State.checkList (s : State) : State := s.withdrawWhere fun t => s.disagrees t

/-- A TAKE served now in IDLE would issue a task (R91). With several QUEUED CARRIED tasks the oldest decides, as at the TAKE itself
(R77), also where a younger one is ineligible (DEDUCED: log entry 15). -/
def State.wouldIssue (s : State) : Bool :=
  match s.checkList.choice with
  | .task _ => true
  | _ => false

/-- The TASK_AVAILABLE test at the end of a grant (R91). -/
def State.testAvailable (s : State) : State :=
  s.raiseIf (s.link.state == .idle && !s.dispatch.paused && s.wouldIssue) .robot .taskAvailable

/-- Run the test when a condition holds. -/
def State.testIf (s : State) (c : Bool) : State := if c then s.testAvailable else s

end Sys2Proof.Machine
end

