-- ==== Sys2Proof/Machine/Humidity.lean ====
section
/-! DEFINITION. The Zone Monitor: the end-of-pass update with its alarm machine, capture and task effects, the requests on zones,
limits, captures and exclusions, and READ_HEADS (09 R161 to R165, 10). -/

namespace Sys2Proof.Machine

/-! ## The end-of-pass update of one zone -/

/-- The raw mean: rounded to the nearest tenth, halves up (R163 step 1). -/
def rawMean (r : ZoneReadings) : Nat := (r.sum + r.count / 2) / r.count

/-- The filter step, its quotient truncated toward zero (R163 step 2). -/
def filterStep (held raw shift : Nat) : Nat :=
  ((held : Int) + Int.tdiv ((raw : Int) - held) ((2 : Int) ^ shift)).toNat

/-- The filtered humidity of a LIVE update: the first sample after UNSEEN or LOST, else the filter (R163 step 2). -/
def Zone.filter (z : Zone) (raw shift : Nat) : Nat :=
  match z.humidity, z.filtered with
  | .live, some h => filterStep h raw shift
  | .holding, some h => filterStep h raw shift
  | _, _ => raw

/-- A dwell count stays at 30 once there (R168). -/
def dwellUp (n : Nat) : Nat := min 30 (n + 1)

/-- One step of the alarm machine with a filtered humidity: the new state and dwell count (R168). -/
def alarmStep (l : ZoneLimits) (a : AlarmState) (dwell hf : Nat) : AlarmState × Nat :=
  match a with
  | .normal =>
    if hf < l.lo then (if l.dwell = 1 then .lowAlarm else .lowWatch, 1)
    else if l.hi < hf then (if l.dwell = 1 then .highAlarm else .highWatch, 1)
    else (.normal, 0)
  | .lowWatch =>
    if hf < l.lo then (if l.dwell ≤ dwellUp dwell then .lowAlarm else .lowWatch, dwellUp dwell) else (.normal, 0)
  | .lowAlarm => if l.lo + l.hy ≤ hf then (.normal, 0) else (.lowAlarm, dwell)
  | .highWatch =>
    if l.hi < hf then (if l.dwell ≤ dwellUp dwell then .highAlarm else .highWatch, dwellUp dwell) else (.normal, 0)
  | .highAlarm => if hf + l.hy ≤ l.hi then (.normal, 0) else (.highAlarm, dwell)

/-- LOW_ALARM and HIGH_ALARM. -/
def AlarmState.isAlarm : AlarmState → Bool
  | .lowAlarm | .highAlarm => true
  | _ => false

/-- A change into or out of an alarm (R170). -/
def alarmChanged (before after : AlarmState) : Bool := before != after && (before.isAlarm || after.isAlarm)

/-- A zone's alarm machine set to a state and dwell count, with the unacknowledged flag of R170. -/
def Zone.setAlarm (z : Zone) (a : AlarmState × Nat) : Zone :=
  { z with alarm := a.1, dwell := a.2, unacked := z.unacked || alarmChanged z.alarm a.1 }

/-- A capture ring with a sample appended, the oldest dropped from a full one (R173). -/
def ringPush (ring : List Sample) (x : Sample) : List Sample :=
  if Config.ringRoom ≤ ring.length then ring.tail ++ [x] else ring ++ [x]

/-- The capture mode after an append: a COUNTED capture falls by one and ends at 0 (R173). -/
def CaptureMode.afterAppend : CaptureMode → CaptureMode
  | .off => .off
  | .continuous => .continuous
  | .counted n => if n ≤ 1 then .off else .counted (n - 1)

/-- The append of a LIVE update to a zone whose capture mode is not OFF (R173). -/
def Zone.append (z : Zone) (x : Sample) : Zone :=
  match z.capture with
  | .off => z
  | m =>
    { z with
      ring := ringPush z.ring x
      overrun := z.overrun || decide (Config.ringRoom ≤ z.ring.length)
      capture := m.afterAppend }

/-- A LIVE update (R163, R165, R168, R173). -/
def Zone.liveUpdate (z : Zone) (l : ZoneLimits) (now : Nat) (r : ZoneReadings) : Zone :=
  let hf := z.filter (rawMean r) l.shift
  let y := { z with humidity := .live, raw := some (rawMean r), filtered := some hf, holdCount := 0 }
  (y.setAlarm (alarmStep l z.alarm z.dwell hf)).append
    { minute := now, raw := rawMean r, filtered := hf, count := r.count }

/-- The humidity state after a pass that gave the zone no reading (R164). -/
def Zone.quietState (z : Zone) (hold : Nat) : HumidityState :=
  match z.humidity with
  | .unseen => .unseen
  | .lost => .lost
  | .live | .holding => if hold ≤ z.holdCount then .lost else .holding

/-- Entry into LOST. -/
def entersLost (before after : HumidityState) : Bool := before != .lost && after == .lost

/-- The update of a zone with no reading; an entry into LOST forces the alarm machine to NORMAL (R164, R169). -/
def Zone.quietUpdate (z : Zone) (hold : Nat) : Zone :=
  let y := { z with humidity := z.quietState hold }
  if entersLost z.humidity y.humidity then y.setAlarm (.normal, 0) else y

/-- The end-of-pass update of a zone (R163, R164). -/
def Zone.update (z : Zone) (l : ZoneLimits) (now : Nat) (r : ZoneReadings) : Zone :=
  if r.count = 0 then z.quietUpdate l.hold else z.liveUpdate l now r

/-! ## The whole update -/

/-- The zones after a pass. -/
def State.updatedZones (s : State) (p : Vector ZoneReadings 8) : Vector Zone 8 :=
  Vector.ofFn fun z => (s.zones[z]).update s.config.zones[z] s.clock.minute p[z]

/-- Some zone shows a change. -/
def someZone (before after : Vector Zone 8) (f : Zone → Zone → Bool) : Bool :=
  (List.finRange 8).any fun z => f before[z] after[z]

/-- A zone enters LOW_ALARM. -/
def entersLow (before after : Zone) : Bool := before.alarm != .lowAlarm && after.alarm == .lowAlarm

/-- An update with readings drops the oldest sample of a full ring that is capturing (R173). -/
def Zone.overruns (z : Zone) (r : ZoneReadings) : Bool :=
  r.count != 0 && z.capture != .off && decide (Config.ringRoom ≤ z.ring.length)

/-- A COUNTED capture has ended. -/
def captureEnded (before after : Zone) : Bool := before.capture != .off && after.capture == .off

/-- The notices of an end-of-pass update (R164, R170, R173). -/
def State.zoneNotices (s : State) (before after : Vector Zone 8) (p : Vector ZoneReadings 8) : State :=
  let u := s.raiseIf (someZone before after fun a b => entersLost a.humidity b.humidity) .climate .sensorLost
  let alarmed := someZone before after fun a b => alarmChanged a.alarm b.alarm
  let u := (u.raiseIf alarmed .climate .zoneAlarm).raiseIf alarmed .management .zoneAlarm
  let u := u.raiseIf ((List.finRange 8).any fun z => before[z].overruns p[z]) .climate .captureOverrun
  u.raiseIf (someZone before after captureEnded) .climate .captureDone

/-- A QUEUED BRUSH whose slot lies in a zone that enters LOW_ALARM (R171). -/
def State.brushInEntering (s : State) (before after : Vector Zone 8) (t : TaskRecord) : Bool :=
  t.kind == .brush && (t.place.zones s).any fun z => entersLow before[z] after[z]

/-- The end-of-pass update of all eight zones in one grant (R171). -/
def State.updateZones (s : State) (p : Vector ZoneReadings 8) : State :=
  let after := s.updatedZones p
  let u := { s with zones := after }
  let u := u.zoneNotices s.zones after p
  let u := u.withdrawWhere fun t => s.brushInEntering s.zones after t
  u.testIf (someZone s.zones after fun a b => a.alarm != b.alarm)

/-- ZONE_UPDATE in its grant: the oldest pass handed on is taken (R171; log entry 10). -/
def State.takeHanded (s : State) : State :=
  let u := s.grantInternal .zoneUpdate
  match u.loop.handed with
  | [] => u
  | p :: rest => State.updateZones { u with loop := { u.loop with handed := rest } } p

/-- ZONE_UPDATE (R171). -/
def execZoneUpdate (s : State) : Host.Outcome State Fault Refusal := .next (s.whenRunning State.takeHanded)

/-! ## READ_HEADS -/

/-- The seconds until the next pass begins; 0 while a start is due (R161). -/
def State.secondsToPass (s : State) : Nat := if s.loop.startsDue = 0 then s.config.sensor.period - s.loop.timer else 0

/-- READ_HEADS in its grant (R161). -/
def serveReadHeads (s : State) : State × Reply :=
  accept s (.heads (Vector.ofFn fun i => ⟨s.config.sensor.assignment[i], s.loop.heads[i]⟩) s.config.sensor.period s.secondsToPass)

/-- READ_HEADS (R161). -/
def execReadHeads (f : Frame) (s : State) : Host.Outcome State Fault Refusal := .next (s.request f .readHeads serveReadHeads)

/-! ## Limits -/

/-- Steps 2 to 4 of R167: the clamps, the ranges, the band. -/
def judgeLimits (l : RawLimits) : Option ZoneLimits :=
  let hy := min 50 l.hy
  let dwell := max 1 (min 30 l.dwell)
  if 1000 < l.lo ∨ 1000 < l.hi ∨ 4095 < l.boost ∨ 720 < l.hold ∨ 4 < l.shift then none
  else if l.hi < l.lo + 2 * hy then none
  else some { lo := l.lo, hi := l.hi, hy := hy, dwell := dwell, boost := l.boost, hold := l.hold, shift := l.shift }

/-- The limits of a zone replaced. -/
def State.setLimits (s : State) (z : ZoneNumber) (l : ZoneLimits) : State :=
  { s with config := { s.config with zones := s.config.zones.set z l } }

/-- A ZONE section written in its grant: BUSY while a save is in flight, then the zone number, then the fields (R167, R187). -/
def serveLimits (zone : Nat) (limits : RawLimits) (s : State) : State × Reply :=
  if s.memory.saving.isSome then refuse s .busy
  else
    onZone s zone fun z =>
      match judgeLimits limits with
      | none => refuse s .badField
      | some l => accept (s.setLimits z l) (.limits l)

/-- SET_ZONE_LIMITS (R167). -/
def execSetZoneLimits (f : Frame) (zone : Nat) (limits : RawLimits) (s : State) : Host.Outcome State Fault Refusal :=
  .next (s.request f .setZoneLimits (serveLimits zone limits))

/-! ## Zone records -/

/-- ACK_ZONE in its grant (R170). -/
def serveAckZone (zone : Nat) (s : State) : State × Reply :=
  onZone s zone fun z => accept (s.changeZone z fun r => { r with unacked := false })

/-- ACK_ZONE (R170). -/
def execAckZone (f : Frame) (zone : Nat) (s : State) : Host.Outcome State Fault Refusal :=
  .next (s.request f .ackZone (serveAckZone zone))

/-- A zone record as it is answered (R172). -/
def Zone.report (z : Zone) : ZoneReport :=
  { humidity := z.humidity, raw := z.raw, filtered := z.filtered, holdCount := z.holdCount, alarm := z.alarm, dwell := z.dwell,
    unacked := z.unacked, capture := z.capture, samples := z.ring.length, overrun := z.overrun, exclusion := z.exclusion,
    presence := z.presence }

/-- READ_ZONE in its grant (R172). -/
def serveReadZone (zone : Nat) (s : State) : State × Reply := onZone s zone fun z => accept s (.zone (s.zone z).report)

/-- READ_ZONE (R172). -/
def execReadZone (f : Frame) (zone : Nat) (s : State) : Host.Outcome State Fault Refusal :=
  .next (s.request f .readZone (serveReadZone zone))

/-! ## Capture -/

/-- START_CAPTURE in its grant: a count of 0 is CONTINUOUS (R174). -/
def serveStartCapture (zone count : Nat) (s : State) : State × Reply :=
  onZone s zone fun z =>
    if count ≤ 255 then
      accept (s.changeZone z fun r =>
        { r with ring := [], overrun := false, capture := if count = 0 then .continuous else .counted count })
    else refuse s .badField

/-- START_CAPTURE (R174). -/
def execStartCapture (f : Frame) (zone count : Nat) (s : State) : Host.Outcome State Fault Refusal :=
  .next (s.request f .startCapture (serveStartCapture zone count))

/-- STOP_CAPTURE in its grant (R174). -/
def serveStopCapture (zone : Nat) (s : State) : State × Reply :=
  onZone s zone fun z => accept (s.changeZone z fun r => { r with capture := .off })

/-- STOP_CAPTURE (R174). -/
def execStopCapture (f : Frame) (zone : Nat) (s : State) : Host.Outcome State Fault Refusal :=
  .next (s.request f .stopCapture (serveStopCapture zone))

/-- READ_CAPTURE in its grant: the oldest samples, up to the count, leave the ring (R175). -/
def serveReadCapture (zone count : Nat) (s : State) : State × Reply :=
  onZone s zone fun z =>
    if 1 ≤ count ∧ count ≤ 6 then
      let r := s.zone z
      accept (s.changeZone z fun x => { x with ring := x.ring.drop count })
        (.capture (r.ring.take count) (r.ring.length - count) r.capture r.overrun)
    else refuse s .badField

/-- READ_CAPTURE (R175). -/
def execReadCapture (f : Frame) (zone count : Nat) (s : State) : Host.Outcome State Fault Refusal :=
  .next (s.request f .readCapture (serveReadCapture zone count))

/-! ## Exclusions -/

/-- An exclusion request meets the zone record: the exclusion after it and the answer (the table of R177). -/
def Zone.requestExclusion (z : Zone) (minutes : Nat) : Exclusion × ResultCode :=
  match z.exclusion with
  | .active r => (.active (max r minutes), .granted)
  | .pending _ => (.pending minutes, .pending)
  | .none => if z.presence then (.pending minutes, .pending) else (.active minutes, .granted)

/-- REQUEST_EXCLUSION in its grant (R177). -/
def serveRequestExclusion (zone minutes : Nat) (s : State) : State × Reply :=
  onZone s zone fun z =>
    let r := (s.zone z).requestExclusion (max 1 (min 240 minutes))
    (s.changeZone z fun x => { x with exclusion := r.1 }, ⟨r.2, .empty⟩)

/-- REQUEST_EXCLUSION (R177). -/
def execRequestExclusion (f : Frame) (zone minutes : Nat) (s : State) : Host.Outcome State Fault Refusal :=
  .next (s.request f .requestExclusion (serveRequestExclusion zone minutes))

/-- An exclusion becomes NONE: EXCLUSION_ENDED is raised and the TASK_AVAILABLE test runs (R179). -/
def State.endExclusion (s : State) (z : ZoneNumber) : State :=
  ((s.changeZone z fun x => { x with exclusion := .none }).raise .climate .exclusionEnded).testAvailable

/-- END_EXCLUSION in its grant (R179). -/
def serveEndExclusion (zone : Nat) (s : State) : State × Reply :=
  onZone s zone fun z =>
    match (s.zone z).exclusion with
    | .none => refuse s .state
    | _ => accept (s.endExclusion z)

/-- END_EXCLUSION (R179). -/
def execEndExclusion (f : Frame) (zone : Nat) (s : State) : Host.Outcome State Fault Refusal :=
  .next (s.request f .endExclusion (serveEndExclusion zone))

/-- The ending grant: an exclusion still ACTIVE with 0 remaining ends; otherwise nothing (R179). -/
def State.exclusionEnding (s : State) (z : ZoneNumber) : State :=
  let u := s.grantInternal (.exclusionEnd z)
  if (u.zone z).exclusion = .active 0 then u.endExclusion z else u

/-- EXCLUSION_ENDING (R179). -/
def execExclusionEnding (z : ZoneNumber) (s : State) : Host.Outcome State Fault Refusal :=
  .next (s.whenRunning fun u => u.exclusionEnding z)

end Sys2Proof.Machine
end

