-- ==== Sys2Proof/Machine/Configure.lean ====
section
/-! DEFINITION. Reading, writing and saving the configuration: READ_CONFIG, WRITE_CONFIG of each section, SAVE_CONFIG and the save's
completion (01 R1, R4, 03 R38, R41, 04 R54, 09 R156, 10 R167, 11 section 11.5). -/

namespace Sys2Proof.Machine

/-! ## READ_CONFIG -/

/-- READ_CONFIG on the climate port reads ZONE and SENSOR sections; any other name, listed or not, is not permitted there (R183;
log entry 16). -/
def readConfigAllowed (f : Frame) (name : SectionName) : Bool :=
  readConfigPermitted f.port name && !(f.port == .climate && f.form == .badName)

/-- A section as it stands; none for a number that does not exist (R1, R4, R41, R54, R156, R167, R187). -/
def State.section (s : State) (name : SectionName) : Option SectionBody :=
  match name with
  | .geometry => some (.geometry s.config.geometry)
  | .zoneMap aisle => if h : aisle < 16 then some (.zoneMap s.config.zoneMap[aisle]) else none
  | .careClass n => if h : n < 16 then some (.careClass s.config.classes[n] (s.references ⟨n, h⟩)) else none
  | .robot => some (.robot s.config.robot)
  | .sweep => some (.sweep s.config.period)
  | .sensor => some (.sensor s.config.sensor)
  | .zone n => if h : n < 8 then some (.zone s.config.zones[n]) else none

/-- READ_CONFIG in its grant (R187). -/
def serveReadConfig (form : BodyForm) (name : SectionName) (s : State) : State × Reply :=
  named form s (match s.section name with
    | some b => accept s (.configSection b)
    | none => refuse s .badField)

/-- READ_CONFIG (R187). -/
def execReadConfig (f : Frame) (name : SectionName) (s : State) : Host.Outcome State Fault Refusal :=
  .next (s.receive f RequestKind.readConfig.code (readConfigAllowed f name) fun u =>
    (serveReadConfig f.form name u).1.answer f.port RequestKind.readConfig.code (serveReadConfig f.form name u).2)

/-! ## GEOMETRY -/

/-- The fields of a GEOMETRY section in range: the counts, and no quarantine aisle beyond them (R1). -/
def judgeGeometry (aisles levels positions : Nat) (quarantine : Vector Bool 16) : Option Geometry :=
  if 1 ≤ aisles ∧ aisles ≤ 16 ∧ 1 ≤ levels ∧ levels ≤ 12 ∧ 1 ≤ positions ∧ positions ≤ 48 ∧
      (List.finRange 16).all (fun a => !quarantine[a] || decide (a.val < aisles)) then
    some { aisles := aisles, levels := levels, positions := positions, quarantine := quarantine }
  else none

/-- An aisle of a window that a new aisle count removes becomes 0 (R1). -/
def keepAisle (aisles : Nat) (a : Fin 16) : Fin 16 := if a.val < aisles then a else 0

/-- A port's window under a new aisle count (R1). -/
def PortRecord.fitWindow (r : PortRecord) (aisles : Nat) : PortRecord :=
  { r with window := ⟨keepAisle aisles r.window.source, keepAisle aisles r.window.destination⟩ }

/-- A GEOMETRY section is taken: every slot EMPTY, the windows fitted, the retained geometry written (R1, R2). -/
def State.takeGeometry (s : State) (g : Geometry) : State :=
  { s with
    config := { s.config with geometry := g }
    retainedGeometry := g
    slots := []
    ports :=
      { management := s.ports.management.fitWindow g.aisles
        robot := s.ports.robot.fitWindow g.aisles
        climate := s.ports.climate.fitWindow g.aisles } }

/-- WRITE_CONFIG of GEOMETRY in its grant (R1). -/
def serveWriteGeometry (aisles levels positions : Nat) (quarantine : Vector Bool 16) (s : State) : State × Reply :=
  match judgeGeometry aisles levels positions quarantine with
  | none => refuse s .badField
  | some g => if s.wheels = [] ∧ s.tasks = [] then accept (s.takeGeometry g) else refuse s .state

/-- WRITE_CONFIG of GEOMETRY (R1). -/
def execWriteConfigGeometry (f : Frame) (aisles levels positions : Nat) (quarantine : Vector Bool 16) (s : State) :
    Host.Outcome State Fault Refusal :=
  .next (s.request f .writeConfig fun u => named f.form u (serveWriteGeometry aisles levels positions quarantine u))

/-! ## ZONE_MAP -/

/-- Zone values, if all are 0 to 7 (R4). -/
def zonesOf {n : Nat} (v : Vector Nat n) : Option (Vector ZoneNumber n) :=
  if v.toList.all (fun z => decide (z < 8)) then some (v.map fun z => Fin.ofNat 8 z) else none

/-- A QUEUED BRUSH whose zone is in LOW_ALARM (R87). -/
def State.dryBrush (s : State) (t : TaskRecord) : Bool := t.kind == .brush && s.inLowAlarm t

/-- A ZONE_MAP write is taken: the aisle's entries, the withdrawals of R87, the TASK_AVAILABLE test (R4, R87, R91). -/
def State.takeZoneMap (s : State) (aisle : Fin 16) (zones : Vector ZoneNumber 12) : State :=
  let u := { s with config := { s.config with zoneMap := s.config.zoneMap.set aisle zones } }
  (u.withdrawWhere fun t => u.dryBrush t).testAvailable

/-- WRITE_CONFIG of ZONE_MAP in its grant (R4). -/
def serveWriteZoneMap (aisle : Nat) (zones : Vector Nat 12) (s : State) : State × Reply :=
  if h : aisle < 16 then
    match zonesOf zones with
    | some v => accept (s.takeZoneMap ⟨aisle, h⟩ v)
    | none => refuse s .badField
  else refuse s .badField

/-- WRITE_CONFIG of ZONE_MAP (R4). -/
def execWriteConfigZoneMap (f : Frame) (aisle : Nat) (zones : Vector Nat 12) (s : State) : Host.Outcome State Fault Refusal :=
  .next (s.request f .writeConfig fun u => named f.form u (serveWriteZoneMap aisle zones u))

/-! ## CARE_CLASS -/

/-- A base in the range of a flip base (R37). -/
def flipBaseFits (b : Nat) : Bool := decide (30 ≤ b) && decide (b ≤ 43200)

/-- A base in the range of a brush base: 0 as well (R37). -/
def brushBaseFits (b : Nat) : Bool := b == 0 || flipBaseFits b

/-- Every field of a CARE_CLASS section in its range (R37, R38). -/
def RawClass.fits (c : RawClass) : Bool :=
  decide (700 ≤ c.setpoint) && decide (c.setpoint ≤ 990) &&
  decide (1 ≤ c.d1) && decide (c.d1 < c.d2) && decide (c.d2 < c.d3) && decide (c.d3 ≤ 999) &&
  c.flipBase.toList.all flipBaseFits && c.brushBase.toList.all brushBaseFits &&
  decide (c.kf ≤ 100) && decide (c.kb ≤ 100) && decide (1 ≤ c.weight) && decide (c.weight ≤ 255) && decide (c.merge ≤ 240)

/-- The class record of a CARE_CLASS section. -/
def RawClass.record (c : RawClass) : CareClass :=
  { valid := c.valid, setpoint := c.setpoint, d1 := c.d1, d2 := c.d2, d3 := c.d3, flipBase := c.flipBase,
    brushBase := c.brushBase, kf := c.kf, kb := c.kb, weight := c.weight, merge := c.merge }

/-- A class record replaced, with its retained copy (R38, R42). -/
def State.takeClass (s : State) (n : Fin 16) (c : CareClass) : State :=
  { s with
    config := { s.config with classes := s.config.classes.set n c }
    retainedProfiles := s.retainedProfiles.set n c }

/-- WRITE_CONFIG of CARE_CLASS in its grant (R38). -/
def serveWriteCareClass (n : Nat) (fields : RawClass) (s : State) : State × Reply :=
  if h : n < 16 then
    if !RawClass.fits fields then refuse s .badField
    else if fields.valid = false ∧ 0 < s.references ⟨n, h⟩ then refuse s .state
    else accept (s.takeClass ⟨n, h⟩ (RawClass.record fields))
  else refuse s .badField

/-- WRITE_CONFIG of CARE_CLASS (R38). -/
def execWriteConfigCareClass (f : Frame) (n : Nat) (fields : RawClass) (s : State) : Host.Outcome State Fault Refusal :=
  .next (s.request f .writeConfig fun u => named f.form u (serveWriteCareClass n fields u))

/-! ## ROBOT and SWEEP -/

/-- The fields of a ROBOT section in range (R5, R117, R187). -/
def judgeRobot (r : RawRobot) : Option RobotSection :=
  match coordOf r.infeed, coordOf r.outfeed, coordOf r.home with
  | some i, some o, some h =>
    if r.allowances.toList.all (fun a => decide (1 ≤ a) && decide (a ≤ 60)) ∧ r.ca ≤ 255 ∧ r.cl ≤ 63 ∧ r.boost ≤ 4095 then
      some { infeed := i, outfeed := o, home := h, allowances := r.allowances, ca := r.ca, cl := r.cl, boost := r.boost }
    else none
  | _, _, _ => none

/-- WRITE_CONFIG of ROBOT in its grant (R187). -/
def serveWriteRobot (fields : RawRobot) (s : State) : State × Reply :=
  match judgeRobot fields with
  | some r => accept { s with config := { s.config with robot := r } }
  | none => refuse s .badField

/-- WRITE_CONFIG of ROBOT (R187). -/
def execWriteConfigRobot (f : Frame) (fields : RawRobot) (s : State) : Host.Outcome State Fault Refusal :=
  .next (s.request f .writeConfig fun u => named f.form u (serveWriteRobot fields u))

/-- WRITE_CONFIG of SWEEP in its grant: the period timer restarts (R54). -/
def serveWriteSweep (period : Nat) (s : State) : State × Reply :=
  if 1 ≤ period ∧ period ≤ 60 then
    accept { s with config := { s.config with period := period }, sweep := { s.sweep with timer := 0 } }
  else refuse s .badField

/-- WRITE_CONFIG of SWEEP (R54). -/
def execWriteConfigSweep (f : Frame) (period : Nat) (s : State) : Host.Outcome State Fault Refusal :=
  .next (s.request f .writeConfig fun u => named f.form u (serveWriteSweep period u))

/-! ## SENSOR -/

/-- A head assignment: none, or a zone 0 to 7 (R156). -/
def assignmentFits (z : Option Nat) : Bool :=
  match z with
  | some n => decide (n < 8)
  | none => true

/-- The fields of a SENSOR section in range (R156). -/
def judgeSensor (period : Nat) (heads : Vector (Option Nat) 24) : Option SensorSection :=
  if 10 ≤ period ∧ period ≤ 600 ∧ heads.toList.all assignmentFits then
    some { period := period, assignment := heads.map fun z => z.map fun n => Fin.ofNat 8 n }
  else none

/-- A head whose assignment changes: PROBING or OFF, miss count 0, its reading discarded (R156). -/
def Head.reassign (h : Head) (before after : Option ZoneNumber) : Head :=
  if before = after then h
  else { state := if after.isSome then .probing else .off, misses := 0, reading := none }

/-- A SENSOR write is taken: the period and assignment, the timer at 0, each reassigned head in its new state (R156). -/
def State.takeSensor (s : State) (x : SensorSection) : State :=
  { s with
    config := { s.config with sensor := x }
    loop := { s.loop with
      timer := 0
      startsDue := 0
      heads := Vector.ofFn fun i => (s.loop.heads[i]).reassign s.config.sensor.assignment[i] x.assignment[i] } }

/-- WRITE_CONFIG of SENSOR in its grant (R156). -/
def serveWriteSensor (period : Nat) (heads : Vector (Option Nat) 24) (s : State) : State × Reply :=
  match judgeSensor period heads with
  | some x => accept (s.takeSensor x)
  | none => refuse s .badField

/-- WRITE_CONFIG of SENSOR (R156). -/
def execWriteConfigSensor (f : Frame) (period : Nat) (heads : Vector (Option Nat) 24) (s : State) :
    Host.Outcome State Fault Refusal :=
  .next (s.request f .writeConfig fun u => named f.form u (serveWriteSensor period heads u))

/-! ## ZONE -/

/-- WRITE_CONFIG of ZONE n, judged and taken as SET_ZONE_LIMITS (R167). -/
def execWriteConfigZone (f : Frame) (zone : Nat) (limits : RawLimits) (s : State) : Host.Outcome State Fault Refusal :=
  .next (s.request f .writeConfig fun u => named f.form u (serveLimits zone limits u))

/-! ## Saving -/

/-- A save begins: the working configuration copied, the store invalid, the request outstanding (R182, R188). -/
def State.beginSave (s : State) (p : Port) : State :=
  State.setPort { s with memory := { s.memory with valid := false, saving := some s.config } } p
    { s.port p with outstanding := some .saving }

/-- SAVE_CONFIG (R188). -/
def execSaveConfig (f : Frame) (s : State) : Host.Outcome State Fault Refusal :=
  .next (s.receive f RequestKind.saveConfig.code (RequestKind.saveConfig.permitted f.port) fun u => u.beginSave f.port)

/-- The Configuration Memory after a read-back (R188). -/
def ConfigMemory.complete (m : ConfigMemory) (copy : Configuration) (equal : Bool) : ConfigMemory :=
  if equal then { m with image := copy, valid := true, saving := none, lastSave := some .ok }
  else { m with valid := false, saving := none, lastSave := some .failed }

/-- A save in flight completes and SAVE_CONFIG is answered; without a save in flight nothing happens (R188). -/
def State.completeSave (s : State) (equal : Bool) : State :=
  match s.memory.saving with
  | none => s
  | some copy =>
    State.answer { s with memory := s.memory.complete copy equal } .management RequestKind.saveConfig.code
      ⟨if equal then .ok else .saveFailed, .empty⟩

/-- SAVE_COMPLETE (R188). -/
def execSaveComplete (imageEqual : Bool) (s : State) : Host.Outcome State Fault Refusal :=
  .next (s.whenRunning fun u => u.completeSave imageEqual)

end Sys2Proof.Machine
end

