-- ==== Sys2Proof/Machine/Care.lean ====
section
/-! DEFINITION. The computation of flip and brush due times (03 sections 3.2 and 3.3, R43 to R49). -/

namespace Sys2Proof.Machine

/-- Whole days from the entry minute to now; 0 when the entry minute lies ahead (R44). -/
def ageDays (now entry : Nat) : Nat := (now - entry) / 1440

/-- The band of an age (R44). -/
def CareClass.band (c : CareClass) (age : Nat) : Fin 4 :=
  if age < c.d1 then 0 else if age < c.d2 then 1 else if age < c.d3 then 2 else 3

/-- The care humidity of a zone: its filtered humidity in LIVE and HOLDING, the class setpoint in UNSEEN and LOST (R45). -/
def Zone.careHumidity (z : Zone) (c : CareClass) : Nat :=
  match z.humidity with
  | .live | .holding => z.filtered.getD c.setpoint
  | .unseen | .lost => c.setpoint

/-- The adjustment: the product of deviation and sensitivity divided by 10, truncated toward zero (R46). -/
def adjustment (d : Int) (k : Nat) : Int := Int.tdiv (d * k) 10

/-- The factor 1000 - adj, clamped to 250-2000 (R47). -/
def careFactor (adj : Int) : Nat := (max 250 (min 2000 (1000 - adj))).toNat

/-- The interval floor(B x F / 1000), clamped to 30-43,200 minutes (R48). -/
def careInterval (base factor : Nat) : Nat := max 30 (min 43200 (base * factor / 1000))

/-- A due: the last minute of the action plus its interval, capped; absent when the last minute is (R49). -/
def dueFrom (last : Option Nat) (interval : Nat) : Option Nat := last.map fun m => min (m + interval) Config.maxMinute

/-- The flip interval of a class for an age and a care humidity (R46 to R48). -/
def CareClass.flipInterval (c : CareClass) (age hz : Nat) : Nat :=
  careInterval c.flipBase[c.band age] (careFactor (adjustment ((hz : Int) - c.setpoint) c.kf))

/-- The brush interval, none in a band whose brush base is 0 (R48). -/
def CareClass.brushInterval (c : CareClass) (age hz : Nat) : Option Nat :=
  if c.brushBase[c.band age] = 0 then none
  else some (careInterval c.brushBase[c.band age] (careFactor (adjustment ((hz : Int) - c.setpoint) c.kb)))

/-- A wheel record with both dues replaced by a computation (R43, R49). -/
def Wheel.withDues (x : Wheel) (c : CareClass) (now hz : Nat) : Wheel :=
  let age := ageDays now x.entry
  { x with
    flipDue := dueFrom x.lastFlip (c.flipInterval age hz)
    brushDue := (c.brushInterval age hz).bind fun i => dueFrom x.lastBrush i }

/-- A wheel's dues are computed when it is IN_SLOT, from the zone of its slot and the clock as they stand; a wheel elsewhere
keeps the dues it has (R43). -/
def State.computeDues (s : State) (w : Nat) : State :=
  s.changeWheel w fun x =>
    match x.location with
    | .inSlot c =>
      let cls := s.config.classes[x.cls]
      x.withDues cls s.clock.minute ((s.zone (s.zoneOf c)).careHumidity cls)
    | _ => x

/-- A count that saturates at 65535 (R18, R21). -/
def countUp (n : Nat) : Nat := min (n + 1) Config.maxCount

/-- A credited flip (R21). -/
def Wheel.creditFlip (x : Wheel) (now : Nat) : Wheel :=
  { x with
    lastFlip := some now
    flipCount := countUp x.flipCount
    faceUp := match x.faceUp with
      | .a => .b
      | .b => .a }

/-- A credited brush (R21). -/
def Wheel.creditBrush (x : Wheel) (now : Nat) : Wheel :=
  { x with lastBrush := some now, brushCount := countUp x.brushCount }

/-- A wheel comes to lie in a slot: a wheel whose last flip minute is absent gets both last action minutes (R21); the dues
are then computed (R43). -/
def State.placeIn (s : State) (w : Nat) (c : Coord) : State :=
  ((s.setSlot c (.occupied w)).changeWheel w fun x =>
    let y := { x with location := .inSlot c }
    match y.lastFlip with
    | some _ => y
    | none => { y with lastFlip := some s.clock.minute, lastBrush := some s.clock.minute }).computeDues w

end Sys2Proof.Machine
end

