-- ==== Sys2Proof/Machine/TaskList.lean ====
section
/-! DEFINITION. Entry into the task list, eviction, and the intents that movement tasks are built from (04 R61 to R66, 05 R67 to
R70, 07 R121, R122). -/

namespace Sys2Proof.Machine

/-! ## Entry -/

/-- The lowest task number no task of the list holds (R67). -/
def State.freeNumber (s : State) : Option (Fin 64) :=
  (List.finRange 64).find? fun n => s.tasks.all fun t => t.number != n

/-- Restamp every task with 0, 1, 2 and so on in the order of the list, which is the order of entry (R69). -/
def restamp : Nat → List TaskRecord → List TaskRecord
  | _, [] => []
  | n, t :: rest => { t with sequence := n } :: restamp (n + 1) rest

/-- An entry that finds the enqueue counter at its limit restamps the list (R69). -/
def State.makeRoomInSequence (s : State) : State :=
  if s.dispatch.sequence = Config.maxMinute then
    { s with tasks := restamp 0 s.tasks, dispatch := { s.dispatch with sequence := s.tasks.length } }
  else s

/-- Enter a task: the lowest free number, the last-issue value of that number as its issue number, the next enqueue sequence,
QUEUED with attempts 0 and rereads 0, and its wheel's mark set (R23, R67, R69, R70). -/
def State.enter (s : State) (t : TaskRecord) : Option (State × Fin 64) :=
  s.freeNumber.map fun n =>
    let u := s.makeRoomInSequence
    let t' := { t with
      number := n, issue := u.dispatch.lastIssue[n], state := .queued, sequence := u.dispatch.sequence, attempts := 0, rereads := 0 }
    (State.markTask
      { u with tasks := u.tasks ++ [t'], dispatch := { u.dispatch with sequence := u.dispatch.sequence + 1 } } t' true, n)

/-- Room on the list as a whole (R62). -/
def State.hasRoom (s : State) : Bool := decide (s.tasks.length < Config.listRoom)

/-- The one of two tasks that eviction takes first: the lower standing score, and among equals the later entered (R64). -/
def State.weaker (s : State) (a b : TaskRecord) : TaskRecord :=
  if s.standing b < s.standing a ∨ (s.standing a = s.standing b ∧ a.sequence < b.sequence) then b else a

/-- The QUEUED care task that eviction takes: the lowest standing score, the latest entered among equals (R64). -/
def State.evictee (s : State) : Option TaskRecord :=
  match s.tasks.filter fun t => t.queued && t.isCare with
  | [] => none
  | t :: rest => some (rest.foldl s.weaker t)

/-- Offer a care candidate: entered with room on both counts, else by eviction of a task that stands strictly lower (R64). -/
def State.offerCare (s : State) (t : TaskRecord) : Option State :=
  if s.careCount < Config.careRoom ∧ s.hasRoom then (s.enter t).map Prod.fst
  else
    match s.evictee with
    | none => none
    | some v => if s.standing v < s.standing t then ((s.withdraw v.number).enter t).map Prod.fst else none

/-- Offer a non-care task: entered below 24, withdrawing the lowest-standing QUEUED care task of a full list first (R65). -/
def State.offerNonCare (s : State) (t : TaskRecord) : Option (State × Fin 64) :=
  if s.nonCareCount < Config.nonCareRoom then
    if s.hasRoom then s.enter t
    else
      match s.evictee with
      | none => none
      | some v => (s.withdraw v.number).enter t
  else none

/-! ## Tasks as they are offered -/

/-- A task before its entry fills in number, issue number and enqueue sequence. -/
def TaskRecord.offered (kind : TaskKind) (wheel : Option Nat) (place : TaskPlace) (minute : Nat) : TaskRecord :=
  { number := 0, issue := 0, kind := kind, wheel := wheel, place := place, destination := none, range := none, phase := none,
    state := .queued, minute := minute, sequence := 0, attempts := 0, rereads := 0 }

/-- The slot field of a movement task built from an intent (R122). -/
def Intent.place (i : Intent) (l : Location) : TaskPlace :=
  match i.kind, i.phase with
  | .place, _ | .park, _ => .infeed
  | _, .beforePick =>
    match l with
    | .inSlot c => .board c
    | _ => .infeed
  | _, .carried =>
    match i.returnSlot with
    | some c => .board c
    | none => .infeed

/-- The movement task of an intent, its basis minute the cellar minute of its entry (R67, R122). -/
def State.movementTask (s : State) (w : Nat) (x : Wheel) (i : Intent) : TaskRecord :=
  { TaskRecord.offered (.movement i.kind) (some w) (i.place x.location) s.clock.minute with
    destination := some i.destination, phase := some i.phase }

/-- A wheel's movement task in the list is brought to its intent: kind, phase, slot and destination (R122). -/
def State.alignTask (s : State) (w : Nat) : State :=
  match s.wheel w with
  | none => s
  | some x =>
    match x.intent with
    | none => s
    | some i =>
      { s with tasks := s.tasks.map fun t =>
          if t.isMovement && t.names w then
            { t with
              kind := .movement i.kind, phase := some i.phase, place := i.place x.location, destination := some i.destination }
          else t }

/-- Set or remove a wheel's intent. -/
def State.setIntent (s : State) (w : Nat) (i : Option Intent) : State := s.changeWheel w fun x => { x with intent := i }

/-- The slot destination of an intent goes from RESERVED(DESTINATION, w) to EMPTY; travel points hold nothing (R100). -/
def State.freeDestination (s : State) (w : Nat) (i : Intent) : State :=
  match i.destination with
  | .slot c => s.freeReserved c .destination w
  | _ => s

/-- End a BEFORE_PICK intent: its destination slot is released, the intent removed and the last outcome written (R22, R100, R127). -/
def State.endIntent (s : State) (w : Nat) (e : Ending) : State :=
  match (s.wheel w).bind Wheel.intent with
  | none => s
  | some i => (s.freeDestination w i).changeWheel w fun x => { x with intent := none, lastOutcome := some e }

end Sys2Proof.Machine
end

