-- ==== Sys2Proof/Machine/ListRequests.lean ====
section
/-! DEFINITION. The host's requests on dispatch, the list and the robot's halt: PAUSE_DISPATCH, RESUME_DISPATCH, READ_TASKS,
CLEAR_ROBOT_HALT, REQUEST_SURVEY (05 sections 5.8 and 5.9, 06 R116, 08 R139). -/

namespace Sys2Proof.Machine

/-- Set the dispatch state (R90). -/
def State.setPaused (s : State) (b : Bool) : State := { s with dispatch := { s.dispatch with paused := b } }

/-- PAUSE_DISPATCH in its grant (R90). -/
def servePauseDispatch (s : State) : State × Reply := accept (s.setPaused true)

/-- PAUSE_DISPATCH (R90). -/
def execPauseDispatch (f : Frame) (s : State) : Host.Outcome State Fault Refusal :=
  .next (s.request f .pauseDispatch servePauseDispatch)

/-- RESUME_DISPATCH in its grant: a change from PAUSED runs the TASK_AVAILABLE test (R90). -/
def serveResumeDispatch (s : State) : State × Reply := accept ((s.setPaused false).testIf s.dispatch.paused)

/-- RESUME_DISPATCH (R90). -/
def execResumeDispatch (f : Frame) (s : State) : Host.Outcome State Fault Refusal :=
  .next (s.request f .resumeDispatch serveResumeDispatch)

/-- One task with its lateness and standing score (R93). -/
def State.taskLine (s : State) (t : TaskRecord) : TaskLine := ⟨t, s.lateness t, s.standing t⟩

/-- READ_TASKS in its grant: the list stands in enqueue order (R69, R93). -/
def serveReadTasks (start : Nat) (s : State) : State × Reply :=
  if start < 64 then
    accept s (.tasks s.tasks.length s.careCount s.nonCareCount (((s.tasks.drop start).take 4).map s.taskLine))
  else refuse s .badField

/-- READ_TASKS (R93). -/
def execReadTasks (f : Frame) (start : Nat) (s : State) : Host.Outcome State Fault Refusal :=
  .next (s.request f .readTasks (serveReadTasks start))

/-- CLEAR_ROBOT_HALT in its grant (R116). -/
def serveClearRobotHalt (s : State) : State × Reply :=
  if s.link.state = .halted then
    accept { s with link := { s.link with state := .unhomed, faults := 0, position := none } }
  else refuse s .state

/-- CLEAR_ROBOT_HALT (R116). -/
def execClearRobotHalt (f : Frame) (s : State) : Host.Outcome State Fault Refusal :=
  .next (s.request f .clearRobotHalt serveClearRobotHalt)

/-- The SURVEY a REQUEST_SURVEY offers (R139). -/
def State.surveyTask (s : State) (level : Fin 12) (first last : Fin 48) : TaskRecord :=
  { TaskRecord.offered .survey none (.level s.ports.management.window.source level) s.clock.minute with
    range := some { first := first, last := last, next := some first } }

/-- A SURVEY offered by the non-care entry rule (R65, R139). -/
def State.enterSurvey (s : State) (t : TaskRecord) : State × Reply :=
  match s.offerNonCare t with
  | some (u, n) => accept u.testAvailable (.survey n)
  | none => refuse s .full

/-- REQUEST_SURVEY in its grant (R139). -/
def serveRequestSurvey (level first last : Nat) (s : State) : State × Reply :=
  if h : level < 12 ∧ first < 48 ∧ last < 48 then
    if level < s.config.geometry.levels ∧ last < s.config.geometry.positions ∧ first ≤ last then
      s.enterSurvey (s.surveyTask ⟨level, h.1⟩ ⟨first, h.2.1⟩ ⟨last, h.2.2⟩)
    else refuse s .badField
  else refuse s .badField

/-- REQUEST_SURVEY (R139). -/
def execRequestSurvey (f : Frame) (level first last : Nat) (s : State) : Host.Outcome State Fault Refusal :=
  .next (s.request f .requestSurvey (serveRequestSurvey level first last))

end Sys2Proof.Machine
end

