-- ==== Sys2Proof/Machine/Loop.lean ====
section
/-! DEFINITION. The Sensor Loop: LOOP_PASS_START, LOOP_REPLY and REPLY_WINDOW_CLOSE (09 sections 9.1 to 9.4, R153 to R160). -/

namespace Sys2Proof.Machine

/-- A head's address on the loop, 1 to 24 (R153). -/
def headAddress (h : Fin 24) : Byte := BitVec.ofNat 8 (h.val + 1)

/-- The two bytes of a poll (R153, R154, R193). -/
def pollBytes (h : Fin 24) : Byte × Byte := (headAddress h, crc8 [headAddress h])

/-! ## Judging a window -/

/-- What a reply window gave (R155). -/
inductive HeadOutcome
  | miss | ok (reading : Nat) | warming | fault
deriving DecidableEq, Repr

/-- A reply is checked by its CRC-8 and its address; the humidity of an OK reply is clamped to 1000 (R154, R155, R193). -/
def judgeReply (h : Fin 24) (b : Vector Byte 5) : HeadOutcome :=
  if crc8 [b[0], b[1], b[2], b[3]] = b[4] ∧ b[0] = headAddress h then
    if b[1] = 0x00#8 then .ok (min 1000 (b[2].toNat * 256 + b[3].toNat))
    else if b[1] = 0x01#8 then .warming
    else if b[1] = 0x02#8 then .fault
    else .miss
  else .miss

/-- The outcome of a window (R155). -/
def judgeWindow (h : Fin 24) (reply : Option (Vector Byte 5)) : HeadOutcome :=
  match reply with
  | some b => judgeReply h b
  | none => .miss

/-- An outcome acts on the record of an assigned head (the table of R159, R160). -/
def Head.after (x : Head) (o : HeadOutcome) : Head :=
  match o with
  | .ok r => { state := .active, misses := 0, reading := if x.state = .active then some r else x.reading }
  | .warming => { x with misses := 0 }
  | .fault => { x with state := .faulty, misses := 0 }
  | .miss =>
    { x with misses := min 3 (x.misses + 1), state := if 3 ≤ x.misses + 1 then .missing else x.state }

/-- An outcome judged for a head that is OFF is discarded (R156); of one that was OFF since its poll and is assigned again it is not
(DESIGN CHOICE: log entry 36). -/
def Head.judged (x : Head) (o : HeadOutcome) : Head := if x.state = .off then x else x.after o

/-- Entry into MISSING or FAULTY (R159). -/
def entersTrouble (before after : HeadState) : Bool := before != after && (after == .missing || after == .faulty)

/-! ## Passes -/

/-- The readings a pass hands on for a zone: the heads assigned to it now whose reading is present (R160). -/
def State.zoneReadings (s : State) (z : ZoneNumber) : ZoneReadings :=
  let rs := (List.finRange 24).filterMap fun h =>
    if s.config.sensor.assignment[h] = some z then (s.loop.heads[h]).reading else none
  { count := rs.length, sum := rs.foldl (· + ·) 0 }

/-- A pass ends and is handed on; the zone-update requester asks (R157, R160, R171). -/
def State.endLoopPass (s : State) : State :=
  State.ask { s with loop := { s.loop with pass := none, handed := s.loop.handed ++ [Vector.ofFn s.zoneReadings] } } .zoneUpdate

/-- The next head of a poll list is polled and its window opened, passing over heads that are OFF; with none left the pass ends
(R153, R156, R157). A head that one SENSOR write made OFF and another assigned again within the pass is still on the list, and is
polled as PROBING (DESIGN CHOICE: log entry 36). -/
def State.pollNext (s : State) (list : List (Fin 24)) : State :=
  match list with
  | [] => s.endLoopPass
  | h :: rest =>
    if (s.loop.heads[h]).state = .off then s.pollNext rest
    else { s with loop := { s.loop with pass := some ⟨h, none, rest⟩, lastPoll := some (pollBytes h) } }

/-- The poll list: the assigned heads in ascending order of address (R157). -/
def State.pollList (s : State) : List (Fin 24) := (List.finRange 24).filter fun h => s.config.sensor.assignment[h].isSome

/-- A pass begins: every reading absent, the first head polled (R157). -/
def State.beginLoopPass (s : State) : State :=
  State.pollNext { s with loop := { s.loop with pass := none, heads := s.loop.heads.map fun x => { x with reading := none } } }
    s.pollList

/-- A pass start that a second event has brought is made (R157; log entry 8). -/
def State.takeLoopStart (s : State) : State :=
  match s.loop.startsDue with
  | 0 => s
  | n + 1 => State.beginLoopPass { s with loop := { s.loop with startsDue := n } }

/-- LOOP_PASS_START (R157). -/
def execLoopPassStart (s : State) : Host.Outcome State Fault Refusal := .next (s.whenRunning State.takeLoopStart)

/-- A complete reply frame arrives: the first one in an open window is the reply, any other is discarded (R153). -/
def State.receiveReply (s : State) (bytes : Vector Byte 5) : State :=
  match s.loop.pass with
  | some p =>
    match p.reply with
    | none => { s with loop := { s.loop with pass := some { p with reply := some bytes } } }
    | some _ => s
  | none => s

/-- LOOP_REPLY (R153). -/
def execLoopReply (bytes : Vector Byte 5) (s : State) : Host.Outcome State Fault Refusal :=
  .next (s.whenRunning fun u => u.receiveReply bytes)

/-- A head's record after an outcome, with HEAD_MISSING at an entry into MISSING or FAULTY (R159). -/
def State.judgeHead (s : State) (h : Fin 24) (o : HeadOutcome) : State :=
  let x := s.loop.heads[h]
  State.raiseIf { s with loop := { s.loop with heads := s.loop.heads.set h (x.judged o) } }
    (entersTrouble x.state (x.judged o).state) .climate .headMissing

/-- The reply window closes: its outcome is judged, and the next head polled or the pass ended (R155, R157). -/
def State.closeWindow (s : State) : State :=
  match s.loop.pass with
  | some p => (s.judgeHead p.polled (judgeWindow p.polled p.reply)).pollNext p.rest
  | none => s

/-- REPLY_WINDOW_CLOSE (R155). -/
def execReplyWindowClose (s : State) : Host.Outcome State Fault Refusal := .next (s.whenRunning State.closeWindow)

end Sys2Proof.Machine
end

