-- ==== Sys2Proof/Machine/Records.lean ====
section
/-! DEFINITION. The host's requests on boards, the clock, the status and wheel records: SET_SLOT_FAULT, CLEAR_SLOT_FAULT, SET_CLOCK,
READ_STATUS, READ_WHEEL, FIND_WHEEL, SET_CLASS, HOLD, RELEASE, CLEAR_CARE_FAULT (01, 02, 11 section 11.7). -/

namespace Sys2Proof.Machine

/-! ## Boards -/

/-- SET_SLOT_FAULT in its grant (R8). -/
def serveSetSlotFault (level position : Nat) (s : State) : State × Reply :=
  s.onBoard level position fun c => if s.slot c = .empty then accept (s.setSlot c .faulted) else refuse s .state

/-- SET_SLOT_FAULT (R8). -/
def execSetSlotFault (f : Frame) (level position : Nat) (s : State) : Host.Outcome State Fault Refusal :=
  .next (s.request f .setSlotFault (serveSetSlotFault level position))

/-- CLEAR_SLOT_FAULT in its grant (R9). -/
def serveClearSlotFault (level position : Nat) (s : State) : State × Reply :=
  s.onBoard level position fun c => if s.slot c = .faulted then accept (s.setSlot c .empty) else refuse s .state

/-- CLEAR_SLOT_FAULT (R9). -/
def execClearSlotFault (f : Frame) (level position : Nat) (s : State) : Host.Outcome State Fault Refusal :=
  .next (s.request f .clearSlotFault (serveClearSlotFault level position))

/-! ## Clock and status -/

/-- SET_CLOCK in its grant (R16, R17). No frame carries a minute above the clock's range; it would be a field out of range. -/
def serveSetClock (minute : Nat) (s : State) : State × Reply :=
  if minute ≤ Config.maxMinute then accept { s with clock := { minute := minute, unset := false } } else refuse s .badField

/-- SET_CLOCK (R16). -/
def execSetClock (f : Frame) (minute : Nat) (s : State) : Host.Outcome State Fault Refusal :=
  .next (s.request f .setClock (serveSetClock minute))

/-- The items of READ_STATUS as they stand (R192). -/
def State.status (s : State) : Status :=
  { minute := s.clock.minute, clockUnset := s.clock.unset
    passRunning := s.sweep.running, cursor := s.sweep.cursor, passCount := s.sweep.passCount, sweepLate := s.sweep.late
    sequence := s.dispatch.sequence, paused := s.dispatch.paused
    link := s.link.state, position := s.link.position, faults := s.link.faults, lastFault := s.link.lastFault
    homeOrder := s.link.homeOrder
    taskOut := s.out.map fun t => (t.number, t.issue, s.link.deadline)
    lastSurvey := s.lastSurvey
    saveInFlight := s.memory.saving.isSome, lastSave := s.memory.lastSave, source := s.memory.source
    batteryLow := s.supply.batteryLow }

/-- READ_STATUS in its grant (R192). -/
def serveReadStatus (s : State) : State × Reply := accept s (.status s.status)

/-- READ_STATUS (R192). -/
def execReadStatus (f : Frame) (s : State) : Host.Outcome State Fault Refusal := .next (s.request f .readStatus serveReadStatus)

/-! ## Wheel records -/

/-- READ_WHEEL in its grant (R29). -/
def serveReadWheel (handle : Nat) (s : State) : State × Reply := s.onWheel handle fun x => accept s (.wheel handle x)

/-- READ_WHEEL (R29). -/
def execReadWheel (f : Frame) (handle : Nat) (s : State) : Host.Outcome State Fault Refusal :=
  .next (s.request f .readWheel (serveReadWheel handle))

/-- FIND_WHEEL in its grant (R28). -/
def serveFindWheel (tag : TagId) (s : State) : State × Reply :=
  match s.lookup tag with
  | some w => accept s (.handle w)
  | none => refuse s .notFound

/-- FIND_WHEEL (R28). -/
def execFindWheel (f : Frame) (tag : TagId) (s : State) : Host.Outcome State Fault Refusal :=
  .next (s.request f .findWheel (serveFindWheel tag))

/-- A class a wheel may be given: 0 to 15 and valid (R30, R39, R123). -/
def State.validClass (s : State) (cls : Nat) : Option (Fin 16) :=
  if h : cls < 16 then if s.config.classes[cls].valid then some ⟨cls, h⟩ else none else none

/-- SET_CLASS in its grant (R30). -/
def serveSetClass (handle cls : Nat) (s : State) : State × Reply :=
  s.onWheel handle fun _ =>
    match s.validClass cls with
    | some n => accept (s.changeWheel handle fun x => { x with cls := n })
    | none => refuse s .badField

/-- SET_CLASS (R30). -/
def execSetClass (f : Frame) (handle cls : Nat) (s : State) : Host.Outcome State Fault Refusal :=
  .next (s.request f .setClass (serveSetClass handle cls))

/-! ## Holds -/

/-- A destination that is a slot in a quarantine aisle. -/
def State.quarantinedGoal (s : State) (d : Destination) : Bool :=
  match d with
  | .slot c => s.quarantined c
  | _ => false

/-- The wheel lies in, or its intent has a destination or return slot in, a quarantine aisle (R32, R33). -/
def State.boundToQuarantine (s : State) (x : Wheel) : Bool :=
  (match x.location with
    | .inSlot c => s.quarantined c
    | _ => false) ||
  (match x.intent with
    | some i => s.quarantinedGoal i.destination || (i.returnSlot.map s.quarantined).getD false
    | none => false)

/-- Set a wheel's hold. -/
def State.setHold (s : State) (w : Nat) (h : Hold) : State := s.changeWheel w fun x => { x with hold := h }

/-- HOLD in its grant (R32). -/
def serveHold (form : BodyForm) (handle : Nat) (kind : Hold) (s : State) : State × Reply :=
  s.onWheel handle fun x =>
    if form = .badName then refuse s .badField
    else
      match kind with
      | .none => refuse s .badField
      | .inspect =>
        if x.hold = .quarantine ∧ s.boundToQuarantine x then refuse s .state
        else accept ((s.setHold handle .inspect).withdrawCare handle) (.hold .inspect)
      | .quarantine =>
        accept ((s.setHold handle .quarantine).withdrawWhere fun t => t.kind == .brush && t.names handle) (.hold .quarantine)

/-- HOLD (R32). -/
def execHold (f : Frame) (handle : Nat) (kind : Hold) (s : State) : Host.Outcome State Fault Refusal :=
  .next (s.request f .hold (serveHold f.form handle kind))

/-- RELEASE in its grant (R33). -/
def serveRelease (handle : Nat) (s : State) : State × Reply :=
  s.onWheel handle fun x => if s.boundToQuarantine x then refuse s .state else accept (s.setHold handle .none)

/-- RELEASE (R33). -/
def execRelease (f : Frame) (handle : Nat) (s : State) : Host.Outcome State Fault Refusal :=
  .next (s.request f .release (serveRelease handle))

/-- CLEAR_CARE_FAULT in its grant (R35). -/
def serveClearCareFault (handle : Nat) (s : State) : State × Reply :=
  s.onWheel handle fun x =>
    match x.careFault with
    | some _ => accept (s.changeWheel handle fun y => { y with careFault := none })
    | none => refuse s .state

/-- CLEAR_CARE_FAULT (R35). -/
def execClearCareFault (f : Frame) (handle : Nat) (s : State) : Host.Outcome State Fault Refusal :=
  .next (s.request f .clearCareFault (serveClearCareFault handle))

end Sys2Proof.Machine
end

