-- ==== Sys2Proof/Machine/Movements.lean ====
section
/-! DEFINITION. The host's requests on movements and tasks: BOOK_IN, RELOCATE, BOOK_OUT, CANCEL_MOVE, ABORT_TASK (05 section 5.7, 07
sections 7.2 and 7.3). -/

namespace Sys2Proof.Machine

/-! ## Offering a movement task -/

/-- A wheel's movement task is offered by the non-care entry rule; its entry runs the TASK_AVAILABLE test (R65, R91, R122, R124). -/
def State.offerMovement (s : State) (w : Nat) : State × Bool :=
  match s.wheel w with
  | none => (s, false)
  | some x =>
    match x.intent with
    | none => (s, false)
    | some i =>
      match s.offerNonCare (s.movementTask w x i) with
      | some (u, _) => (u.testAvailable, true)
      | none => (s, false)

/-- An intent made by a request: BEFORE_PICK, PENDING, no return slot and no retarget mark (R124, R125, R126). -/
def newIntent (kind : MoveKind) (d : Destination) : Intent :=
  { kind := kind, destination := d, retargeted := false, returnSlot := none, phase := .beforePick, status := .pending }

/-! ## BOOK_IN -/

/-- The boards of an aisle in the order AUTO searches them (R123). -/
def State.aisleBoards (s : State) (aisle : Fin 16) : List Coord :=
  (List.range s.config.geometry.levels).flatMap fun l =>
    (List.range s.config.geometry.positions).filterMap fun p => s.boardIn aisle l p

/-- The board a BOOK_IN chooses, or the refusal of step 6 (R123). -/
def State.chooseSlot (s : State) (slot : SlotChoice) : Option Coord :=
  match slot with
  | .explicit level position =>
    match s.sourceBoard level position with
    | some c => if s.slot c = .empty then some c else none
    | none => none
  | .auto => (s.aisleBoards s.ports.management.window.source).find? fun c => s.slot c == .empty

/-- An explicit slot outside the geometry (R123 step 1). -/
def State.choiceOutside (s : State) (slot : SlotChoice) : Bool :=
  match slot with
  | .explicit level position => (s.sourceBoard level position).isNone
  | .auto => false

/-- The refusal when no slot can be chosen (R123 step 6). -/
def choiceRefusal : SlotChoice → ResultCode
  | .explicit _ _ => .state
  | .auto => .notFound

/-- A new wheel record (R18, R124). -/
def newWheel (tag : TagId) (batch entry : Nat) (cls : Fin 16) (c : Coord) (quarantine : Bool) : Wheel :=
  { tag := tag, batch := batch, cls := cls, entry := entry, location := .atInfeed, faceUp := .a, lastFlip := none,
    lastBrush := none, flipDue := none, brushDue := none, flipCount := 0, brushCount := 0,
    hold := if quarantine then .quarantine else .none, careFault := none, intent := some (newIntent .place (.slot c)),
    lastOutcome := none, lastSeen := none, flipMark := false, brushMark := false, moveMark := false }

/-- A BOOK_IN that passes every check: the lowest free handle, its record and tag index entry, the slot reserved (R124). -/
def State.book (s : State) (w : Nat) (x : Wheel) (c : Coord) : State × Reply :=
  let u := (s.createWheel w x).setSlot c (.reserved .destination w)
  accept (u.offerMovement w).1 (.booked w c (u.offerMovement w).2)

/-- The lowest free handle; 8192 when the table is full (R20). -/
def State.freeHandle (s : State) : Nat := Table.lowestFree 0 s.wheels

/-- BOOK_IN in its grant: the first check that fails decides (R123, R124). -/
def serveBookIn (tag : TagId) (batch entry cls : Nat) (slot : SlotChoice) (quarantine : Bool) (s : State) : State × Reply :=
  if s.choiceOutside slot then refuse s .badField
  else if !tagIdValid tag then refuse s .badField
  else
    match s.validClass cls with
    | none => refuse s .badField
    | some n =>
      if (s.lookup tag).isSome then refuse s .duplicate
      else if Config.handles ≤ s.freeHandle then refuse s .full
      else if s.config.geometry.quarantine[s.ports.management.window.source] && !quarantine then refuse s .notPermitted
      else
        match s.chooseSlot slot with
        | none => refuse s (choiceRefusal slot)
        | some c => s.book s.freeHandle (newWheel tag batch entry n c quarantine) c

/-- BOOK_IN (R123, R124). -/
def execBookIn (f : Frame) (tag : TagId) (batch entry cls : Nat) (slot : SlotChoice) (quarantine : Bool) (s : State) :
    Host.Outcome State Fault Refusal :=
  .next (s.request f .bookIn (serveBookIn tag batch entry cls slot quarantine))

/-! ## RELOCATE -/

/-- A wheel's intent made by a request, with its slot destination reserved and its task offered (R125, R126). -/
def State.startMove (s : State) (w : Nat) (i : Intent) : State × Bool :=
  let u := s.setIntent w (some i)
  let u := match i.destination with
    | .slot c => u.setSlot c (.reserved .destination w)
    | _ => u
  u.offerMovement w

/-- RELOCATE of the wheel on an OCCUPIED source (R125 steps 3 to 5). -/
def State.relocate (s : State) (w : Nat) (d : Coord) : State × Reply :=
  match s.wheel w with
  | none => refuse s .state
  | some x =>
    if x.intent.isSome then refuse s .state
    else if s.slot d ≠ .empty then refuse s .state
    else if s.quarantined d ∧ x.hold ≠ .quarantine then refuse s .notPermitted
    else
      accept (s.startMove w (newIntent .move (.slot d))).1 (.moving w (s.startMove w (newIntent .move (.slot d))).2)

/-- RELOCATE in its grant (R125). -/
def serveRelocate (sl sp dl dp : Nat) (s : State) : State × Reply :=
  match s.sourceBoard sl sp, s.boardIn s.ports.management.window.destination dl dp with
  | some c, some d =>
    match s.slot c with
    | .occupied w => s.relocate w d
    | _ => refuse s .state
  | _, _ => refuse s .badField

/-- RELOCATE (R125). -/
def execRelocate (f : Frame) (sourceLevel sourcePosition destLevel destPosition : Nat) (s : State) :
    Host.Outcome State Fault Refusal :=
  .next (s.request f .relocate (serveRelocate sourceLevel sourcePosition destLevel destPosition))

/-! ## BOOK_OUT and CANCEL_MOVE -/

/-- A task naming the wheel is ISSUED or ABORTING. -/
def State.outNames (s : State) (w : Nat) : Bool := s.tasks.any fun t => !t.queued && t.names w

/-- A wheel at the infeed may be booked out: no intent, or a PLACE (R126). -/
def Wheel.placeOrNone (x : Wheel) : Bool :=
  match x.intent with
  | none => true
  | some i => i.kind == .place

/-- A wheel at the infeed leaves the table: its QUEUED PLACE is withdrawn, its destination released, its record deleted (R126). -/
def State.bookOutInfeed (s : State) (w : Nat) : State :=
  let u := s.withdrawMovement w
  let u := match (s.wheel w).bind Wheel.intent with
    | some i => u.freeDestination w i
    | none => u
  u.deleteWheel w

/-- BOOK_OUT in its grant (R126). -/
def serveBookOut (handle : Nat) (s : State) : State × Reply :=
  s.onWheel handle fun x =>
    match x.location with
    | .atInfeed =>
      if x.placeOrNone && !s.outNames handle then accept (s.bookOutInfeed handle) .deleted else refuse s .state
    | .inSlot c =>
      if (s.slot c).isOccupied && x.intent.isNone then
        accept (s.startMove handle (newIntent .remove .outfeed)).1
          (.removePending (s.startMove handle (newIntent .remove .outfeed)).2)
      else refuse s .state
    | _ => refuse s .state

/-- BOOK_OUT (R126). -/
def execBookOut (f : Frame) (handle : Nat) (s : State) : Host.Outcome State Fault Refusal :=
  .next (s.request f .bookOut (serveBookOut handle))

/-- The issued task is to be stopped: ABORTING, and ABORT_REQUESTED on the robot port (R88). -/
def State.requestAbort (s : State) (n : Fin 64) : State :=
  (s.changeTask n fun t => { t with state := .aborting }).raise .robot .abortRequested

/-- A BEFORE_PICK movement without a task out is cancelled (R127, R88). -/
def State.cancelMove (s : State) (w : Nat) : State := (s.withdrawMovement w).endIntent w .cancelled

/-- CANCEL_MOVE in its grant (R127). -/
def serveCancelMove (handle : Nat) (s : State) : State × Reply :=
  s.onWheel handle fun x =>
    match x.intent with
    | none => refuse s .state
    | some i =>
      if i.phase = .carried then refuse s .state
      else
        match s.tasks.find? fun t => t.isMovement && t.names handle && !t.queued with
        | some t => if t.state = .aborting then accept s .moveAborting else accept (s.requestAbort t.number) .moveAborting
        | none => accept (s.cancelMove handle) .moveCancelled

/-- CANCEL_MOVE (R127). -/
def execCancelMove (f : Frame) (handle : Nat) (s : State) : Host.Outcome State Fault Refusal :=
  .next (s.request f .cancelMove (serveCancelMove handle))

/-! ## ABORT_TASK -/

/-- The withdrawal of a QUEUED task by ABORT_TASK, cancelling the movement of a movement task (R88). -/
def State.abortQueued (s : State) (t : TaskRecord) : State :=
  let u := s.withdraw t.number
  if t.isMovement then
    match t.wheel with
    | some w => u.endIntent w .cancelled
    | none => u
  else u

/-- ABORT_TASK in its grant (R88). -/
def serveAbortTask (task : Nat) (s : State) : State × Reply :=
  if h : task < 64 then
    match s.task ⟨task, h⟩ with
    | none => refuse s .notFound
    | some t =>
      if t.state = .aborting then accept s (.aborted t.kind t.wheel .aborting)
      else if t.phase = some .carried then refuse s .state
      else if t.queued then accept (s.abortQueued t) (.aborted t.kind t.wheel .withdrawn)
      else accept (s.requestAbort t.number) (.aborted t.kind t.wheel .aborting)
  else refuse s .badField

/-- ABORT_TASK (R88). -/
def execAbortTask (f : Frame) (task : Nat) (s : State) : Host.Outcome State Fault Refusal :=
  .next (s.request f .abortTask (serveAbortTask task))

end Sys2Proof.Machine
end

