-- ==== Sys2Proof/Machine/PortUnit.lean ====
section
/-! DEFINITION. The commands every port takes and the Port Unit's own events: SET_WINDOW, READ_NOTICES, SET_NOTICE_MASK,
LIST_LEVEL, FRAME_DISCARD, INTER_BYTE_GAP, REQUEST_BUSY, RESPONSE_SENT and a request of an unknown kind (01 section 1.5, 11 sections
11.1 to 11.3). -/

namespace Sys2Proof.Machine

/-- SET_WINDOW in its grant: both aisles below the configured count replace both halves (R12). -/
def serveSetWindow (p : Port) (source destination : Nat) (s : State) : State × Reply :=
  if h : source < 16 ∧ destination < 16 then
    if source < s.config.geometry.aisles ∧ destination < s.config.geometry.aisles then
      accept (s.setPort p { s.port p with window := ⟨⟨source, h.1⟩, ⟨destination, h.2⟩⟩ })
        (.window ⟨source, h.1⟩ ⟨destination, h.2⟩)
    else refuse s .badField
  else refuse s .badField

/-- SET_WINDOW (R12). -/
def execSetWindow (f : Frame) (source destination : Nat) (s : State) : Host.Outcome State Fault Refusal :=
  .next (s.request f .setWindow (serveSetWindow f.port source destination))

/-- READ_NOTICES in its grant: the whole set is answered and emptied (R185). -/
def serveReadNotices (p : Port) (s : State) : State × Reply :=
  accept (s.setPort p { s.port p with notices := [] }) (.notices (s.port p).notices)

/-- READ_NOTICES (R185). -/
def execReadNotices (f : Frame) (s : State) : Host.Outcome State Fault Refusal :=
  .next (s.request f .readNotices (serveReadNotices f.port))

/-- A list of enable flags names the port's own kinds, each once (R185; log entry 17). -/
def flagsFit (p : Port) (flags : List (Notice × Bool)) : Bool :=
  flags.length == (portNotices p).length && (portNotices p).all fun n => (flags.map Prod.fst).contains n

/-- The mask that a list of flags sets, in the order of the port's table. -/
def maskOf (p : Port) (flags : List (Notice × Bool)) : List Notice :=
  (portNotices p).filter fun n => flags.contains (n, true)

/-- The mask as the answer carries it: one flag for each kind of the port. -/
def maskFlags (p : Port) (mask : List Notice) : List (Notice × Bool) := (portNotices p).map fun n => (n, mask.contains n)

/-- SET_NOTICE_MASK in its grant (R185). -/
def serveSetNoticeMask (p : Port) (flags : List (Notice × Bool)) (s : State) : State × Reply :=
  if flagsFit p flags then
    accept (s.setPort p { s.port p with mask := maskOf p flags }) (.mask (maskFlags p (maskOf p flags)))
  else refuse s .badField

/-- SET_NOTICE_MASK (R185). -/
def execSetNoticeMask (f : Frame) (flags : List (Notice × Bool)) (s : State) : Host.Outcome State Fault Refusal :=
  .next (s.request f .setNoticeMask (serveSetNoticeMask f.port flags))

/-- The states of the existing positions of a level, in ascending order (R13). -/
def State.levelStates (s : State) (aisle : Fin 16) (level : Nat) : List SlotState :=
  (List.range s.config.geometry.positions).filterMap fun n => (s.boardIn aisle level n).map fun c => (s.slot c).name

/-- LIST_LEVEL in its grant: one level of the source aisle of the requesting port's window (R13). -/
def serveListLevel (p : Port) (level : Nat) (s : State) : State × Reply :=
  if level < s.config.geometry.levels then
    accept s (.level (s.port p).window.source level s.config.geometry.positions (s.levelStates (s.port p).window.source level))
  else refuse s .badField

/-- LIST_LEVEL (R13). -/
def execListLevel (f : Frame) (level : Nat) (s : State) : Host.Outcome State Fault Refusal :=
  .next (s.request f .listLevel (serveListLevel f.port level))

/-- FRAME_DISCARD: a frame whose length byte or check is wrong is dropped without an answer, and the receiver hunts (R180). Bytes
that survive the tests are a request and no discard (log entry 28). -/
def execFrameDiscard (p : Port) (lengthByte : Byte) (rest : List Byte) (s : State) : Host.Outcome State Fault Refusal :=
  .next (s.whenRunning fun u => if frameSurvives lengthByte rest then u else u.hunt p)

/-- The sync byte (R180). -/
def syncByte : Byte := 0xA9#8

/-- What a hunting receiver makes of a byte: a sync byte begins a frame, any other is discarded (R180). -/
def huntWith (b : Byte) : List Byte := if b = syncByte then [b] else []

/-- INTER_BYTE_GAP: more than 5 ms passed inside a frame; the frame is dropped and the hunt resumes with the byte that ended the
gap (R180). -/
def execInterByteGap (p : Port) (next : Byte) (s : State) : Host.Outcome State Fault Refusal :=
  .next (s.whenRunning fun u => u.setPort p { u.port p with rx := huntWith next })

/-- REQUEST_BUSY: a request accepted while another of its port is outstanding. It is answered BUSY, or discarded behind a BUSY; the
outstanding one is answered by its own command (R182; log entry 5). -/
def execRequestBusy (p : Port) (kindCode : Nat) (s : State) : Host.Outcome State Fault Refusal :=
  .next (s.whenRunning fun u =>
    u.setPort p (PortRecord.answerBusy (PortRecord.holdsRequest { u.port p with rx := [] }) kindCode))

/-- RESPONSE_SENT: the response being sent has left the transmitter (R182). -/
def execResponseSent (p : Port) (s : State) : Host.Outcome State Fault Refusal :=
  .next (s.whenRunning fun u => u.setPort p (u.port p).sent)

/-- A request whose kind code is none of 01h to 2Fh: NOT_PERMITTED, after BUSY and the result byte (R183). -/
def execUnknownKindRequest (f : Frame) (kindCode : Nat) (s : State) : Host.Outcome State Fault Refusal :=
  .next (s.receive f kindCode false id)

end Sys2Proof.Machine
end

