-- ==== Sys2Proof/Machine/Resolution.lean ====
section
/-! DEFINITION. READ_DISCREPANCY and the host's resolutions: RESOLVE_SLOT CONFIRM, CLEAR, ASSIGN and RESOLVE_WHEEL PLACE_AT, DELETE
(08 sections 8.4 and 8.5). -/

namespace Sys2Proof.Machine

/-- READ_DISCREPANCY in its grant: the oldest entry is removed and returned (R146). -/
def serveReadDiscrepancy (s : State) : State × Reply :=
  match s.discrepancies with
  | [] => refuse s .notFound
  | d :: rest => accept { s with discrepancies := rest } (.discrepancy d rest.length)

/-- READ_DISCREPANCY (R146). -/
def execReadDiscrepancy (f : Frame) (s : State) : Host.Outcome State Fault Refusal :=
  .next (s.request f .readDiscrepancy serveReadDiscrepancy)

/-- RESOLVE_SLOT CONFIRM of a board (R148). -/
def State.confirm (s : State) (c : Coord) : State × Reply :=
  match s.slot c with
  | .suspect (some w) => accept (s.setSlot c (.occupied w))
  | _ => refuse s .state

/-- RESOLVE_SLOT CONFIRM in its grant (R147, R148). -/
def serveResolveSlotConfirm (form : BodyForm) (level position : Nat) (s : State) : State × Reply :=
  s.onBoard level position fun c => named form s (s.confirm c)

/-- RESOLVE_SLOT CONFIRM (R148). -/
def execResolveSlotConfirm (f : Frame) (level position : Nat) (s : State) : Host.Outcome State Fault Refusal :=
  .next (s.request f .resolveSlot (serveResolveSlotConfirm f.form level position))

/-- A BEFORE_PICK MOVE or REMOVE. -/
def Intent.releasable (i : Intent) : Bool := i.phase == .beforePick && (i.kind == .move || i.kind == .remove)

/-- A wheel taken off its board by a resolution: UNKNOWN, its BEFORE_PICK MOVE or REMOVE ended CANCELLED (R149). -/
def State.releaseWheel (s : State) (w : Nat) : State :=
  let u := s.changeWheel w fun x => { x with location := .unknown }
  match (s.wheel w).bind Wheel.intent with
  | some i => if i.releasable then u.endIntent w .cancelled else u
  | none => u

/-- RESOLVE_SLOT CLEAR of a board (R148, R149). -/
def State.clearSlot (s : State) (c : Coord) : State × Reply :=
  match s.slot c with
  | .suspect (some w) => accept ((s.setSlot c .empty).releaseWheel w)
  | .suspect none => accept (s.setSlot c .empty)
  | _ => refuse s .state

/-- RESOLVE_SLOT CLEAR in its grant (R147, R148). -/
def serveResolveSlotClear (form : BodyForm) (level position : Nat) (s : State) : State × Reply :=
  s.onBoard level position fun c => named form s (s.clearSlot c)

/-- RESOLVE_SLOT CLEAR (R148). -/
def execResolveSlotClear (f : Frame) (level position : Nat) (s : State) : Host.Outcome State Fault Refusal :=
  .next (s.request f .resolveSlot (serveResolveSlotClear f.form level position))

/-- A board that ASSIGN takes: EMPTY or SUSPECT (R150 step 1). -/
def SlotEntry.assignable : SlotEntry → Bool
  | .empty => true
  | .suspect _ => true
  | _ => false

/-- A wheel that ASSIGN takes: IN_SLOT or UNKNOWN, without an intent and without a task out (R150 step 3). -/
def State.assignable (s : State) (w : Nat) (x : Wheel) : Bool :=
  (match x.location with
    | .atInfeed | .inGripper => false
    | _ => true) &&
  x.intent.isNone && !(s.tasks.any fun t => !t.queued && t.names w)

/-- The wheel leaves the board it lay on: its QUEUED care tasks are withdrawn and the board becomes EMPTY (R150). -/
def State.vacate (s : State) (w : Nat) (x : Wheel) : State :=
  match x.location with
  | .inSlot b => (s.withdrawCare w).setSlot b .empty
  | _ => s

/-- The wheel another one displaces from a SUSPECT board (R150). -/
def SlotEntry.displaced (e : SlotEntry) : Option Nat :=
  match e with
  | .suspect v => v
  | _ => none

/-- The ASSIGN of wheel w to board c once it is taken (R150). -/
def State.assignTo (s : State) (c : Coord) (w : Nat) (x : Wheel) : State × Reply :=
  if s.slot c = .suspect (some w) then accept (s.setSlot c (.occupied w)) (.assigned w none)
  else
    let u := s.vacate w x
    let u := match (s.slot c).displaced with
      | some v => u.releaseWheel v
      | none => u
    accept (u.placeIn w c) (.assigned w (s.slot c).displaced)

/-- RESOLVE_SLOT ASSIGN of a board (R150). -/
def State.assign (s : State) (c : Coord) (tag : TagId) : State × Reply :=
  if !(s.slot c).assignable then refuse s .state
  else
    match s.lookup tag with
    | none => refuse s .notFound
    | some w =>
      match s.wheel w with
      | none => refuse s .notFound
      | some x =>
        if !s.assignable w x then refuse s .state
        else if s.quarantined c ∧ x.hold ≠ .quarantine then refuse s .notPermitted
        else s.assignTo c w x

/-- RESOLVE_SLOT ASSIGN in its grant (R147, R150). -/
def serveResolveSlotAssign (form : BodyForm) (level position : Nat) (tag : TagId) (s : State) : State × Reply :=
  s.onBoard level position fun c => named form s (s.assign c tag)

/-- RESOLVE_SLOT ASSIGN (R150). -/
def execResolveSlotAssign (f : Frame) (level position : Nat) (tag : TagId) (s : State) : Host.Outcome State Fault Refusal :=
  .next (s.request f .resolveSlot (serveResolveSlotAssign f.form level position tag))

/-- RESOLVE_WHEEL PLACE_AT of a wheel on a board (R151). -/
def State.placeAt (s : State) (c : Coord) (w : Nat) (x : Wheel) : State × Reply :=
  if x.location ≠ .unknown then refuse s .state
  else if s.slot c ≠ .empty then refuse s .state
  else if s.quarantined c ∧ x.hold ≠ .quarantine then refuse s .notPermitted
  else accept (s.placeIn w c)

/-- RESOLVE_WHEEL PLACE_AT in its grant (R147, R151). -/
def serveResolveWheelPlaceAt (form : BodyForm) (handle level position : Nat) (s : State) : State × Reply :=
  s.onBoard level position fun c => s.onWheel handle fun x => named form s (s.placeAt c handle x)

/-- RESOLVE_WHEEL PLACE_AT (R151). -/
def execResolveWheelPlaceAt (f : Frame) (handle level position : Nat) (s : State) : Host.Outcome State Fault Refusal :=
  .next (s.request f .resolveWheel (serveResolveWheelPlaceAt f.form handle level position))

/-- RESOLVE_WHEEL DELETE in its grant (R147, R152). -/
def serveResolveWheelDelete (form : BodyForm) (handle : Nat) (s : State) : State × Reply :=
  s.onWheel handle fun x =>
    named form s (if x.location = .unknown then accept (s.deleteWheel handle) else refuse s .state)

/-- RESOLVE_WHEEL DELETE (R152). -/
def execResolveWheelDelete (f : Frame) (handle : Nat) (s : State) : Host.Outcome State Fault Refusal :=
  .next (s.request f .resolveWheel (serveResolveWheelDelete f.form handle))

end Sys2Proof.Machine
end

