-- ==== Sys2Proof/Machine/Issue.lean ====
section
/-! DEFINITION. Issue of a task, the merge at issue, and the Dispatcher's answer to a TAKE (05 R79 to R84, R92). -/

namespace Sys2Proof.Machine

/-- The place of a kind in the table of allowances of R117. -/
def TaskKind.index : TaskKind → Fin 8
  | .flip => 0
  | .brush => 1
  | .flipBrush => 2
  | .movement .place => 3
  | .movement .move => 4
  | .movement .remove => 5
  | .movement .park => 6
  | .survey => 7

/-- The allowance of a kind, from the ROBOT section as it stands (R117). -/
def State.allowance (s : State) (k : TaskKind) : Nat := s.config.robot.allowances[k.index]

/-- Set or renew the deadline to the allowance of a kind (R117). -/
def State.setDeadline (s : State) (k : TaskKind) : State := { s with link := { s.link with deadline := some (s.allowance k) } }

/-- The tag ID of the wheel a task names; none for a SURVEY (R80, R95). -/
def State.tagOf (s : State) (t : TaskRecord) : Option TagId := (t.wheel.bind s.wheel).map Wheel.tag

/-- A task in the form of the answer to TAKE (R80, R193). -/
def State.workOf (s : State) (t : TaskRecord) : Work :=
  { number := t.number, issue := t.issue, kind := t.kind, state := t.state, phase := t.phase, tag := s.tagOf t,
    first := t.firstPoint s, last := t.lastPoint s, destination := t.destination, range := t.range }

/-- The next issue number under a task number: one more than its last-issue value, wrapping after 255 (R70). -/
def State.nextIssue (s : State) (n : Fin 64) : Nat := (s.dispatch.lastIssue[n] + 1) % 256

/-- Stamp a new issue number on a task and on its number's last-issue value (R70). -/
def State.stampIssue (s : State) (n : Fin 64) : State :=
  State.changeTask { s with dispatch := { s.dispatch with lastIssue := s.dispatch.lastIssue.set n (s.nextIssue n) } } n
    fun t => { t with issue := s.nextIssue n }

/-- Set the robot-presence mark of a zone; a zone marked already stays marked (R80). -/
def State.markZone (s : State) (z : ZoneNumber) : State := s.changeZone z fun r => { r with presence := true }

/-- A due is within the merge window: not greater than now plus the window, the sum without a cap (R82, R83). -/
def State.dueWithin (s : State) (due : Option Nat) (window : Nat) : Bool :=
  match due with
  | some m => decide (m ≤ s.clock.minute + window)
  | none => false

/-- An issued FLIP is merged into a FLIP_BRUSH (R82). -/
def State.mergesFlip (s : State) (t : TaskRecord) (x : Wheel) : Bool :=
  t.kind == .flip && s.dueWithin x.brushDue s.config.classes[x.cls].merge && !s.inLowAlarm t && x.hold != .quarantine

/-- An issued BRUSH is merged into a FLIP_BRUSH (R83). -/
def State.mergesBrush (s : State) (t : TaskRecord) (x : Wheel) : Bool :=
  t.kind == .brush && s.dueWithin x.flipDue s.config.classes[x.cls].merge

/-- The merge: the wheel's QUEUED task of the other action leaves the list with its mark kept, the task becomes FLIP_BRUSH and
both marks stand for it (R82, R83, R85). -/
def State.mergeInto (s : State) (t : TaskRecord) (w : Nat) (other : TaskKind) : State :=
  let u := { s with tasks := s.tasks.filter fun v => !(v.queued && v.kind == other && v.names w) }
  (u.changeTask t.number fun v => { v with kind := .flipBrush }).changeWheel w fun x => x.mark .flipBrush true

/-- The merge at issue, judged for a FLIP or a BRUSH (R80). -/
def State.merge (s : State) (t : TaskRecord) : State :=
  match t.wheel with
  | none => s
  | some w =>
    match s.wheel w with
    | none => s
    | some x =>
      if s.mergesFlip t x then s.mergeInto t w .brush
      else if s.mergesBrush t x then s.mergeInto t w .flip
      else s

/-- The kinds of movement whose issue withdraws the wheel's QUEUED care tasks (R84). -/
def TaskKind.clearsCare : TaskKind → Bool
  | .movement .move | .movement .remove | .movement .park => true
  | _ => false

/-- A movement task's intent becomes ACTIVE at its issue; the care tasks of a wheel to be moved are withdrawn (R80, R84). -/
def State.issueMovement (s : State) (t : TaskRecord) : State :=
  match t.wheel with
  | none => s
  | some w =>
    let u := if t.isMovement then
        s.changeWheel w fun x => { x with intent := x.intent.map fun i => { i with status := .active } }
      else s
    if t.kind.clearsCare then u.withdrawCare w else u

/-- Issue of a task that is in the list (R70, R80, R95, R117): ISSUED with a new issue number and rereads 0, its zones marked, its
intent ACTIVE, the merge made, the link WORKING with the deadline of the kind as issued and the wheel's tag as issued tag. -/
def State.issue (s : State) (t : TaskRecord) : State :=
  let u := (s.stampIssue t.number).changeTask t.number fun v => { v with state := .issued, rereads := 0 }
  let u := (t.zones s).foldl State.markZone u
  let u := u.issueMovement t
  let u := u.merge t
  let kind := ((u.task t.number).map TaskRecord.kind).getD t.kind
  let u := { u with link := { u.link with state := .working, verified := false, issuedTag := s.tagOf t } }
  u.setDeadline kind

/-- The answer that carries the task under a number. -/
def State.workReply (s : State) (n : Fin 64) : Reply :=
  match s.task n with
  | some t => ⟨.ok, .work (s.workOf t)⟩
  | none => ⟨.ok, .empty⟩

/-- A TAKE in IDLE, served by the Dispatcher (R79, R92). -/
def State.dispatchTake (s : State) : State × Reply :=
  if s.dispatch.paused then (s, ⟨.none, .noWork .paused⟩)
  else
    let u := s.checkList
    match u.choice with
    | .empty => (u, ⟨.none, .noWork .empty⟩)
    | .blocked => (u.raise .management .starved, ⟨.none, .noWork .blocked⟩)
    | .task t => (u.issue t, (u.issue t).workReply t.number)

end Sys2Proof.Machine
end

