-- ==== Sys2Proof/Machine/Ending.lean ====
section
/-! DEFINITION. How a task leaves ISSUED or ABORTING: taken back or ended (06 R98 to R100), the promotion of exclusions that
follows (10 R178), completions of movements (07 R129, R130) and the last survey record (08 R143). -/

namespace Sys2Proof.Machine

/-- Clearing a presence mark turns a PENDING exclusion ACTIVE with the pending minutes (R178). -/
def Zone.leave (z : Zone) : Zone :=
  if z.presence then
    { z with
      presence := false
      exclusion := match z.exclusion with
        | .pending m => .active m
        | e => e }
  else z

/-- Clearing this zone's mark promotes its exclusion. -/
def Zone.promotes (z : Zone) : Bool :=
  z.presence && match z.exclusion with
    | .pending _ => true
    | _ => false

/-- The presence marks set at the task's issue are cleared, and the PENDING exclusions of those zones become ACTIVE with
EXCLUSION_GRANTED raised on the climate port (R176, R178). At most one task is out, so every mark that is set is its own. -/
def State.leaveZones (s : State) : State :=
  State.raiseIf { s with zones := s.zones.map Zone.leave } (s.zones.toList.any Zone.promotes) .climate .exclusionGranted

/-- The verify flag, issued tag and deadline belong to the task that is out; they go when it leaves (R95). -/
def State.clearOut (s : State) : State :=
  let u := { s with link := { s.link with verified := false, issuedTag := none, deadline := none } }
  u.leaveZones

/-- Set the link state. -/
def State.setLink (s : State) (l : LinkState) : State := { s with link := { s.link with state := l } }

/-- Set the robot position register (R97). -/
def State.setPosition (s : State) (p : Option Coord) : State := { s with link := { s.link with position := p } }

/-- The care fault that a care task ending FAILED sets (R34, R100). -/
def FailReason.careFault : FailReason → Option CareFault
  | .mismatch => some .mismatchAtCare
  | .unreadable => some .unreadableAtCare
  | .attempts => some .attempts
  | _ => none

/-- Set a care fault; every other QUEUED care task of the wheel is withdrawn (R34). -/
def State.setCareFault (s : State) (w : Nat) (f : CareFault) : State :=
  (s.changeWheel w fun x => { x with careFault := some f }).withdrawCare w

/-- The number of positions a survey has applied (R143). -/
def SurveyRange.applied (r : SurveyRange) : Nat :=
  match r.next with
  | some n => n.val - r.first.val
  | none => r.last.val + 1 - r.first.val

/-- The last survey record written when a survey ends (R143). -/
def State.recordSurvey (s : State) (t : TaskRecord) (e : Ending) : State :=
  match t.kind, t.place, t.range with
  | .survey, .level a l, some r =>
    let record : SurveyRecord :=
      { task := t.number, aisle := a, level := l, first := r.first, last := r.last, applied := r.applied, ending := e,
        minute := s.clock.minute }
    { s with lastSurvey := some record }
  | _, _, _ => s

/-- What an ending does to the wheel beyond its marks (R100 step 4): a care task ending FAILED sets its care fault, a BEFORE_PICK
movement ending FAILED or ABORTED ends its intent. -/
def State.endEffects (s : State) (t : TaskRecord) (e : Ending) : State :=
  match t.wheel with
  | none => s
  | some w =>
    match t.kind, e with
    | .movement _, .failed _ => if t.phase = some .beforePick then s.endIntent w e else s
    | .movement _, .aborted => if t.phase = some .beforePick then s.endIntent w e else s
    | .movement _, _ => s
    | .survey, _ => s
    | _, .failed r =>
      match r.careFault with
      | some f => s.setCareFault w f
      | none => s
    | _, _ => s

/-- An ending FAILED. -/
def Ending.isFailed : Ending → Bool
  | .failed _ => true
  | _ => false

/-- A task ends (R100 steps 1 to 5): it leaves the list, its marks and the link's items are cleared, the effects of its outcome
are made, and the notices raised. The link state is set by the rule that ends it. -/
def State.endTask (s : State) (t : TaskRecord) (e : Ending) : State :=
  let u := { s with tasks := s.tasks.filter fun v => v.number != t.number }
  let u := (u.markTask t false).clearOut
  let u := (u.endEffects t e).recordSurvey t e
  (u.raiseIf e.isFailed .management .taskFailed).raiseIf t.isMovement .management .moveEnded

/-- A task returns to QUEUED with its attempts increased, staying at 3 once there (R99). It returns also where the conditions of R78 have
come to fail while it was out; the check of the next TAKE withdraws it then (DESIGN CHOICE, log entry 33). -/
def State.requeue (s : State) (t : TaskRecord) : State :=
  (s.changeTask t.number fun v => { v with state := .queued, attempts := min Config.maxAttempts (v.attempts + 1) }).clearOut

/-- The issued task is taken back: a CARRIED one returns to QUEUED; any other returns to QUEUED or, at the third attempt, ends
FAILED(ATTEMPTS). A task that is ABORTING ends ABORTED instead (R99). -/
def State.takeBack (s : State) : State :=
  match s.out with
  | none => s
  | some t =>
    if t.state = .aborting then s.endTask t .aborted
    else if t.phase = some .carried then s.requeue t
    else if Config.maxAttempts ≤ t.attempts + 1 then s.endTask t (.failed .attempts)
    else s.requeue t

/-! ## Completions of movements -/

/-- The outcome of a completed movement: FAILED(BLOCKED) when a blocked drop has set its destination, else DONE (R129, R130). -/
def Intent.outcome (i : Intent) : Ending := if i.retargeted then .failed .blocked else .done

/-- End a completed movement's intent with an outcome. -/
def State.finishIntent (s : State) (w : Nat) (e : Ending) : State :=
  s.changeWheel w fun x => { x with intent := none, lastOutcome := some e }

/-- Free the return slot of a completed movement (R130). -/
def State.freeReturn (s : State) (w : Nat) (i : Intent) : State :=
  match i.returnSlot with
  | some r => s.freeReserved r .putBack w
  | none => s

/-- The completion of a movement of wheel w with intent i (R129, R130). A PLACE or MOVE puts the wheel on its destination slot and
empties a separate return slot; a REMOVE empties the return slot and deletes the record; a PARK leaves the wheel AT_INFEED. -/
def State.completeIntent (s : State) (w : Nat) (i : Intent) : State :=
  match i.kind, i.destination with
  | .place, .slot d => (s.placeIn w d).finishIntent w .done
  | .move, .slot d => ((s.freeReturn w i).placeIn w d).finishIntent w i.outcome
  | .remove, _ => ((s.freeReturn w i).finishIntent w .done).deleteWheel w
  | .park, _ => (s.changeWheel w fun x => { x with location := .atInfeed }).finishIntent w i.outcome
  | _, _ => s

/-- The completion made at a taken DONE of a CARRIED movement task (R128). -/
def State.complete (s : State) (t : TaskRecord) : State :=
  match t.wheel with
  | none => s
  | some w =>
    match (s.wheel w).bind Wheel.intent with
    | none => s
    | some i => s.completeIntent w i

end Sys2Proof.Machine
end

