-- ==== Sys2Proof/Machine/Gripper.lean ====
section
/-! DEFINITION. Gripper reconciliation at READY (07 R133 to R137). -/

namespace Sys2Proof.Machine

/-- The handles of the wheels IN_GRIPPER, lowest first. -/
def State.inGripper (s : State) : List Nat := (s.wheels.filter fun e => e.2.location == .inGripper).map Prod.fst

/-- Release what an intent reserves: its slot destination and its return slot go to EMPTY, each if still held for it (R134). -/
def State.freeIntent (s : State) (w : Nat) (i : Intent) : State :=
  (s.freeDestination w i).freeReturn w i

/-- A wheel lost from the gripper (R134). -/
def State.loseWheel (s : State) (w : Nat) : State :=
  let u := s.withdrawMovement w
  let u := match (s.wheel w).bind Wheel.intent with
    | some i => u.freeIntent w i
    | none => u
  let u := u.changeWheel w fun x =>
    { x with location := .unknown, intent := none, lastOutcome := some (.failed .lostLoad) }
  (u.record .gripperEmpty none (some w) none).raise .management .moveEnded

/-- A PARK made for a wheel found in the gripper (R135, R136). -/
def parkIntent : Intent :=
  { kind := .park, destination := .infeed, retargeted := false, returnSlot := none, phase := .carried, status := .pending }

/-- The intent of a wheel lifted from a board with no record of it: its own MOVE or REMOVE, now CARRIED with the board as return
slot, or a MOVE back to the board (R135). -/
def liftedIntent (i : Option Intent) (c : Coord) : Intent :=
  match i with
  | some i => { i with phase := .carried, returnSlot := some c }
  | none =>
    { kind := .move, destination := .slot c, retargeted := false, returnSlot := some c, phase := .carried, status := .pending }

/-- A wheel found in the gripper that the part holds in slot c (R135). -/
def State.liftFromSlot (s : State) (w : Nat) (c : Coord) (tag : TagId) : State :=
  let u := (s.setSlot c (.reserved .putBack w)).withdrawCare w
  let u := u.changeWheel w fun x => { x with location := .inGripper, intent := some (liftedIntent x.intent c) }
  (u.alignTask w).record .gripperUnexpected (some c) (some w) (some tag)

/-- A wheel found in the gripper that the part holds AT_INFEED (R135). -/
def State.liftFromInfeed (s : State) (w : Nat) (tag : TagId) : State :=
  let u := s.changeWheel w fun x =>
    { x with
      location := .inGripper
      intent := some (match x.intent with
        | some i => { i with phase := .carried }
        | none => parkIntent) }
  (u.alignTask w).record .gripperUnexpected none (some w) (some tag)

/-- A lost wheel found in the gripper (R136). -/
def State.findLost (s : State) (w : Nat) : State :=
  let u := s.withdrawMovement w
  let u := match (s.wheel w).bind Wheel.intent with
    | some i => u.freeDestination w i
    | none => u
  u.changeWheel w fun x => { x with location := .inGripper, intent := some parkIntent }

/-- Reconciliation for a load whose tag names wheel w (R135, R136). -/
def State.reconcileNamed (s : State) (w : Nat) (tag : TagId) : State :=
  match (s.wheel w).map Wheel.location with
  | some (.inSlot c) => s.liftFromSlot w c tag
  | some .atInfeed => s.liftFromInfeed w tag
  | some .unknown => s.findLost w
  | some .inGripper => s
  | none => s

/-- The wheel a load report names, when the part can name the load (R133). -/
inductive Load
  | none | wheel (w : Nat) (tag : TagId) | unknown (tag : Option TagId)
deriving DecidableEq, Repr

/-- The load a READY reports (R133). -/
def State.loadOf (s : State) (r : TagReport) : Load :=
  match classify r with
  | .nothing => .none
  | .unreadable => .unknown Option.none
  | .readable t =>
    match s.lookup t with
    | some w => .wheel w t
    | Option.none => .unknown (some t)

/-- Gripper reconciliation: every wheel IN_GRIPPER that the report does not name is lost; then the wheel named is taken as found,
or the unknown load recorded (R133 to R137). Lost wheels come lowest handle first, and before the entry of a wheel named (DESIGN CHOICE,
log entry 34); that GRIPPER_UNKNOWN comes after GRIPPER_EMPTY is R145's. -/
def State.reconcile (s : State) (l : Load) : State :=
  match l with
  | .none => s.inGripper.foldl State.loseWheel s
  | .wheel w t => ((s.inGripper.filter fun v => v != w).foldl State.loseWheel s).reconcileNamed w t
  | .unknown t => (s.inGripper.foldl State.loseWheel s).record .gripperUnknown Option.none Option.none t

end Sys2Proof.Machine
end

