-- ==== Sys2Proof/Machine/Robot.lean ====
section
/-! DEFINITION. The commands of the robot port: READY, TAKE, HOMED, ARRIVED, PICKED, SLOT_READ, DONE, FAULT, SLOT_BLOCKED (06, 07
sections 7.4 to 7.7, 08 sections 8.1 to 8.3). -/

namespace Sys2Proof.Machine

/-! ## READY -/

/-- The position a READY reports: refused when a coordinate is out of range or position known is yes with none (R101). -/
def readyPosition (known : Bool) (position : Option RawCoord) : Option (Option Coord) :=
  match position with
  | some r => (coordOf r).map fun c => if known then some c else none
  | none => if known then none else some none

/-- What a READY takes back: the issued task in WORKING, the HOME order in UNHOMED and RECOVERY (R102). -/
def State.readyTakesBack (s : State) : State :=
  match s.link.state with
  | .working => s.takeBack
  | .unhomed | .recovery => { s with link := { s.link with homeOrder := none } }
  | _ => s

/-- The link state after a READY whose load the part can name (R103). -/
def readyState (before : LinkState) (position : Option Coord) : LinkState :=
  if before = .recovery then .recovery else if position.isSome then .idle else .unhomed

/-- READY (R101 to R103, R116). -/
def serveReady (known : Bool) (position : Option RawCoord) (carrying : TagReport) (s : State) : State × Reply :=
  match readyPosition known position with
  | none => refuse s .badField
  | some p =>
    if s.link.state = .halted then refuse s .state
    else
      let u := s.readyTakesBack
      let load := u.loadOf carrying
      let u := (u.reconcile load).setPosition p
      match load with
      | .unknown _ => ((u.setLink .halted).raise .management .robotHalted, ⟨.unknownLoad, .empty⟩)
      | _ =>
        let l := readyState s.link.state p
        accept ((u.setLink l).testIf (l == .idle)) (.link l)

/-- READY: the robot announces itself (R101). -/
def execReady (f : Frame) (known : Bool) (position : Option RawCoord) (carrying : TagReport) (s : State) :
    Host.Outcome State Fault Refusal :=
  .next (s.request f .ready (serveReady known position carrying))

/-! ## TAKE and HOMED -/

/-- A HOME order is made when none is outstanding; the answer carries the HOME coordinate (R104). -/
def State.orderHome (s : State) : State × Reply :=
  accept { s with link := { s.link with homeOrder := some (s.link.homeOrder.getD Config.homeAllowance) } }
    (.homeOrder s.config.robot.home)

/-- TAKE in each link state (R104). -/
def serveTake (s : State) : State × Reply :=
  match s.link.state with
  | .idle => s.dispatchTake
  | .working =>
    match s.out with
    | some t => (s, ⟨.ok, .work (s.workOf t)⟩)
    | none => refuse s .state
  | .unhomed | .recovery => s.orderHome
  | .offline | .lost | .halted => refuse s .state

/-- TAKE: the robot asks for work (R104). -/
def execTake (f : Frame) (s : State) : Host.Outcome State Fault Refusal := .next (s.request f .take serveTake)

/-- HOMED in each link state (R105). -/
def serveHomed (s : State) : State × Reply :=
  let home := s.setPosition (some s.config.robot.home)
  match s.link.state with
  | .unhomed | .recovery =>
    let u := { home with link := { home.link with homeOrder := none } }
    accept (u.setLink .idle).testAvailable
  | .idle => accept home
  | .offline | .working | .halted | .lost => refuse s .state

/-- HOMED: the robot stands at HOME (R105). -/
def execHomed (f : Frame) (s : State) : Host.Outcome State Fault Refusal := .next (s.request f .homed serveHomed)

/-! ## Judging a report by its pair -/

/-- The four judgements of a report's pair (R98). -/
inductive Judgement
  | badField | current (t : TaskRecord) | stale | tooLate
deriving DecidableEq, Repr

/-- A report is judged by its pair before anything else (R98). -/
def State.judge (s : State) (r : TaskRef) : Judgement :=
  if h : r.task < 64 then
    let n : Fin 64 := ⟨r.task, h⟩
    match s.task n with
    | some t =>
      if t.queued then if r.issue = s.dispatch.lastIssue[n] then .tooLate else .stale
      else if t.issue = r.issue then .current t
      else .stale
    | none => if r.issue = s.dispatch.lastIssue[n] then .tooLate else .stale
  else .badField

/-- Serve a report: only a current one is applied (R98). -/
def State.onReport (s : State) (r : TaskRef) (k : TaskRecord → State × Reply) : State × Reply :=
  match s.judge r with
  | .badField => refuse s .badField
  | .stale => refuse s .stale
  | .tooLate => refuse s .tooLate
  | .current t => k t

/-- A task ends and the link goes to IDLE, which runs the TASK_AVAILABLE test (R100 step 6). -/
def State.endIdle (s : State) (t : TaskRecord) (e : Ending) : State := ((s.endTask t e).setLink .idle).testAvailable

/-- A report on an ABORTING task that is not applied: answered ABORT, and the task ends ABORTED (R120). -/
def State.abortOut (s : State) (t : TaskRecord) : State × Reply := (s.endIdle t .aborted, ⟨.abort, .empty⟩)

/-! ## ARRIVED -/

/-- The tasks whose tag is verified at a first point: care tasks, and BEFORE_PICK PLACEs, MOVEs and REMOVEs (R106). -/
def TaskRecord.verifiable (t : TaskRecord) : Bool :=
  match t.kind with
  | .flip | .brush | .flipBrush => true
  | .movement .park => false
  | .movement _ => t.phase == some .beforePick
  | .survey => false

/-- The discrepancy kind of a final verification failure at a slot (R107, R108). -/
def FailReason.visitKind : FailReason → DiscrepancyKind
  | .unreadable => .unreadable
  | _ => .mismatch

/-- A verification that has failed for good: at a slot the slot goes SUSPECT if OCCUPIED and the finding is recorded; at the
infeed an INFEED_MISMATCH is recorded; the task ends FAILED and the link goes to IDLE (R107 to R109). -/
def State.verifyFailed (s : State) (t : TaskRecord) (r : FailReason) (tag : Option TagId) : State × Reply :=
  let u := match t.place with
    | .board c => (s.suspectOccupied c).record r.visitKind (some c) (s.slot c).handle tag
    | _ => s.record .infeedMismatch none none tag
  (u.endIdle t (.failed r), ⟨.mismatch, .verifyFailed r⟩)

/-- The tag verifies: PROCEED, the verify flag, last seen (R107). -/
def State.verified (s : State) (t : TaskRecord) : State × Reply :=
  let u := { s with link := { s.link with verified := true } }
  (match t.wheel with
    | some w => u.changeWheel w fun x => { x with lastSeen := some s.clock.minute }
    | none => u,
   ⟨.proceed, .empty⟩)

/-- The judgement of a fitting ARRIVED's tag report (R107 to R109). -/
def State.verify (s : State) (t : TaskRecord) (tag : TagReport) : State × Reply :=
  match classify tag with
  | .readable x => if s.link.issuedTag = some x then s.verified t else s.verifyFailed t .mismatch (some x)
  | _ =>
    if t.rereads < 2 then (s.changeTask t.number fun v => { v with rereads := v.rereads + 1 }, ⟨.reread, .empty⟩)
    else s.verifyFailed t .unreadable none

/-- ARRIVED on a task (R106, R120). -/
def serveArrived (ref : TaskRef) (tag : TagReport) (s : State) : State × Reply :=
  s.onReport ref fun t =>
    if t.state = .aborting then (s.setPosition (some (t.firstPoint s))).abortOut t
    else if t.verifiable && !s.link.verified then
      ((s.setPosition (some (t.firstPoint s))).setDeadline t.kind).verify t tag
    else refuse s .sequence

/-- ARRIVED: the robot stands at the task's first point (R106). -/
def execArrived (f : Frame) (ref : TaskRef) (tag : TagReport) (s : State) : Host.Outcome State Fault Refusal :=
  .next (s.request f .arrived (serveArrived ref tag))

/-! ## PICKED -/

/-- The board a picked wheel was lifted from; none for a PLACE (R110). -/
def TaskRecord.source (t : TaskRecord) : Option Coord :=
  match t.kind, t.place with
  | .movement .move, .board c => some c
  | .movement .remove, .board c => some c
  | _, _ => none

/-- The wheel is in the gripper: task and intent CARRIED, location IN_GRIPPER, the source slot RESERVED(RETURN, w), the deadline
renewed (R110). -/
def State.pick (s : State) (t : TaskRecord) (w : Nat) : State :=
  let u := match t.source with
    | some c => s.setSlot c (.reserved .putBack w)
    | none => s
  let u := u.changeWheel w fun x =>
    { x with
      location := .inGripper
      intent := x.intent.map fun i => { i with phase := .carried, returnSlot := t.source } }
  (u.changeTask t.number fun v => { v with phase := some .carried }).setDeadline t.kind

/-- PICKED on a task (R110, R120). -/
def servePicked (ref : TaskRef) (s : State) : State × Reply :=
  s.onReport ref fun t =>
    if t.state = .aborting then s.abortOut t
    else if t.isMovement && t.verifiable && s.link.verified then
      match t.wheel with
      | some w => accept (s.pick t w)
      | none => refuse s .sequence
    else refuse s .sequence

/-- PICKED: the wheel is in the gripper (R110). -/
def execPicked (f : Frame) (ref : TaskRef) (s : State) : Host.Outcome State Fault Refusal :=
  .next (s.request f .picked (servePicked ref))

/-! ## SLOT_READ -/

/-- The tag ID of the wheel a slot names. -/
def State.tagOfWheel (s : State) (w : Nat) : Option TagId := (s.wheel w).map Wheel.tag

/-- Last seen becomes the current minute (R22). -/
def State.seen (s : State) (w : Nat) : State := s.changeWheel w fun x => { x with lastSeen := some s.clock.minute }

/-- The survey comparison at a slot (R141, R142). -/
def State.compare (s : State) (c : Coord) (finding : TagFinding) : State × SurveyOutcome :=
  match s.slot c, finding with
  | .occupied w, .readable t =>
    if s.tagOfWheel w = some t then (s.seen w, .confirmed)
    else ((s.makeSuspect c (some w)).record .mismatch (some c) (some w) (some t), .madeSuspect)
  | .occupied w, _ => ((s.makeSuspect c (some w)).record .missing (some c) (some w) none, .madeSuspect)
  | .empty, .readable t => ((s.makeSuspect c none).record .unexpected (some c) none (some t), .madeSuspect)
  | .empty, .unreadable => (s.record .unexpected (some c) none none, .noted)
  | .empty, .nothing => (s, .noChange)
  | .suspect (some w), .readable t =>
    if s.tagOfWheel w = some t then ((s.setSlot c (.occupied w)).seen w, .restored)
    else (s.record .mismatch (some c) (some w) (some t), .noted)
  | .suspect (some w), _ => (s.record .missing (some c) (some w) none, .noted)
  | .suspect none, .nothing => (s.setSlot c .empty, .cleared)
  | .suspect none, .readable t => (s.record .unexpected (some c) none (some t), .noted)
  | .suspect none, .unreadable => (s.record .unexpected (some c) none none, .noted)
  | .reserved _ _, _ => (s, .ignored)
  | .faulted, _ => (s, .ignored)

/-- The next expected position after one has been applied: the next, or COMPLETE after the last (R140). -/
def SurveyRange.after (r : SurveyRange) (n : Fin 48) : Option (Fin 48) :=
  if n = r.last then none else if h : n.val + 1 < 48 then some ⟨n.val + 1, h⟩ else none

/-- An applied survey report (R140). -/
def State.applySurvey (s : State) (t : TaskRecord) (r : SurveyRange) (n : Fin 48) (tag : TagReport) : State × Reply :=
  let c := t.place.at s n
  let u := ((s.compare c (classify tag)).1.setPosition (some c)).setDeadline .survey
  accept (u.changeTask t.number fun v => { v with range := some { r with next := r.after n } })
    (.surveyed (s.compare c (classify tag)).2 (r.after n))

/-- Where a SLOT_READ on an ABORTING survey leaves the position register (R120; log entry 13). -/
def State.abortedReadPosition (s : State) (t : TaskRecord) (position : Nat) : Option Coord :=
  if h : t.kind = .survey ∧ position < 48 then some (t.place.at s ⟨position, h.2⟩) else s.link.position

/-- SLOT_READ on a task (R140, R120). -/
def serveSlotRead (ref : TaskRef) (position : Nat) (tag : TagReport) (s : State) : State × Reply :=
  s.onReport ref fun t =>
    if t.state = .aborting then (s.setPosition (s.abortedReadPosition t position)).abortOut t
    else
      match t.kind, t.range with
      | .survey, some r =>
        match r.next with
        | some n => if n.val = position then s.applySurvey t r n tag else refuse s .sequence
        | none => refuse s .sequence
      | _, _ => refuse s .sequence

/-- SLOT_READ: one survey position's tag (R140). -/
def execSlotRead (f : Frame) (ref : TaskRef) (position : Nat) (tag : TagReport) (s : State) : Host.Outcome State Fault Refusal :=
  .next (s.request f .slotRead (serveSlotRead ref position tag))

/-! ## DONE -/

/-- The flip a task carries and the robot reports done (R111). -/
def TaskRecord.creditsFlip (t : TaskRecord) (flipDone : Bool) : Bool :=
  flipDone && (t.kind == .flip || t.kind == .flipBrush)

/-- The brush a task carries and the robot reports done (R111). -/
def TaskRecord.creditsBrush (t : TaskRecord) (brushDone : Bool) : Bool :=
  brushDone && (t.kind == .brush || t.kind == .flipBrush)

/-- The credited actions are written to the wheel record, and the dues recomputed when one was (R111, R21, R43). -/
def State.credit (s : State) (t : TaskRecord) (flipDone brushDone : Bool) : State :=
  match t.wheel with
  | none => s
  | some w =>
    let u := if t.creditsFlip flipDone then s.changeWheel w fun x => x.creditFlip s.clock.minute else s
    let u := if t.creditsBrush brushDone then u.changeWheel w fun x => x.creditBrush s.clock.minute else u
    if t.creditsFlip flipDone || t.creditsBrush brushDone then u.computeDues w else u

/-- A DONE fits a care task that is verified, a CARRIED movement, and every survey (R111, R112). -/
def State.doneFits (s : State) (t : TaskRecord) : Bool :=
  match t.kind with
  | .flip | .brush | .flipBrush => s.link.verified
  | .movement _ => t.phase == some .carried
  | .survey => true

/-- A survey whose last position has not been reported. -/
def TaskRecord.unfinished (t : TaskRecord) : Bool :=
  match t.kind, t.range with
  | .survey, some r => r.next.isSome
  | _, _ => false

/-- The position of a survey's most recent applied SLOT_READ, the one before the next expected; none before the first (R140). -/
def SurveyRange.lastApplied (r : SurveyRange) : Option (Fin 48) :=
  match r.next with
  | some n => if r.first < n then some ⟨n.val - 1, by omega⟩ else none
  | none => some r.last

/-- Where a fitting DONE leaves the position register (R112, R143): at the task's last point; for an unfinished survey at the slot of
its most recent applied SLOT_READ, whether or not the task has been taken back and issued again since; before the first such report
the register stays as it is. -/
def State.donePosition (s : State) (t : TaskRecord) : Option Coord :=
  if t.unfinished then
    match t.range.bind SurveyRange.lastApplied with
    | some n => some (t.place.at s n)
    | none => s.link.position
  else some (t.lastPoint s)

/-- How a fitting DONE ends the task (R111, R112, R120). -/
def TaskRecord.doneEnding (t : TaskRecord) : Ending :=
  if t.unfinished then if t.state = .aborting then .aborted else .failed .incomplete else .done

/-- A fitting DONE: the actions are credited or the movement completed, the task ends, the position register is set, the link goes to
IDLE and the fault count to 0 (R111, R112). -/
def State.finish (s : State) (t : TaskRecord) (flipDone brushDone : Bool) : State :=
  let p := s.donePosition t
  let u := if t.isMovement then s.complete t else if t.isCare then s.credit t flipDone brushDone else s
  let u := (u.endTask t t.doneEnding).setPosition p
  let u := { u with link := { u.link with state := .idle, faults := 0 } }
  u.testAvailable

/-- DONE on a task (R111, R112, R120). -/
def serveDone (ref : TaskRef) (flipDone brushDone : Bool) (s : State) : State × Reply :=
  s.onReport ref fun t =>
    if s.doneFits t then accept (s.finish t flipDone brushDone)
    else if t.state = .aborting then s.abortOut t
    else refuse s .sequence

/-- DONE: the work of the task is finished (R112). -/
def execDone (f : Frame) (ref : TaskRef) (flipDone brushDone : Bool) (s : State) : Host.Outcome State Fault Refusal :=
  .next (s.request f .done (serveDone ref flipDone brushDone))

/-! ## FAULT and SLOT_BLOCKED -/

/-- The slot that is the robot's current point, where a SLOT_BLOCKED is taken as a blocked slot (R113). -/
def State.blockedPoint (s : State) (t : TaskRecord) : Option Coord :=
  match t.kind with
  | .flip | .brush | .flipBrush =>
    match t.place with
    | .board c => some c
    | _ => none
  | .movement _ =>
    if t.phase = some .carried then
      match t.destination with
      | some (.slot c) => some c
      | _ => none
    else t.source
  | .survey =>
    match t.range with
    | some r => r.next.map fun n => t.place.at s n
    | none => none

/-- A blocked slot at a visit or a survey (R114, R120): the slot goes SUSPECT if OCCUPIED, the finding is recorded, and the task
ends FAILED(BLOCKED), or ABORTED when it was ABORTING. -/
def State.blockedVisit (s : State) (t : TaskRecord) (c : Coord) : State × Reply :=
  let u := ((s.setPosition (some c)).suspectOccupied c).record .blocked (some c) (s.slot c).handle none
  if t.state = .aborting then u.abortOut t else accept (u.endIdle t (.failed .blocked))

/-- The intent after a blocked drop at board d: back to a separate return slot (R131), or a PARK at INFEED (R132). -/
def retargetIntent (i : Intent) (d : Coord) : Intent :=
  match i.kind, i.returnSlot with
  | .move, some r =>
    if r = d then { parkIntent with retargeted := true, status := .active }
    else { i with destination := .slot r, retargeted := true }
  | _, _ => { parkIntent with retargeted := true, status := .active }

/-- A blocked drop at board d: the board goes SUSPECT(none), the finding is recorded, intent and task are retargeted, the issue
number raised and the deadline renewed (R114, R131, R132). The verify flag is left set (R114, R131 step 4), also for
a task issued again after a take-back or a start (DEDUCED: log entry 35). -/
def State.blockedDrop (s : State) (t : TaskRecord) (w : Nat) (i : Intent) (d : Coord) : State × Reply :=
  let u := ((s.setPosition (some d)).makeSuspect d none).record .blocked (some d) none none
  let u := { u with link := { u.link with verified := true } }
  let i' := retargetIntent i d
  let u := ((u.setIntent w (some i')).alignTask w).stampIssue t.number
  let u := u.setDeadline (.movement i'.kind)
  (u, u.workReply t.number)

/-- The link state after a robot fault (R115 step 3). -/
def faultState (before : LinkState) (faults : Nat) : LinkState :=
  if before = .recovery then .halted else if faults < 3 then .recovery else .halted

/-- A robot fault (R115); on an ABORTING task the task ends ABORTED and the answer is ABORT (R120). -/
def State.robotFault (s : State) (kind : FaultKind) : State × Reply :=
  let out := if s.link.state = .working then s.out else none
  let u := if s.link.state = .working then s.takeBack else s
  let n := min 3 (s.link.faults + 1)
  let l := faultState s.link.state n
  let u := { u with link := { u.link with
    state := l, faults := n, homeOrder := none, position := none,
    lastFault := some ⟨kind, s.clock.minute, out.map TaskRecord.kind⟩ } }
  (u.raiseIf (l == .halted) .management .robotHalted,
   ⟨if (out.map TaskRecord.state) = some .aborting then .abort else .ok, .empty⟩)

/-- A SLOT_BLOCKED taken as MOTION is recorded as MOTION (R113, R115). -/
def FaultKind.asRobotFault : FaultKind → FaultKind
  | .slotBlocked => .motion
  | k => k

/-- A CARRIED task, whose blocked slot is a drop. -/
def TaskRecord.carried (t : TaskRecord) : Bool := t.phase == some .carried

/-- A FAULT that is taken (R113): a blocked slot, a blocked drop, or a robot fault. -/
def State.takeFault (s : State) (kind : FaultKind) : State × Reply :=
  match kind, s.link.state, s.out with
  | .slotBlocked, .working, some t =>
    match s.blockedPoint t with
    | some c =>
      if t.carried then
        match t.state, t.wheel, (t.wheel.bind s.wheel).bind Wheel.intent with
        | .issued, some w, some i => s.blockedDrop t w i c
        | _, _, _ => s.robotFault .motion
      else s.blockedVisit t c
    | none => s.robotFault .motion
  | k, _, _ => s.robotFault (FaultKind.asRobotFault k)

/-- FAULT and SLOT_BLOCKED (R113): the pair is judged first where there is one; then the kind; then the link state. -/
def serveFault (form : BodyForm) (kind : FaultKind) (ref : Option TaskRef) (s : State) : State × Reply :=
  match ref with
  | some r => s.onReport r fun _ => if form = .badName then refuse s .badField else s.takeFault kind
  | none =>
    if form = .badName then refuse s .badField
    else
      match s.link.state with
      | .offline | .lost | .halted => refuse s .state
      | _ => s.takeFault kind

/-- FAULT: the robot could not go on (R113, R115). -/
def execFault (f : Frame) (kind : FaultKind) (ref : Option TaskRef) (s : State) : Host.Outcome State Fault Refusal :=
  .next (s.request f .fault (serveFault f.form kind ref))

/-- SLOT_BLOCKED: a FAULT of kind SLOT_BLOCKED (R113, R114). -/
def execSlotBlocked (f : Frame) (ref : Option TaskRef) (s : State) : Host.Outcome State Fault Refusal :=
  .next (s.request f .fault (serveFault f.form .slotBlocked ref))

/-! ## The expiries -/

/-- A task deadline expiry, granted while its task is still out with the deadline at 0 (R118); void otherwise (R117). -/
def State.expireTask (s : State) : State :=
  let u := s.grantInternal .taskDeadline
  if u.link.deadline = some 0 ∧ u.out.isSome then
    ((u.takeBack.setLink .lost).setPosition none).raise .management .robotLost
  else u

/-- TASK_DEADLINE_EXPIRY (R118). -/
def execTaskDeadlineExpiry (s : State) : Host.Outcome State Fault Refusal := .next (s.whenRunning State.expireTask)

/-- A HOME order's deadline expires in UNHOMED or RECOVERY (R119); void otherwise. -/
def State.expireHome (s : State) : State :=
  let u := s.grantInternal .homeDeadline
  if u.link.homeOrder = some 0 ∧ (u.link.state = .unhomed ∨ u.link.state = .recovery) then
    let u := { u with link := { u.link with homeOrder := none, state := .lost, position := none } }
    u.raise .management .robotLost
  else u

/-- HOME_ORDER_EXPIRY (R119). -/
def execHomeOrderExpiry (s : State) : Host.Outcome State Fault Refusal := .next (s.whenRunning State.expireHome)

end Sys2Proof.Machine
end

