-- ==== Sys2Proof/Machine/Supply.lean ====
section
/-! DEFINITION. Supply, retention and starts: MAIN_SUPPLY_FAIL, MAIN_SUPPLY_RETURN, RESET_LINE, BATTERY_THRESHOLD (01 R2, R10, 02 R36,
03 R42, 05 R94, 11 R182, R186, R188 to R191). -/

namespace Sys2Proof.Machine

/-! ## Entry to retention -/

/-- A port stops: receiver, outstanding request and waiting responses are discarded (R182). -/
def PortRecord.stop (r : PortRecord) : PortRecord := { r with rx := [], outstanding := none, tx := [] }

/-- The part enters retention. A battery already below its threshold clears the retention-intact flag (R157, R182, R186, R188,
R190; log entry 22). -/
def State.enterRetention (s : State) : State :=
  { s with
    supply := { s.supply with state := .retention, intact := s.supply.intact && !s.supply.batteryLow }
    loop := { s.loop with pass := none, handed := [] }
    memory := { s.memory with saving := none }
    ports := { management := s.ports.management.stop, robot := s.ports.robot.stop, climate := s.ports.climate.stop }
    arbiter := { s.arbiter with asked := [] } }

/-- MAIN_SUPPLY_FAIL (R190). -/
def execMainSupplyFail (s : State) : Host.Outcome State Fault Refusal := .next (s.whenRunning State.enterRetention)

/-! ## A start -/

/-- Retention loss: the Table Store cleared, the clock 0 and CLOCK_UNSET set (R191 step 1). -/
def State.loseRetention (s : State) : State :=
  { s with slots := [], wheels := [], tags := [], tasks := [], discrepancies := [], clock := { minute := 0, unset := true } }

/-- The stored configuration is valid (R189). -/
def State.storeValid (s : State) (imageCrc : Bool) : Bool := s.memory.valid && imageCrc

/-- The working configuration loaded from the store, or every section at its default (R189). -/
def State.loadConfig (s : State) (imageCrc : Bool) : State :=
  if s.storeValid imageCrc then { s with config := s.memory.image, memory := { s.memory with source := .stored } }
  else { s with config := Configuration.default, memory := { s.memory with source := .defaults } }

/-- The GEOMETRY section settled against the retained geometry (R2). -/
def State.settleGeometry (s : State) : State :=
  if s.wheels ≠ [] then { s with config := { s.config with geometry := s.retainedGeometry } }
  else if s.config.geometry = s.retainedGeometry then s
  else s.takeGeometry s.config.geometry

/-- The class that a start settles: the retained copy of a referenced class, else the one loaded (R42). -/
def State.settledClass (s : State) (n : Fin 16) : CareClass :=
  if 0 < s.references n then s.retainedProfiles[n] else s.config.classes[n]

/-- The CARE_CLASS sections settled against their retained copies (R42). -/
def State.settleClasses (s : State) : State :=
  { s with
    config := { s.config with classes := Vector.ofFn s.settledClass }
    retainedProfiles := Vector.ofFn s.settledClass }

/-- A wheel record through a start: its marks cleared, an ACTIVE intent made PENDING (R36, R94, R138). -/
def Wheel.restart (x : Wheel) : Wheel :=
  { x with
    intent := x.intent.map fun i => { i with status := .pending }
    flipMark := false, brushMark := false, moveMark := false }

/-- The rate a strap selects (R181). -/
def baudOf (fast : Bool) : Baud := if fast then .b115200 else .b57600

/-- Every block at its reset values (R191 step 3). -/
def State.resetBlocks (s : State) (i : StartInputs) : State :=
  { s with
    wheels := s.wheels.map fun e => (e.1, e.2.restart)
    tasks := []
    lastSurvey := none
    dispatch := Dispatcher.initial
    link := RobotLink.initial
    sweep := Sweep.initial
    loop :=
      { timer := 0, startsDue := 0, pass := none, lastPoll := none
        heads := Vector.ofFn fun h =>
          { state := if s.config.sensor.assignment[h].isSome then .probing else .off, misses := 0, reading := none }
        handed := [] }
    zones := Vector.replicate 8 Zone.initial
    memory := { s.memory with saving := none, lastSave := none }
    ports :=
      { management := PortRecord.initial .management (baudOf i.managementFast)
        robot := PortRecord.initial .robot (baudOf i.robotFast)
        climate := PortRecord.initial .climate (baudOf i.climateFast) }
    arbiter := { cycleLast := .sweep, passedOver := 0, asked := [] } }

/-- The start notices (R189, R191 step 4). -/
def State.startNotices (s : State) (lost defaulted : Bool) : State :=
  let u := s.raise .management .restarted
  let u := (u.raiseIf lost .management .inventoryLost).raiseIf lost .management .clockUnset
  u.raiseIf defaulted .management .configDefaulted

/-- A start (R191): classification, configuration, blocks, notices, flag; the first loop pass begins at once (R157). -/
def State.start (s : State) (i : StartInputs) (lost : Bool) : State :=
  let u := if lost then s.loseRetention else s
  let u := ((u.loadConfig i.imageCrc).settleGeometry).settleClasses
  let u := (u.resetBlocks i).startNotices lost (!s.storeValid i.imageCrc)
  State.beginLoopPass { u with supply := { u.supply with state := .running, intact := true } }

/-- MAIN_SUPPLY_RETURN: a start out of retention, with retention lost when the retention-intact flag is clear (R191). -/
def execMainSupplyReturn (i : StartInputs) (s : State) : Host.Outcome State Fault Refusal :=
  .next (match s.supply.state with
    | .retention => s.start i (!s.supply.intact)
    | .running => s)

/-- RESET_LINE: a start while RUNNING that keeps the Table Store; no effect in retention (R190, R191). -/
def execResetLine (i : StartInputs) (s : State) : Host.Outcome State Fault Refusal :=
  .next (s.whenRunning fun u => u.start i false)

/-- BATTERY_THRESHOLD: below the threshold in retention, retention is no longer intact; battery low follows the battery (R190). -/
def execBatteryThreshold (below : Bool) (s : State) : Host.Outcome State Fault Refusal :=
  .next { s with supply := { s.supply with
    batteryLow := below
    intact := match s.supply.state with
      | .retention => s.supply.intact && !below
      | .running => s.supply.intact } }

end Sys2Proof.Machine
end

