-- ==== Sys2Proof/Machine/Sweep.lean ====
section
/-! DEFINITION. The sweep: SWEEP_PERIOD_BOUNDARY and SWEEP_VISIT (04 sections 4.1 to 4.4, R53 to R66). -/

namespace Sys2Proof.Machine

/-! ## Passes -/

/-- A pass starts from handle 0 (R55). -/
def Sweep.start (w : Sweep) : Sweep := { w with running := true, cursor := 0 }

/-- A period boundary: a pass starts, or is owed by the one that runs, which is late (R55). -/
def Sweep.boundary (w : Sweep) : Sweep := if w.running then { w with owed := true, late := true } else w.start

/-- A boundary that a minute event has brought is acted on (R55; log entry 8). -/
def Sweep.takeBoundary (w : Sweep) : Sweep :=
  match w.boundaries with
  | 0 => w
  | n + 1 => Sweep.boundary { w with boundaries := n }

/-- SWEEP_PERIOD_BOUNDARY (R55). -/
def execSweepPeriodBoundary (s : State) : Host.Outcome State Fault Refusal :=
  .next (s.whenRunning fun u => { u with sweep := u.sweep.takeBoundary })

/-- A pass ends. A pass that no boundary met is not late; an owed pass starts at once (R55). -/
def Sweep.finish (w : Sweep) : Sweep :=
  { w with running := w.owed, cursor := 0, passCount := (w.passCount + 1) % 65536, owed := false, late := w.owed && w.late }

/-- The cursor after a visit; the pass ends when the last handle has been visited (R56). -/
def Sweep.advance (w : Sweep) (handle : Nat) : Sweep :=
  if Config.handles ≤ handle + 1 then w.finish else { w with cursor := handle + 1 }

/-! ## The visit -/

/-- The movement offer of a visit to wheel w, of record x after step 1: its intent, its mark absent, its location fitting (R58). The
second part says whether a task was entered. -/
def State.visitMovement (s : State) (w : Nat) (x : Wheel) : State × Bool :=
  match x.intent with
  | none => (s, false)
  | some i =>
    if !x.moveMark && s.intentFits x i then
      match s.offerNonCare (s.movementTask w x i) with
      | some (u, _) => (u, true)
      | none => (s, false)
    else (s, false)

/-- A movement task naming the wheel is ISSUED or ABORTING (R59). -/
def State.movementOut (s : State) (w : Nat) : Bool := s.tasks.any fun t => t.isMovement && !t.queued && t.names w

/-- The conditions that a FLIP and a BRUSH share, for a wheel on board c (R59). -/
def State.careOpen (s : State) (w : Nat) (x : Wheel) (c : Coord) : Bool :=
  !s.clock.unset && (s.slot c).isOccupied && x.hold != .inspect && x.careFault.isNone && !s.movementOut w

/-- A due that is present and not greater than the clock. -/
def State.dueNow (s : State) (due : Option Nat) : Bool :=
  match due with
  | some m => decide (m ≤ s.clock.minute)
  | none => false

/-- A FLIP is wanted (R59). -/
def State.wantsFlip (s : State) (w : Nat) (x : Wheel) (c : Coord) : Bool :=
  s.careOpen w x c && !x.flipMark && s.dueNow x.flipDue

/-- A BRUSH is wanted (R60). -/
def State.wantsBrush (s : State) (w : Nat) (x : Wheel) (c : Coord) : Bool :=
  s.careOpen w x c && !x.brushMark && s.dueNow x.brushDue && (s.zone (s.zoneOf c)).alarm != .lowAlarm && x.hold != .quarantine

/-- A care candidate is offered: entered, or set aside with BACKLOG (R61, R64, R66). -/
def State.offerCandidate (s : State) (t : TaskRecord) : State × Bool :=
  match s.offerCare t with
  | some u => (u, true)
  | none => (s.raise .management .backlog, false)

/-- The FLIP offer of a visit to wheel w, of record x after step 1 (R57, R59, R61). -/
def State.visitFlip (s : State) (w : Nat) (x : Wheel) : State × Bool :=
  match x.location with
  | .inSlot c =>
    if s.wantsFlip w x c then s.offerCandidate (TaskRecord.offered .flip (some w) (.board c) (x.flipDue.getD 0))
    else (s, false)
  | _ => (s, false)

/-- The BRUSH offer of a visit to wheel w, of record x after step 1 (R57, R60, R61). -/
def State.visitBrush (s : State) (w : Nat) (x : Wheel) : State × Bool :=
  match x.location with
  | .inSlot c =>
    if s.wantsBrush w x c then s.offerCandidate (TaskRecord.offered .brush (some w) (.board c) (x.brushDue.getD 0))
    else (s, false)
  | _ => (s, false)

/-- The three offers of a visit to wheel w, each judged against its record x after step 1 and against the list with the offers before
it: a mark that an eviction clears on the way still stands in x (R57). The second part says whether a task was entered. -/
def State.visitOffers (s : State) (w : Nat) (x : Wheel) : State × Bool :=
  let m := s.visitMovement w x
  let f := m.1.visitFlip w x
  let b := f.1.visitBrush w x
  (b.1, m.2 || f.2 || b.2)

/-- A visit: dues, movement, flip, brush, and the TASK_AVAILABLE test when something was entered (R57, R91). -/
def State.visit (s : State) (w : Nat) : State :=
  let u := s.computeDues w
  match u.wheel w with
  | none => u
  | some x => (u.visitOffers w x).1.testIf (u.visitOffers w x).2

/-- The grant of a visit in a running pass: the lowest handle in use at or above the cursor, or the end of the pass (R56). -/
def State.sweepVisit (s : State) : State :=
  if s.sweep.running then
    let u := s.grantSweep
    match Table.nextFrom s.sweep.cursor s.wheels with
    | some (w, _) =>
      let v := u.visit w
      { v with sweep := v.sweep.advance w }
    | none => { u with sweep := u.sweep.finish }
  else s

/-- SWEEP_VISIT (R56, R57). -/
def execSweepVisit (s : State) : Host.Outcome State Fault Refusal := .next (s.whenRunning State.sweepVisit)

end Sys2Proof.Machine
end

