-- ==== Sys2Proof/Machine/TimeBase.lean ====
section
/-! DEFINITION. The minute time base: MINUTE_EVENT and SECOND_EVENT, and every counter that counts them (01 R14, R15). -/

namespace Sys2Proof.Machine

/-- The clock after a minute event; it stays at its limit (R15). -/
def Clock.tick (c : Clock) : Clock := { c with minute := min Config.maxMinute (c.minute + 1) }

/-- A running count falls by one (R117). -/
def countDown (n : Option Nat) : Option Nat := n.map fun k => k - 1

/-- A running count reaches 0 at this minute event (R117). -/
def reachesZero (n : Option Nat) : Bool := n == some 1

/-- The hold count and the exclusion of a zone at a minute event (R162, R179). -/
def Zone.tick (z : Zone) : Zone :=
  { z with
    holdCount := min Config.maxHold (z.holdCount + 1)
    exclusion := match z.exclusion with
      | .active n => .active (n - 1)
      | e => e }

/-- The period timer at a minute event (R54). -/
def Sweep.tick (w : Sweep) (period : Nat) : Sweep :=
  if period ≤ w.timer + 1 then { w with timer := 0, boundaries := w.boundaries + 1 } else { w with timer := w.timer + 1 }

/-- The zones whose exclusion reaches 0 at this minute event, lowest first (R179; log entry 20). -/
def State.endingZones (s : State) : List ZoneNumber := (List.finRange 8).filter fun z => (s.zone z).exclusion == .active 1

/-- The requests that a minute event makes of the arbiter (R117, R179, R186). -/
def State.minuteAsks (s : State) : List InternalRequest :=
  (if reachesZero s.link.deadline then [.taskDeadline] else []) ++ (if reachesZero s.link.homeOrder then [.homeDeadline] else []) ++
    s.endingZones.map .exclusionEnd

/-- The elapsed-minute counters at a minute event, while RUNNING (R14). -/
def State.countMinute (s : State) : State :=
  { s with
    link := { s.link with deadline := countDown s.link.deadline, homeOrder := countDown s.link.homeOrder }
    zones := s.zones.map Zone.tick
    sweep := s.sweep.tick s.config.period
    arbiter := { s.arbiter with asked := s.arbiter.asked ++ s.minuteAsks } }

/-- MINUTE_EVENT: the clock advances in either supply state; the counters count while RUNNING (R14, R15). -/
def execMinuteEvent (s : State) : Host.Outcome State Fault Refusal :=
  .next { s.whenRunning State.countMinute with clock := s.clock.tick }

/-- The loop period timer at a second event (R157). -/
def SensorLoop.tick (l : SensorLoop) (period : Nat) : SensorLoop :=
  if period ≤ l.timer + 1 then { l with timer := 0, startsDue := l.startsDue + 1 } else { l with timer := l.timer + 1 }

/-- SECOND_EVENT (R14, R157). -/
def execSecondEvent (s : State) : Host.Outcome State Fault Refusal :=
  .next (s.whenRunning fun u => { u with loop := u.loop.tick u.config.sensor.period })

end Sys2Proof.Machine
end

