-- ==== Sys2Proof/Machine/Dispatch.lean ====
section
/-! DEFINITION. Every command's meaning, one arm each. -/

namespace Sys2Proof.Machine

def exec (i : Instr) (s : State) : Host.Outcome State Fault Refusal :=
  match i with
  | .setWindow f source destination => Sys2Proof.Machine.execSetWindow f source destination s
  | .readNotices f => Sys2Proof.Machine.execReadNotices f s
  | .setNoticeMask f flags => Sys2Proof.Machine.execSetNoticeMask f flags s
  | .listLevel f level => Sys2Proof.Machine.execListLevel f level s
  | .ready f known position carrying => Sys2Proof.Machine.execReady f known position carrying s
  | .take f => Sys2Proof.Machine.execTake f s
  | .homed f => Sys2Proof.Machine.execHomed f s
  | .arrived f ref tag => Sys2Proof.Machine.execArrived f ref tag s
  | .picked f ref => Sys2Proof.Machine.execPicked f ref s
  | .slotRead f ref position tag => Sys2Proof.Machine.execSlotRead f ref position tag s
  | .doneReport f ref flipDone brushDone => Sys2Proof.Machine.execDone f ref flipDone brushDone s
  | .faultReport f kind ref => Sys2Proof.Machine.execFault f kind ref s
  | .slotBlocked f ref => Sys2Proof.Machine.execSlotBlocked f ref s
  | .readHeads f => Sys2Proof.Machine.execReadHeads f s
  | .setZoneLimits f zone limits => Sys2Proof.Machine.execSetZoneLimits f zone limits s
  | .ackZone f zone => Sys2Proof.Machine.execAckZone f zone s
  | .readZone f zone => Sys2Proof.Machine.execReadZone f zone s
  | .startCapture f zone count => Sys2Proof.Machine.execStartCapture f zone count s
  | .stopCapture f zone => Sys2Proof.Machine.execStopCapture f zone s
  | .readCapture f zone count => Sys2Proof.Machine.execReadCapture f zone count s
  | .endExclusion f zone => Sys2Proof.Machine.execEndExclusion f zone s
  | .readConfig f name => Sys2Proof.Machine.execReadConfig f name s
  | .requestExclusion f zone minutes => Sys2Proof.Machine.execRequestExclusion f zone minutes s
  | .setSlotFault f level position => Sys2Proof.Machine.execSetSlotFault f level position s
  | .clearSlotFault f level position => Sys2Proof.Machine.execClearSlotFault f level position s
  | .setClock f minute => Sys2Proof.Machine.execSetClock f minute s
  | .readStatus f => Sys2Proof.Machine.execReadStatus f s
  | .readWheel f handle => Sys2Proof.Machine.execReadWheel f handle s
  | .findWheel f tag => Sys2Proof.Machine.execFindWheel f tag s
  | .setClass f handle cls => Sys2Proof.Machine.execSetClass f handle cls s
  | .holdWheel f handle kind => Sys2Proof.Machine.execHold f handle kind s
  | .release f handle => Sys2Proof.Machine.execRelease f handle s
  | .clearCareFault f handle => Sys2Proof.Machine.execClearCareFault f handle s
  | .bookIn f tag batch entry cls slot quarantine => Sys2Proof.Machine.execBookIn f tag batch entry cls slot quarantine s
  | .relocate f sourceLevel sourcePosition destLevel destPosition => Sys2Proof.Machine.execRelocate f sourceLevel sourcePosition destLevel destPosition s
  | .bookOut f handle => Sys2Proof.Machine.execBookOut f handle s
  | .cancelMove f handle => Sys2Proof.Machine.execCancelMove f handle s
  | .abortTask f task => Sys2Proof.Machine.execAbortTask f task s
  | .pauseDispatch f => Sys2Proof.Machine.execPauseDispatch f s
  | .resumeDispatch f => Sys2Proof.Machine.execResumeDispatch f s
  | .readTasks f start => Sys2Proof.Machine.execReadTasks f start s
  | .clearRobotHalt f => Sys2Proof.Machine.execClearRobotHalt f s
  | .requestSurvey f level first last => Sys2Proof.Machine.execRequestSurvey f level first last s
  | .readDiscrepancy f => Sys2Proof.Machine.execReadDiscrepancy f s
  | .resolveSlotConfirm f level position => Sys2Proof.Machine.execResolveSlotConfirm f level position s
  | .resolveSlotClear f level position => Sys2Proof.Machine.execResolveSlotClear f level position s
  | .resolveSlotAssign f level position tag => Sys2Proof.Machine.execResolveSlotAssign f level position tag s
  | .resolveWheelPlaceAt f handle level position => Sys2Proof.Machine.execResolveWheelPlaceAt f handle level position s
  | .resolveWheelDelete f handle => Sys2Proof.Machine.execResolveWheelDelete f handle s
  | .writeConfigGeometry f aisles levels positions quarantine => Sys2Proof.Machine.execWriteConfigGeometry f aisles levels positions quarantine s
  | .writeConfigZoneMap f aisle zones => Sys2Proof.Machine.execWriteConfigZoneMap f aisle zones s
  | .writeConfigCareClass f n fields => Sys2Proof.Machine.execWriteConfigCareClass f n fields s
  | .writeConfigRobot f fields => Sys2Proof.Machine.execWriteConfigRobot f fields s
  | .writeConfigSweep f period => Sys2Proof.Machine.execWriteConfigSweep f period s
  | .writeConfigSensor f period heads => Sys2Proof.Machine.execWriteConfigSensor f period heads s
  | .writeConfigZone f zone limits => Sys2Proof.Machine.execWriteConfigZone f zone limits s
  | .saveConfig f => Sys2Proof.Machine.execSaveConfig f s
  | .saveComplete imageEqual => Sys2Proof.Machine.execSaveComplete imageEqual s
  | .frameDiscard p lengthByte rest => Sys2Proof.Machine.execFrameDiscard p lengthByte rest s
  | .interByteGap p next => Sys2Proof.Machine.execInterByteGap p next s
  | .requestBusy p kindCode => Sys2Proof.Machine.execRequestBusy p kindCode s
  | .minuteEvent => Sys2Proof.Machine.execMinuteEvent s
  | .secondEvent => Sys2Proof.Machine.execSecondEvent s
  | .sweepPeriodBoundary => Sys2Proof.Machine.execSweepPeriodBoundary s
  | .sweepVisit => Sys2Proof.Machine.execSweepVisit s
  | .taskDeadlineExpiry => Sys2Proof.Machine.execTaskDeadlineExpiry s
  | .homeOrderExpiry => Sys2Proof.Machine.execHomeOrderExpiry s
  | .exclusionEnding zone => Sys2Proof.Machine.execExclusionEnding zone s
  | .loopPassStart => Sys2Proof.Machine.execLoopPassStart s
  | .loopReply bytes => Sys2Proof.Machine.execLoopReply bytes s
  | .replyWindowClose => Sys2Proof.Machine.execReplyWindowClose s
  | .zoneUpdate => Sys2Proof.Machine.execZoneUpdate s
  | .mainSupplyFail => Sys2Proof.Machine.execMainSupplyFail s
  | .mainSupplyReturn inputs => Sys2Proof.Machine.execMainSupplyReturn inputs s
  | .resetLine inputs => Sys2Proof.Machine.execResetLine inputs s
  | .batteryThreshold below => Sys2Proof.Machine.execBatteryThreshold below s
  | .responseSent p => Sys2Proof.Machine.execResponseSent p s
  | .unknownKindRequest f kindCode => Sys2Proof.Machine.execUnknownKindRequest f kindCode s

end Sys2Proof.Machine
end

