-- ==== Sys2Proof/Machine/Arbiter.lean ====
section
/-! DEFINITION. What the table-store arbiter grants next (11 R186). The commands of the queue are its grants in order; this says
which grant the arbiter's own rule would make (log entry 1). -/

namespace Sys2Proof.Machine

/-- The requesters of the arbiter (R186). -/
inductive Requester
  | port (p : Port) | sweep | internal (i : InternalRequest)
deriving DecidableEq, Repr

/-- The place after a place of the cycle management, robot, climate, sweep (R186). -/
def CyclePlace.next : CyclePlace → CyclePlace
  | .port .management => .port .robot
  | .port .robot => .port .climate
  | .port .climate => .sweep
  | .sweep => .port .management

/-- The requester at a place of the cycle. -/
def CyclePlace.requester : CyclePlace → Requester
  | .port p => .port p
  | .sweep => .sweep

/-- A place of the cycle whose requester waits: a port among those given, the sweep while a pass is running. -/
def State.placeWaits (s : State) (ports : List Port) : CyclePlace → Bool
  | .port p => ports.contains p
  | .sweep => s.sweep.running

/-- The four places of the cycle, beginning after the one most recently granted. -/
def CyclePlace.following (c : CyclePlace) : List CyclePlace := [c.next, c.next.next, c.next.next.next, c]

/-- The next grant, given the ports that have a request waiting (R186). -/
def State.nextGrant (s : State) (ports : List Port) : Option Requester :=
  if s.sweep.running ∧ 4 ≤ s.arbiter.passedOver then some .sweep
  else
    match s.arbiter.asked with
    | i :: _ => some (.internal i)
    | [] => (s.arbiter.cycleLast.following.find? fun c => s.placeWaits ports c).map CyclePlace.requester

end Sys2Proof.Machine
end

