-- ==== Sys2Proof/Machine/Frames.lean ====
section
/-! DEFINITION. Frames and the arguments of requests (11 R180, R181, R193): the command a received frame is. -/

namespace Sys2Proof.Machine

/-! ## Reading arguments -/

/-- A reader of arguments: the value read and the bytes left. -/
abbrev Reader (α : Type) := List Byte → Option (α × List Byte)

/-- A number in so many bytes, most significant first (R181). -/
def number (n : Nat) : Reader Nat := fun b => if n ≤ b.length then some (valueOf (b.take n), b.drop n) else none

/-- So many numbers of one width. -/
def numbers (width : Nat) : Nat → Reader (List Nat)
  | 0 => fun b => some ([], b)
  | k + 1 => fun b =>
    match number width b with
    | none => none
    | some (x, b) => (numbers width k b).map fun r => (x :: r.1, r.2)

/-- A flag byte, 1 for set and 0 for clear (log entry 26). -/
def flag : Reader Bool := fun b => (number 1 b).map fun r => (r.1 != 0, r.2)

/-- An optional argument: a byte 1 before it, or a byte 0 in its place (R181). -/
def optional {α : Type} (r : Reader α) : Reader (Option α) := fun b =>
  match b with
  | [] => none
  | x :: rest => if x = 0#8 then some (none, rest) else (r rest).map fun y => (some y.1, y.2)

/-- A coordinate: aisle, level, position (R181). -/
def coordinate : Reader RawCoord := fun b =>
  match b with
  | a :: l :: p :: rest => some (⟨a.toNat, l.toNat, p.toNat⟩, rest)
  | _ => none

/-- Eight bytes of tag content (R24, R181). -/
def content : Reader TagContent := fun b => (number 8 b).map fun r => (BitVec.ofNat 64 r.1, r.2)

/-- A task number and an issue number (R98). -/
def pair : Reader TaskRef := fun b =>
  match b with
  | t :: i :: rest => some (⟨t.toNat, i.toNat⟩, rest)
  | _ => none

/-- Vectors from lists of the right length. -/
def vectorOf {α : Type} (n : Nat) (l : List α) : Option (Vector α n) := if h : l.length = n then some ⟨l.toArray, by simpa using h⟩ else none

/-- The whole body must have been read (R181). -/
def whole {α β : Type} (r : Reader α) (k : α → β) (b : List Byte) : Option β :=
  match r b with
  | some (x, []) => some (k x)
  | _ => none

/-- One reader after another. -/
def both {α β : Type} (r : Reader α) (q : Reader β) : Reader (α × β) := fun b =>
  match r b with
  | none => none
  | some (x, b) => (q b).map fun y => ((x, y.1), y.2)

/-! ## Arguments of the sections -/

/-- The seven fields of a ZONE section (R167). -/
def limitFields : Reader RawLimits := fun b =>
  match both (numbers 2 2) (both (numbers 1 2) (both (numbers 2 2) (number 1))) b with
  | some ((([lo, hi], [hy, dwell], [boost, hold], shift)), rest) => some (⟨lo, hi, hy, dwell, boost, hold, shift⟩, rest)
  | _ => none

/-- The fields of a CARE_CLASS section (R37). -/
def classFields : Reader RawClass := fun b =>
  match both flag (both (numbers 2 4) (both (both (numbers 2 4) (numbers 2 4)) (numbers 1 4))) b with
  | some ((valid, [hs, d1, d2, d3], (bf, bb), [kf, kb, w, m]), rest) =>
    match vectorOf 4 bf, vectorOf 4 bb with
    | some f, some g => some (⟨valid, hs, d1, d2, d3, f, g, kf, kb, w, m⟩, rest)
    | _, _ => none
  | _ => none

/-- The fields of a ROBOT section (R187). -/
def robotFields : Reader RawRobot := fun b =>
  match both (both coordinate (both coordinate coordinate)) (both (numbers 1 8) (both (numbers 1 2) (number 2))) b with
  | some (((i, o, h), al, [ca, cl], boost), rest) => (vectorOf 8 al).map fun v => (⟨i, o, h, v, ca, cl, boost⟩, rest)
  | _ => none

/-- The assignment of one head: an optional zone (R156, R181). -/
def heads : Nat → Reader (List (Option Nat))
  | 0 => fun b => some ([], b)
  | k + 1 => fun b =>
    match optional (number 1) b with
    | none => none
    | some (x, b) => (heads k b).map fun r => (x :: r.1, r.2)

/-- The quarantine set in two bytes, aisle a at the bit of weight 2^a (log entry 26). -/
def aisleSet (n : Nat) : Vector Bool 16 := Vector.ofFn fun a => n.testBit a.val

/-- The name of a section to be read: its number in the table of 11.5, then n or the aisle (R181). -/
def sectionName (f : Frame) (b : List Byte) : Option Instr :=
  match b with
  | [] => none
  | x :: rest =>
    match x.toNat, rest.map BitVec.toNat with
    | 0, [] => some (.readConfig f .geometry)
    | 1, [n] => some (.readConfig f (.zoneMap n))
    | 2, [n] => some (.readConfig f (.careClass n))
    | 3, [] => some (.readConfig f .robot)
    | 4, [] => some (.readConfig f .sweep)
    | 5, [] => some (.readConfig f .sensor)
    | 6, [n] => some (.readConfig f (.zone n))
    | k, _ => if 7 ≤ k then some (.readConfig { f with form := .badName } .geometry) else none

/-- A section to be written (R181, R187). -/
def sectionWrite (f : Frame) (b : List Byte) : Option Instr :=
  match b with
  | [] => none
  | x :: rest =>
    match x.toNat with
    | 0 => match both (numbers 1 3) (number 2) rest with
      | some (([a, l, p], q), []) => some (.writeConfigGeometry f a l p (aisleSet q))
      | _ => none
    | 1 => match both (number 1) (numbers 1 12) rest with
      | some ((a, zs), []) => (vectorOf 12 zs).map (Instr.writeConfigZoneMap f a)
      | _ => none
    | 2 => whole (both (number 1) classFields) (fun y => .writeConfigCareClass f y.1 y.2) rest
    | 3 => whole robotFields (Instr.writeConfigRobot f) rest
    | 4 => whole (number 1) (Instr.writeConfigSweep f) rest
    | 5 => match both (number 2) (heads 24) rest with
      | some ((p, hs), []) => (vectorOf 24 hs).map (Instr.writeConfigSensor f p)
      | _ => none
    | 6 => whole (both (number 1) limitFields) (fun y => .writeConfigZone f y.1 y.2) rest
    | _ => some (.writeConfigSweep { f with form := .badName } 0)

/-! ## Requests -/

/-- The hold kinds in the order of R18, which lists NONE too, and not of R32 (DESIGN CHOICE: log entry 26). -/
def holdOf (f : Frame) (handle kind : Nat) : Instr :=
  match kind with
  | 0 => .holdWheel f handle .none
  | 1 => .holdWheel f handle .inspect
  | 2 => .holdWheel f handle .quarantine
  | _ => .holdWheel { f with form := .badName } handle .none

/-- The fault kinds in the order of R113; a FAULT of kind SLOT_BLOCKED is the row SLOT_BLOCKED. -/
def faultOf (f : Frame) (kind : Nat) (ref : Option TaskRef) : Instr :=
  match kind with
  | 0 => .faultReport f .tool ref
  | 1 => .faultReport f .motion ref
  | 2 => .faultReport f .grip ref
  | 3 => .slotBlocked f ref
  | _ => .faultReport { f with form := .badName } .tool ref

/-- RESOLVE_SLOT: the slot, then the action and its arguments (R147, R181). An unlisted action fits with whatever follows it
(DESIGN CHOICE: log entry 26). -/
def resolveSlotOf (f : Frame) (b : List Byte) : Option Instr :=
  match b with
  | l :: p :: a :: rest =>
    match a.toNat with
    | 0 => if rest = [] then some (.resolveSlotConfirm f l.toNat p.toNat) else none
    | 1 => if rest = [] then some (.resolveSlotClear f l.toNat p.toNat) else none
    | 2 => whole (number 6) (fun t => .resolveSlotAssign f l.toNat p.toNat (BitVec.ofNat 48 t)) rest
    | _ => some (.resolveSlotConfirm { f with form := .badName } l.toNat p.toNat)
  | _ => none

/-- RESOLVE_WHEEL: the handle, then the action and its arguments (R147, R181). An unlisted action fits with whatever follows it
(DESIGN CHOICE: log entry 26). -/
def resolveWheelOf (f : Frame) (b : List Byte) : Option Instr :=
  match both (number 2) (number 1) b with
  | some ((h, 0), [l, p]) => some (.resolveWheelPlaceAt f h l.toNat p.toNat)
  | some ((h, 1), []) => some (.resolveWheelDelete f h)
  | some ((h, _ + 2), _) => some (.resolveWheelDelete { f with form := .badName } h)
  | _ => none

/-- The command of a request whose body fits its kind, its arguments in the order the manual names them (R181). -/
def fittingCommand (k : RequestKind) (f : Frame) (b : List Byte) : Option Instr :=
  match k with
  | .setWindow => whole (both (number 1) (number 1)) (fun x => .setWindow f x.1 x.2) b
  | .readNotices => whole (numbers 1 0) (fun _ => .readNotices f) b
  | .setNoticeMask =>
    if b.length = (portNotices f.port).length then some (.setNoticeMask f ((portNotices f.port).zip (b.map fun x => x != 0#8)))
    else none
  | .listLevel => whole (number 1) (.listLevel f) b
  | .ready => whole (both flag (both (optional coordinate) (optional content))) (fun x => .ready f x.1 x.2.1 x.2.2) b
  | .take => whole (numbers 1 0) (fun _ => .take f) b
  | .homed => whole (numbers 1 0) (fun _ => .homed f) b
  | .arrived => whole (both pair (optional content)) (fun x => .arrived f x.1 x.2) b
  | .picked => whole pair (.picked f) b
  | .slotRead => whole (both pair (both (number 1) (optional content))) (fun x => .slotRead f x.1 x.2.1 x.2.2) b
  | .done => whole (both pair (both flag flag)) (fun x => .doneReport f x.1 x.2.1 x.2.2) b
  | .fault => whole (both (number 1) (optional pair)) (fun x => faultOf f x.1 x.2) b
  | .readHeads => whole (numbers 1 0) (fun _ => .readHeads f) b
  | .setZoneLimits => whole (both (number 1) limitFields) (fun x => .setZoneLimits f x.1 x.2) b
  | .ackZone => whole (number 1) (.ackZone f) b
  | .readZone => whole (number 1) (.readZone f) b
  | .startCapture => whole (both (number 1) (number 1)) (fun x => .startCapture f x.1 x.2) b
  | .stopCapture => whole (number 1) (.stopCapture f) b
  | .readCapture => whole (both (number 1) (number 1)) (fun x => .readCapture f x.1 x.2) b
  | .endExclusion => whole (number 1) (.endExclusion f) b
  | .readConfig => sectionName f b
  | .requestExclusion => whole (both (number 1) (number 1)) (fun x => .requestExclusion f x.1 x.2) b
  | .setSlotFault => whole (both (number 1) (number 1)) (fun x => .setSlotFault f x.1 x.2) b
  | .clearSlotFault => whole (both (number 1) (number 1)) (fun x => .clearSlotFault f x.1 x.2) b
  | .setClock => whole (number 4) (.setClock f) b
  | .readStatus => whole (numbers 1 0) (fun _ => .readStatus f) b
  | .readWheel => whole (number 2) (.readWheel f) b
  | .findWheel => whole (number 6) (fun t => .findWheel f (BitVec.ofNat 48 t)) b
  | .setClass => whole (both (number 2) (number 1)) (fun x => .setClass f x.1 x.2) b
  | .hold => whole (both (number 2) (number 1)) (fun x => holdOf f x.1 x.2) b
  | .release => whole (number 2) (.release f) b
  | .clearCareFault => whole (number 2) (.clearCareFault f) b
  | .bookIn =>
    whole (both (both (number 6) (number 2)) (both (both (number 4) (number 1)) (both (optional (both (number 1) (number 1))) flag)))
      (fun x => .bookIn f (BitVec.ofNat 48 x.1.1) x.1.2 x.2.1.1 x.2.1.2
        (match x.2.2.1 with
          | some s => .explicit s.1 s.2
          | none => .auto) x.2.2.2) b
  | .relocate =>
    whole (both (both (number 1) (number 1)) (both (number 1) (number 1))) (fun x => .relocate f x.1.1 x.1.2 x.2.1 x.2.2) b
  | .bookOut => whole (number 2) (.bookOut f) b
  | .cancelMove => whole (number 2) (.cancelMove f) b
  | .abortTask => whole (number 1) (.abortTask f) b
  | .pauseDispatch => whole (numbers 1 0) (fun _ => .pauseDispatch f) b
  | .resumeDispatch => whole (numbers 1 0) (fun _ => .resumeDispatch f) b
  | .readTasks => whole (number 1) (.readTasks f) b
  | .clearRobotHalt => whole (numbers 1 0) (fun _ => .clearRobotHalt f) b
  | .requestSurvey => whole (both (number 1) (both (number 1) (number 1))) (fun x => .requestSurvey f x.1 x.2.1 x.2.2) b
  | .readDiscrepancy => whole (numbers 1 0) (fun _ => .readDiscrepancy f) b
  | .resolveSlot => resolveSlotOf f b
  | .resolveWheel => resolveWheelOf f b
  | .writeConfig => sectionWrite f b
  | .saveConfig => whole (numbers 1 0) (fun _ => .saveConfig f) b

/-- The section a READ_CONFIG of a wrong length names, on which its permission depends (R183): the one its first byte names, a missing
number taken as 0. An empty body names none, and nothing but its length speaks against it: it stands as SENSOR, which every port that
may send READ_CONFIG may read (log entry 16). -/
def shortSection (b : List Byte) : SectionName :=
  match b.map BitVec.toNat with
  | [] => .sensor
  | 0 :: _ => .geometry
  | 1 :: n => .zoneMap (n.headD 0)
  | 2 :: n => .careClass (n.headD 0)
  | 3 :: _ => .robot
  | 4 :: _ => .sweep
  | 5 :: _ => .sensor
  | _ :: n => .zone (n.headD 0)

/-- The command of a kind whose body's length does not match: no argument is read but the section of READ_CONFIG (R181, R183). -/
def shortCommand (k : RequestKind) (f : Frame) (b : List Byte) : Instr :=
  match k with
  | .setWindow => .setWindow f 0 0
  | .readNotices => .readNotices f
  | .setNoticeMask => .setNoticeMask f []
  | .listLevel => .listLevel f 0
  | .ready => .ready f false none none
  | .take => .take f
  | .homed => .homed f
  | .arrived => .arrived f ⟨0, 0⟩ none
  | .picked => .picked f ⟨0, 0⟩
  | .slotRead => .slotRead f ⟨0, 0⟩ 0 none
  | .done => .doneReport f ⟨0, 0⟩ false false
  | .fault => .faultReport f .tool none
  | .readHeads => .readHeads f
  | .setZoneLimits => .setZoneLimits f 0 ⟨0, 0, 0, 0, 0, 0, 0⟩
  | .ackZone => .ackZone f 0
  | .readZone => .readZone f 0
  | .startCapture => .startCapture f 0 0
  | .stopCapture => .stopCapture f 0
  | .readCapture => .readCapture f 0 0
  | .endExclusion => .endExclusion f 0
  | .readConfig => .readConfig f (shortSection b)
  | .requestExclusion => .requestExclusion f 0 0
  | .setSlotFault => .setSlotFault f 0 0
  | .clearSlotFault => .clearSlotFault f 0 0
  | .setClock => .setClock f 0
  | .readStatus => .readStatus f
  | .readWheel => .readWheel f 0
  | .findWheel => .findWheel f 0#48
  | .setClass => .setClass f 0 0
  | .hold => .holdWheel f 0 .none
  | .release => .release f 0
  | .clearCareFault => .clearCareFault f 0
  | .bookIn => .bookIn f 0#48 0 0 0 .auto false
  | .relocate => .relocate f 0 0 0 0
  | .bookOut => .bookOut f 0
  | .cancelMove => .cancelMove f 0
  | .abortTask => .abortTask f 0
  | .pauseDispatch => .pauseDispatch f
  | .resumeDispatch => .resumeDispatch f
  | .readTasks => .readTasks f 0
  | .clearRobotHalt => .clearRobotHalt f
  | .requestSurvey => .requestSurvey f 0 0 0
  | .readDiscrepancy => .readDiscrepancy f
  | .resolveSlot => .resolveSlotConfirm f 0 0
  | .resolveWheel => .resolveWheelDelete f 0
  | .writeConfig => .writeConfigSweep f 0
  | .saveConfig => .saveConfig f

/-- The kind a code names (R181). -/
def kindOf (code : Nat) : Option RequestKind := if code = 0 then none else RequestKind.all[code - 1]?

/-- The command that a frame's length byte and the bytes after it are, on a port: a discard, a request of a listed kind, or one of an
unknown kind (R180, R181, R183). -/
def frameCommand (p : Port) (lengthByte : Byte) (rest : List Byte) : Instr :=
  if frameSurvives lengthByte rest then
    match rest.take lengthByte.toNat with
    | kind :: result :: body =>
      let f : Frame := { port := p, result := result.toNat, form := .fits }
      match kindOf kind.toNat with
      | some k => (fittingCommand k f body).getD (shortCommand k { f with form := .badLength } body)
      | none => .unknownKindRequest f kind.toNat
    | _ => .frameDiscard p lengthByte rest
  else .frameDiscard p lengthByte rest

/-! ## The link frame -/

/-- A whole link frame (R180, R193). -/
def frameBytes (kind result : Byte) (body : List Byte) : List Byte :=
  let covered := BitVec.ofNat 8 (body.length + 2) :: kind :: result :: body
  0xA9#8 :: covered ++ bytesOf 2 (crc16 0xFFFF#16 covered).toNat

end Sys2Proof.Machine
end

