-- ==== Sys2Proof/Machine/Responses.lean ====
section
/-! DEFINITION. The bytes of responses (11 R180, R181, R184, R193). Where R181 and the rule of a request fix the items of an answer
and not every byte, log entry 24 says what is taken. -/

namespace Sys2Proof.Machine

/-! ## Encodings -/

/-- A value of one byte. -/
def byte (n : Nat) : Byte := BitVec.ofNat 8 n

/-- A flag: 1 for set or yes, 0 for clear or no (log entry 24). -/
def flagByte (b : Bool) : Byte := if b then 1#8 else 0#8

/-- An optional item: 1 and the item, or 0 (R181). -/
def optionalBytes {α : Type} (f : α → List Byte) : Option α → List Byte
  | none => [0#8]
  | some x => 1#8 :: f x

/-- Records, preceded by their number where it varies (log entry 24). -/
def countedBytes {α : Type} (f : α → List Byte) (l : List α) : List Byte := byte l.length :: l.flatMap f

/-- A cellar minute. -/
def minuteBytes (m : Nat) : List Byte := bytesOf 4 m

/-- A wheel handle. -/
def handleBytes (w : Nat) : List Byte := bytesOf 2 w

/-- A tag ID in six bytes (R181). -/
def tagBytes (t : TagId) : List Byte := bytesOf 6 t.toNat

/-- A coordinate, or a full slot address, in three bytes (R181; log entry 24). -/
def Coord.bytes (c : Coord) : List Byte := [byte c.aisle.val, byte c.level.val, byte c.position.val]

/-! ## Result codes -/

/-- The results in the order of the table of R184. -/
def ResultCode.all : List ResultCode :=
  [.ok, .granted, .pending, .none, .proceed, .reread, .mismatch, .abort, .busy, .notPermitted, .badField, .state, .duplicate,
   .notFound, .full, .stale, .tooLate, .sequence, .unknownLoad, .saveFailed]

/-- The value of a result code, 00h to 13h (R184). -/
def ResultCode.value (c : ResultCode) : Byte := byte (ResultCode.all.idxOf c)

/-- The reason bytes of NONE (R184). -/
def NoWork.byte : NoWork → Byte
  | .empty => 1#8
  | .blocked => 2#8
  | .paused => 3#8

/-- The reason bytes of MISMATCH (R184). -/
def verifyByte : FailReason → Byte
  | .unreadable => 2#8
  | _ => 1#8

/-! ## Named values, numbered from 0 as their rules list them (R181) -/

/-- The five state names, in the order of R6. -/
def SlotState.byte : SlotState → Byte
  | .empty => 0#8
  | .occupied => 1#8
  | .reserved => 2#8
  | .suspect => 3#8
  | .faulted => 4#8

/-- A failure reason (R181). -/
def FailReason.byte : FailReason → Byte
  | .mismatch => 0#8
  | .unreadable => 1#8
  | .blocked => 2#8
  | .attempts => 3#8
  | .incomplete => 4#8
  | .lostLoad => 5#8

/-- A last outcome, in the order of R18: DONE, FAILED with its reason, CANCELLED, ABORTED. -/
def Ending.bytes : Ending → List Byte
  | .done => [0#8]
  | .failed r => [1#8, r.byte]
  | .cancelled => [2#8]
  | .aborted => [3#8]

/-- The outcome of a last survey record, in the order of R143: DONE, FAILED with its reason, ABORTED; a survey is never CANCELLED. -/
def surveyEndingBytes : Ending → List Byte
  | .done => [0#8]
  | .failed r => [1#8, r.byte]
  | .cancelled | .aborted => [2#8]

/-- The reason of a care fault, in the order of R18; R34 lists the three otherwise (DESIGN CHOICE: log entry 24). -/
def CareFault.byte : CareFault → Byte
  | .attempts => 0#8
  | .mismatchAtCare => 1#8
  | .unreadableAtCare => 2#8

/-- A face, in the order of R18. -/
def Face.byte : Face → Byte
  | .a => 0#8
  | .b => 1#8

/-- A hold kind, in the order of R18, which lists NONE too, and not of R32 (DESIGN CHOICE: log entry 24). -/
def holdByte : Hold → Byte
  | .none => 0#8
  | .inspect => 1#8
  | .quarantine => 2#8

/-- A location, in the order of R18, with the address of a slot. -/
def Location.bytes : Location → List Byte
  | .atInfeed => [0#8]
  | .inSlot c => 1#8 :: c.bytes
  | .inGripper => [2#8]
  | .unknown => [3#8]

/-- The status of an intent, in the order of R121. -/
def IntentStatus.byte : IntentStatus → Byte
  | .pending => 0#8
  | .active => 1#8

/-- A fault kind, in the order of R113. -/
def faultKindByte : FaultKind → Byte
  | .tool => 0#8
  | .motion => 1#8
  | .grip => 2#8
  | .slotBlocked => 3#8

/-- A link state, in the order of R95. -/
def LinkState.byte : LinkState → Byte
  | .offline => 0#8
  | .unhomed => 1#8
  | .idle => 2#8
  | .working => 3#8
  | .recovery => 4#8
  | .halted => 5#8
  | .lost => 6#8

/-- The outcome of a survey report, in the order of R140. -/
def SurveyOutcome.byte : SurveyOutcome → Byte
  | .confirmed => 0#8
  | .restored => 1#8
  | .cleared => 2#8
  | .madeSuspect => 3#8
  | .noted => 4#8
  | .noChange => 5#8
  | .ignored => 6#8

/-- A discrepancy kind, in the order of R144. -/
def DiscrepancyKind.byte : DiscrepancyKind → Byte
  | .mismatch => 0#8
  | .unreadable => 1#8
  | .missing => 2#8
  | .unexpected => 3#8
  | .blocked => 4#8
  | .infeedMismatch => 5#8
  | .gripperUnexpected => 6#8
  | .gripperEmpty => 7#8
  | .gripperUnknown => 8#8

/-- A head state, in the order of R158. -/
def HeadState.byte : HeadState → Byte
  | .off => 0#8
  | .probing => 1#8
  | .active => 2#8
  | .missing => 3#8
  | .faulty => 4#8

/-- A humidity state, in the order of R162. -/
def HumidityState.byte : HumidityState → Byte
  | .unseen => 0#8
  | .live => 1#8
  | .holding => 2#8
  | .lost => 3#8

/-- An alarm state, in the order of R166. -/
def AlarmState.byte : AlarmState → Byte
  | .normal => 0#8
  | .lowWatch => 1#8
  | .lowAlarm => 2#8
  | .highWatch => 3#8
  | .highAlarm => 4#8

/-- A capture mode, in the order of R166, COUNTED with its remaining count. -/
def CaptureMode.bytes : CaptureMode → List Byte
  | .off => [0#8]
  | .counted n => [1#8, byte n]
  | .continuous => [2#8]

/-- An exclusion: its state in the order of R166, the remaining minutes, 0 unless ACTIVE, and the pending minutes when present. -/
def Exclusion.bytes : Exclusion → List Byte
  | .none => [0#8, 0#8, 0#8]
  | .pending m => [1#8, 0#8, 1#8, byte m]
  | .active m => [2#8, byte m, 0#8]

/-- The notice kinds in the order of the table of R185, across its rows; ZONE_ALARM stands once (log entry 24). -/
def noticeOrder : List Notice :=
  portNotices .management ++ portNotices .robot ++ (portNotices .climate).filter fun n => n != .zoneAlarm

/-- A notice kind. -/
def noticeByte (n : Notice) : Byte := byte (noticeOrder.idxOf n)

/-- The configuration source, in the order of R189. -/
def ConfigSource.byte : ConfigSource → Byte
  | .stored => 0#8
  | .defaults => 1#8

/-- The outcome of a save, in the order of R188. -/
def SaveOutcome.byte : SaveOutcome → Byte
  | .ok => 0#8
  | .failed => 1#8

/-- The save state, in the order in which R188 names its values: IN_FLIGHT, IDLE. -/
def saveStateByte (inFlight : Bool) : Byte := if inFlight then 0#8 else 1#8

/-! ## Tasks and the answer to TAKE -/

/-- The codes of the task kinds (R193). -/
def TaskKind.byte : TaskKind → Byte
  | .flip => 1#8
  | .brush => 2#8
  | .flipBrush => 3#8
  | .movement .place => 4#8
  | .movement .move => 5#8
  | .movement .remove => 6#8
  | .movement .park => 7#8
  | .survey => 8#8

/-- The codes of a task's state (R193); 0 for QUEUED, which the answer to TAKE never carries (log entry 24). -/
def TaskState.byte : TaskState → Byte
  | .queued => 0#8
  | .issued => 1#8
  | .aborting => 2#8

/-- The resulting task state a taken ABORT_TASK answers (R88): ABORTING has the code of that state in R193, which R181 puts before the
order of listing; WITHDRAWN, which R193 does not code, has 0 as the first listed. -/
def AbortResult.byte : AbortResult → Byte
  | .withdrawn => 0#8
  | .aborting => TaskState.aborting.byte

/-- The codes of the phase (R193). -/
def phaseByte : Option Phase → Byte
  | none => 0#8
  | some .beforePick => 1#8
  | some .carried => 2#8

/-- The destination and its slot address, bytes 18 to 21 of the answer to TAKE (R193). -/
def destinationBytes : Option Destination → List Byte
  | none => [0#8, 0#8, 0#8, 0#8]
  | some (.slot c) => 1#8 :: c.bytes
  | some .infeed => [2#8, 0#8, 0#8, 0#8]
  | some .outfeed => [3#8, 0#8, 0#8, 0#8]

/-- A next expected position, FFh for COMPLETE (R193). -/
def nextByte : Option (Fin 48) → Byte
  | some n => byte n.val
  | none => 0xFF#8

/-- The range of a survey: first, last and next expected position (R193). -/
def SurveyRange.bytes (r : SurveyRange) : List Byte := [byte r.first.val, byte r.last.val, nextByte r.next]

/-- The survey range, bytes 22 to 24 of the answer to TAKE (R193). -/
def rangeBytes : Option SurveyRange → List Byte
  | none => [0#8, 0#8, 0#8]
  | some r => r.bytes

/-- The answer to TAKE for a list task (R193). -/
def Work.bytes (w : Work) : List Byte :=
  [0#8, byte w.number.val, byte w.issue, w.kind.byte, w.state.byte, phaseByte w.phase] ++
    bytesOf 6 ((w.tag.map BitVec.toNat).getD 0) ++ w.first.bytes ++ w.last.bytes ++ destinationBytes w.destination ++
    rangeBytes w.range

/-- The slot field of a task record (R67): 1 and the address of a board, 2 for INFEED, 0 and the aisle and level of a SURVEY, each in
four bytes (log entry 24). -/
def TaskPlace.bytes : TaskPlace → List Byte
  | .board c => 1#8 :: c.bytes
  | .infeed => [2#8, 0#8, 0#8, 0#8]
  | .level a l => [0#8, byte a.val, byte l.val, 0#8]

/-- One task of READ_TASKS: the fields in the order of R67, then lateness and standing score (R93). -/
def TaskLine.bytes (x : TaskLine) : List Byte :=
  [byte x.task.number.val, byte x.task.issue, x.task.kind.byte] ++ optionalBytes handleBytes x.task.wheel ++ x.task.place.bytes ++
    destinationBytes x.task.destination ++ optionalBytes SurveyRange.bytes x.task.range ++
    [phaseByte x.task.phase, x.task.state.byte] ++ minuteBytes x.task.minute ++ bytesOf 4 x.task.sequence ++
    [byte x.task.attempts, byte x.task.rereads] ++ bytesOf 4 x.lateness ++ bytesOf 2 x.standing

/-! ## Records -/

/-- A movement intent, its fields in the order of R121, the retarget mark after the destination. -/
def Intent.bytes (i : Intent) : List Byte :=
  (TaskKind.movement i.kind).byte :: destinationBytes (some i.destination) ++ flagByte i.retargeted ::
    optionalBytes Coord.bytes i.returnSlot ++ [phaseByte (some i.phase), i.status.byte]

/-- A wheel record, its fields in the order of R29. -/
def Wheel.bytes (w : Nat) (x : Wheel) : List Byte :=
  handleBytes w ++ tagBytes x.tag ++ bytesOf 2 x.batch ++ byte x.cls.val :: minuteBytes x.entry ++ x.location.bytes ++
    x.faceUp.byte :: optionalBytes minuteBytes x.lastFlip ++ optionalBytes minuteBytes x.lastBrush ++
    optionalBytes minuteBytes x.flipDue ++ optionalBytes minuteBytes x.brushDue ++ bytesOf 2 x.flipCount ++
    bytesOf 2 x.brushCount ++ holdByte x.hold :: optionalBytes (fun f => [CareFault.byte f]) x.careFault ++
    optionalBytes Intent.bytes x.intent ++ optionalBytes Ending.bytes x.lastOutcome ++ optionalBytes minuteBytes x.lastSeen ++
    [flagByte x.flipMark, flagByte x.brushMark, flagByte x.moveMark]

/-- A discrepancy entry, its fields in the order of R144. -/
def Discrepancy.bytes (d : Discrepancy) : List Byte :=
  d.kind.byte :: minuteBytes d.minute ++ optionalBytes Coord.bytes d.slot ++ optionalBytes handleBytes d.handle ++
    optionalBytes tagBytes d.tag

/-- The last survey record, its items in the order of R143. -/
def SurveyRecord.bytes (r : SurveyRecord) : List Byte :=
  [byte r.task.val, byte r.aisle.val, byte r.level.val, byte r.first.val, byte r.last.val, byte r.applied] ++
    surveyEndingBytes r.ending ++ minuteBytes r.minute

/-- The last fault record (R95). -/
def FaultRecord.bytes (r : FaultRecord) : List Byte :=
  faultKindByte r.kind :: minuteBytes r.minute ++ optionalBytes (fun k => [TaskKind.byte k]) r.task

/-- The items of READ_STATUS, in the order of R192, R53 and R95. -/
def Status.bytes (s : Status) : List Byte :=
  minuteBytes s.minute ++ [flagByte s.clockUnset, flagByte s.passRunning] ++ bytesOf 2 s.cursor ++ bytesOf 2 s.passCount ++
    flagByte s.sweepLate :: bytesOf 4 s.sequence ++ [flagByte s.paused, s.link.byte] ++ optionalBytes Coord.bytes s.position ++
    byte s.faults :: optionalBytes FaultRecord.bytes s.lastFault ++ optionalBytes (fun m => [byte m]) s.homeOrder ++
    optionalBytes (fun x : Fin 64 × Nat × Option Nat => byte x.1.val :: byte x.2.1 :: optionalBytes (fun m => [byte m]) x.2.2)
      s.taskOut ++
    optionalBytes SurveyRecord.bytes s.lastSurvey ++ saveStateByte s.saveInFlight ::
    optionalBytes (fun o => [SaveOutcome.byte o]) s.lastSave ++ [s.source.byte, flagByte s.batteryLow]

/-- One head of READ_HEADS (R161). -/
def HeadReport.bytes (r : HeadReport) : List Byte :=
  optionalBytes (fun z : ZoneNumber => [byte z.val]) r.assignment ++ [r.head.state.byte, byte r.head.misses] ++
    optionalBytes (bytesOf 2) r.head.reading

/-- A zone record, its items in the order of R172. -/
def ZoneReport.bytes (z : ZoneReport) : List Byte :=
  z.humidity.byte :: optionalBytes (bytesOf 2) z.raw ++ optionalBytes (bytesOf 2) z.filtered ++ bytesOf 2 z.holdCount ++
    [z.alarm.byte, byte z.dwell, flagByte z.unacked] ++ z.capture.bytes ++ [byte z.samples, flagByte z.overrun] ++
    z.exclusion.bytes ++ [flagByte z.presence]

/-- A capture sample (R173). -/
def Sample.bytes (x : Sample) : List Byte := minuteBytes x.minute ++ bytesOf 2 x.raw ++ bytesOf 2 x.filtered ++ [byte x.count]

/-! ## Sections -/

/-- The limits of a zone, as a ZONE section carries them (R167). -/
def ZoneLimits.bytes (l : ZoneLimits) : List Byte :=
  bytesOf 2 l.lo ++ bytesOf 2 l.hi ++ [byte l.hy, byte l.dwell] ++ bytesOf 2 l.boost ++ bytesOf 2 l.hold ++ [byte l.shift]

/-- The GEOMETRY section, its quarantine set in two bytes as a request carries it (R1; log entry 26). -/
def Geometry.bytes (g : Geometry) : List Byte :=
  [byte g.aisles, byte g.levels, byte g.positions] ++
    bytesOf 2 ((List.finRange 16).foldl (fun n a => n + if g.quarantine[a] then 2 ^ a.val else 0) 0)

/-- A CARE_CLASS section (R37). -/
def CareClass.bytes (c : CareClass) : List Byte :=
  flagByte c.valid :: bytesOf 2 c.setpoint ++ bytesOf 2 c.d1 ++ bytesOf 2 c.d2 ++ bytesOf 2 c.d3 ++
    c.flipBase.toList.flatMap (bytesOf 2) ++ c.brushBase.toList.flatMap (bytesOf 2) ++ [byte c.kf, byte c.kb, byte c.weight, byte c.merge]

/-- The ROBOT section (R187). -/
def RobotSection.bytes (r : RobotSection) : List Byte :=
  r.infeed.bytes ++ r.outfeed.bytes ++ r.home.bytes ++ r.allowances.toList.map byte ++ [byte r.ca, byte r.cl] ++ bytesOf 2 r.boost

/-- The SENSOR section (R156). -/
def SensorSection.bytes (x : SensorSection) : List Byte :=
  bytesOf 2 x.period ++ x.assignment.toList.flatMap (optionalBytes fun z : ZoneNumber => [byte z.val])

/-- A section as READ_CONFIG answers it, in the fields of its WRITE_CONFIG; a class with its reference count (R41, R187). -/
def SectionBody.bytes : SectionBody → List Byte
  | .geometry g => g.bytes
  | .zoneMap zs => zs.toList.map fun z => byte z.val
  | .careClass c n => c.bytes ++ bytesOf 2 n
  | .robot r => r.bytes
  | .sweep p => [byte p]
  | .sensor x => x.bytes
  | .zone l => l.bytes

/-! ## Bodies and frames -/

/-- The bytes of a response's body, its items in the order in which the rule of the request names them (R181; log entry 24). -/
def Body.bytes : Body → List Byte
  | .empty => []
  | .window a b => [byte a.val, byte b.val]
  | .notices l => countedBytes (fun n => [noticeByte n]) l
  | .mask flags => flags.map fun x => flagByte x.2
  | .level a l n states => [byte a.val, byte l, byte n] ++ states.map SlotState.byte
  | .link l => [l.byte]
  | .work w => w.bytes
  | .homeOrder h => 1#8 :: h.bytes
  | .noWork r => [r.byte]
  | .verifyFailed r => [verifyByte r]
  | .surveyed o n => [o.byte, nextByte n]
  | .heads rs p r => rs.toList.flatMap HeadReport.bytes ++ bytesOf 2 p ++ bytesOf 2 r
  | .limits l => l.bytes
  | .zone z => z.bytes
  | .capture l n m o => countedBytes Sample.bytes l ++ byte n :: m.bytes ++ [flagByte o]
  | .configSection c => c.bytes
  | .status s => s.bytes
  | .wheel w x => x.bytes w
  | .handle w => handleBytes w
  | .hold h => [holdByte h]
  | .booked w c e => handleBytes w ++ c.bytes ++ [flagByte e]
  | .moving w e => handleBytes w ++ [flagByte e]
  | .deleted => [0#8]
  | .removePending e => [1#8, flagByte e]
  | .moveCancelled => [0#8]
  | .moveAborting => [TaskState.aborting.byte]
  | .aborted k w r => k.byte :: optionalBytes handleBytes w ++ [r.byte]
  | .tasks n c m lines => [byte n, byte c, byte m] ++ countedBytes TaskLine.bytes lines
  | .survey n => [byte n.val]
  | .discrepancy d n => d.bytes ++ [byte n]
  | .assigned w r => handleBytes w ++ optionalBytes handleBytes r

/-- The frame of a response: it repeats the kind code of its request (R180, R181). -/
def Response.frame (r : Response) : List Byte := frameBytes (byte r.kindCode) r.reply.result.value r.reply.body.bytes

end Sys2Proof.Machine
end

