-- ==== Sys2Proof/WellFormed.lean ====
section
/-! DEFINITION. Which commands a frame or an event can be: every operand within the bytes that carry it (R181), and each event with the
premises of its row. -/

namespace Sys2Proof

/-- A value that one byte holds. -/
def fitsByte (n : Nat) : Bool := decide (n < 256)

/-- A value that two bytes hold. -/
def fitsWord (n : Nat) : Bool := decide (n < 65536)

/-- A value that four bytes hold. -/
def fitsMinute (n : Nat) : Bool := decide (n ≤ Config.maxMinute)

/-- A frame whose kind has no named values: its result byte is a byte, and no name in it can be unlisted. -/
def Frame.plain (f : Frame) : Bool := fitsByte f.result && f.form != .badName

/-- A frame whose kind has named values. -/
def Frame.named (f : Frame) : Bool := fitsByte f.result

/-- A coordinate in three bytes. -/
def RawCoord.wellFormed (c : RawCoord) : Bool := fitsByte c.aisle && fitsByte c.level && fitsByte c.position

/-- A pair in two bytes. -/
def TaskRef.wellFormed (r : TaskRef) : Bool := fitsByte r.task && fitsByte r.issue

/-- The limits in their bytes (R167, R181). -/
def RawLimits.wellFormed (l : RawLimits) : Bool :=
  fitsWord l.lo && fitsWord l.hi && fitsByte l.hy && fitsByte l.dwell && fitsWord l.boost && fitsWord l.hold && fitsByte l.shift

/-- A class record in its bytes (R37, R181). -/
def RawClass.wellFormed (c : RawClass) : Bool :=
  fitsWord c.setpoint && fitsWord c.d1 && fitsWord c.d2 && fitsWord c.d3 && c.flipBase.toList.all fitsWord &&
    c.brushBase.toList.all fitsWord && fitsByte c.kf && fitsByte c.kb && fitsByte c.weight && fitsByte c.merge

/-- A ROBOT section in its bytes (R181, R187). -/
def RawRobot.wellFormed (r : RawRobot) : Bool :=
  r.infeed.wellFormed && r.outfeed.wellFormed && r.home.wellFormed && r.allowances.toList.all fitsByte && fitsByte r.ca &&
    fitsByte r.cl && fitsWord r.boost

/-- The number in a section's name. -/
def SectionName.wellFormed : SectionName → Bool
  | .zoneMap n | .careClass n | .zone n => fitsByte n
  | .geometry | .robot | .sweep | .sensor => true

/-- A frame that has been collected and fails a test of R180: a length byte below 2, or a whole frame whose check differs. -/
def discardable (lengthByte : Byte) (rest : List Byte) : Bool :=
  if lengthByte.toNat < 2 then rest.isEmpty
  else rest.length == lengthByte.toNat + 2 && !Machine.frameSurvives lengthByte rest

/-- A kind code outside 01h to 2Fh (R183). -/
def unknownCode (n : Nat) : Bool := n == 0 || (decide (0x2F < n) && fitsByte n)

/-- Well-formed commands. -/
def Instr.wellFormed : Instr → Bool
  | .setWindow f a b => f.plain && fitsByte a && fitsByte b
  | .readNotices f => f.plain
  | .setNoticeMask f _ => f.plain
  | .listLevel f l => f.plain && fitsByte l
  | .ready f _ p _ => f.plain && (p.map RawCoord.wellFormed).getD true
  | .take f => f.plain
  | .homed f => f.plain
  | .arrived f r _ => f.plain && r.wellFormed
  | .picked f r => f.plain && r.wellFormed
  | .slotRead f r n _ => f.plain && r.wellFormed && fitsByte n
  | .doneReport f r _ _ => f.plain && r.wellFormed
  | .faultReport f k r => f.named && k != .slotBlocked && (r.map TaskRef.wellFormed).getD true
  | .slotBlocked f r => f.plain && (r.map TaskRef.wellFormed).getD true
  | .readHeads f => f.plain
  | .setZoneLimits f z l => f.plain && fitsByte z && l.wellFormed
  | .ackZone f z => f.plain && fitsByte z
  | .readZone f z => f.plain && fitsByte z
  | .startCapture f z n => f.plain && fitsByte z && fitsWord n
  | .stopCapture f z => f.plain && fitsByte z
  | .readCapture f z n => f.plain && fitsByte z && fitsByte n
  | .endExclusion f z => f.plain && fitsByte z
  | .readConfig f n => f.named && n.wellFormed
  | .requestExclusion f z m => f.plain && fitsByte z && fitsWord m
  | .setSlotFault f l p => f.plain && fitsByte l && fitsByte p
  | .clearSlotFault f l p => f.plain && fitsByte l && fitsByte p
  | .setClock f m => f.plain && fitsMinute m
  | .readStatus f => f.plain
  | .readWheel f h => f.plain && fitsWord h
  | .findWheel f _ => f.plain
  | .setClass f h c => f.plain && fitsWord h && fitsByte c
  | .holdWheel f h _ => f.named && fitsWord h
  | .release f h => f.plain && fitsWord h
  | .clearCareFault f h => f.plain && fitsWord h
  | .bookIn f _ b e c s _ => f.plain && fitsWord b && fitsMinute e && fitsByte c &&
      match s with
      | .explicit l p => fitsByte l && fitsByte p
      | .auto => true
  | .relocate f a b c d => f.plain && fitsByte a && fitsByte b && fitsByte c && fitsByte d
  | .bookOut f h => f.plain && fitsWord h
  | .cancelMove f h => f.plain && fitsWord h
  | .abortTask f t => f.plain && fitsByte t
  | .pauseDispatch f => f.plain
  | .resumeDispatch f => f.plain
  | .readTasks f n => f.plain && fitsByte n
  | .clearRobotHalt f => f.plain
  | .requestSurvey f l a b => f.plain && fitsByte l && fitsByte a && fitsByte b
  | .readDiscrepancy f => f.plain
  | .resolveSlotConfirm f l p => f.named && fitsByte l && fitsByte p
  | .resolveSlotClear f l p => f.named && fitsByte l && fitsByte p
  | .resolveSlotAssign f l p _ => f.named && fitsByte l && fitsByte p
  | .resolveWheelPlaceAt f h l p => f.named && fitsWord h && fitsByte l && fitsByte p
  | .resolveWheelDelete f h => f.named && fitsWord h
  | .writeConfigGeometry f a l p _ => f.named && fitsByte a && fitsByte l && fitsByte p
  | .writeConfigZoneMap f a zs => f.named && fitsByte a && zs.toList.all fitsByte
  | .writeConfigCareClass f n c => f.named && fitsByte n && c.wellFormed
  | .writeConfigRobot f r => f.named && r.wellFormed
  | .writeConfigSweep f p => f.named && fitsByte p
  | .writeConfigSensor f p hs => f.named && fitsWord p && hs.toList.all fun z => (z.map fitsByte).getD true
  | .writeConfigZone f z l => f.named && fitsByte z && l.wellFormed
  | .saveConfig f => f.plain
  | .saveComplete _ => true
  | .frameDiscard _ l rest => discardable l rest
  | .interByteGap _ _ => true
  | .requestBusy _ k => fitsByte k
  | .minuteEvent | .secondEvent | .sweepPeriodBoundary | .sweepVisit | .taskDeadlineExpiry | .homeOrderExpiry => true
  | .exclusionEnding _ => true
  | .loopPassStart | .replyWindowClose | .zoneUpdate | .mainSupplyFail => true
  | .loopReply _ => true
  | .mainSupplyReturn _ => true
  | .resetLine _ => true
  | .batteryThreshold _ => true
  | .responseSent _ => true
  | .unknownKindRequest f k => f.plain && unknownCode k

end Sys2Proof
end

