-- ==== Sys2Proof/Safety.lean ====
section
/-! DEFINITION. The terms the claims use: what a served request leaves alone, how it is answered, which notices are raised, and the
laws every state of the machine keeps. -/

namespace Sys2Proof

/-- The kind and frame of a request of a listed kind; none for an event and for a request of an unknown kind. -/
def Instr.request : Instr → Option (Machine.RequestKind × Frame)
  | .setWindow f _ _ => some (.setWindow, f)
  | .readNotices f => some (.readNotices, f)
  | .setNoticeMask f _ => some (.setNoticeMask, f)
  | .listLevel f _ => some (.listLevel, f)
  | .ready f _ _ _ => some (.ready, f)
  | .take f => some (.take, f)
  | .homed f => some (.homed, f)
  | .arrived f _ _ => some (.arrived, f)
  | .picked f _ => some (.picked, f)
  | .slotRead f _ _ _ => some (.slotRead, f)
  | .doneReport f _ _ _ => some (.done, f)
  | .faultReport f _ _ => some (.fault, f)
  | .slotBlocked f _ => some (.fault, f)
  | .readHeads f => some (.readHeads, f)
  | .setZoneLimits f _ _ => some (.setZoneLimits, f)
  | .ackZone f _ => some (.ackZone, f)
  | .readZone f _ => some (.readZone, f)
  | .startCapture f _ _ => some (.startCapture, f)
  | .stopCapture f _ => some (.stopCapture, f)
  | .readCapture f _ _ => some (.readCapture, f)
  | .endExclusion f _ => some (.endExclusion, f)
  | .readConfig f _ => some (.readConfig, f)
  | .requestExclusion f _ _ => some (.requestExclusion, f)
  | .setSlotFault f _ _ => some (.setSlotFault, f)
  | .clearSlotFault f _ _ => some (.clearSlotFault, f)
  | .setClock f _ => some (.setClock, f)
  | .readStatus f => some (.readStatus, f)
  | .readWheel f _ => some (.readWheel, f)
  | .findWheel f _ => some (.findWheel, f)
  | .setClass f _ _ => some (.setClass, f)
  | .holdWheel f _ _ => some (.hold, f)
  | .release f _ => some (.release, f)
  | .clearCareFault f _ => some (.clearCareFault, f)
  | .bookIn f _ _ _ _ _ _ => some (.bookIn, f)
  | .relocate f _ _ _ _ => some (.relocate, f)
  | .bookOut f _ => some (.bookOut, f)
  | .cancelMove f _ => some (.cancelMove, f)
  | .abortTask f _ => some (.abortTask, f)
  | .pauseDispatch f => some (.pauseDispatch, f)
  | .resumeDispatch f => some (.resumeDispatch, f)
  | .readTasks f _ => some (.readTasks, f)
  | .clearRobotHalt f => some (.clearRobotHalt, f)
  | .requestSurvey f _ _ _ => some (.requestSurvey, f)
  | .readDiscrepancy f => some (.readDiscrepancy, f)
  | .resolveSlotConfirm f _ _ => some (.resolveSlot, f)
  | .resolveSlotClear f _ _ => some (.resolveSlot, f)
  | .resolveSlotAssign f _ _ _ => some (.resolveSlot, f)
  | .resolveWheelPlaceAt f _ _ _ => some (.resolveWheel, f)
  | .resolveWheelDelete f _ => some (.resolveWheel, f)
  | .writeConfigGeometry f _ _ _ _ => some (.writeConfig, f)
  | .writeConfigZoneMap f _ _ => some (.writeConfig, f)
  | .writeConfigCareClass f _ _ => some (.writeConfig, f)
  | .writeConfigRobot f _ => some (.writeConfig, f)
  | .writeConfigSweep f _ => some (.writeConfig, f)
  | .writeConfigSensor f _ _ => some (.writeConfig, f)
  | .writeConfigZone f _ _ => some (.writeConfig, f)
  | .saveConfig f => some (.saveConfig, f)
  | .saveComplete _ | .frameDiscard _ _ _ | .interByteGap _ _ | .requestBusy _ _ | .minuteEvent | .secondEvent
  | .sweepPeriodBoundary | .sweepVisit | .taskDeadlineExpiry | .homeOrderExpiry | .exclusionEnding _ | .loopPassStart
  | .loopReply _ | .replyWindowClose | .zoneUpdate | .mainSupplyFail | .mainSupplyReturn _ | .resetLine _
  | .batteryThreshold _ | .responseSent _ | .unknownKindRequest _ _ => none

/-- The pair by which a report names its task (R98). -/
def Instr.report : Instr → Option TaskRef
  | .arrived _ r _ | .picked _ r | .slotRead _ r _ _ | .doneReport _ r _ _ => some r
  | .faultReport _ _ r | .slotBlocked _ r => r
  | _ => none

namespace Machine

/-! ## Serving -/

/-- A proper request frame on a port: result byte 0 and a body that fits its kind. -/
def proper (p : Port) : Frame := { port := p, result := 0, form := .fits }

/-- A port serves a request command, and neither turns it away with BUSY nor discards it: RUNNING, and either the request has been
accepted before and waits for its grant, or nothing is outstanding and no BUSY stands in the transmitter (R182; log entry 5). An
earlier answer may still stand there. -/
abbrev State.serves (s : State) (p : Port) : Prop :=
  s.supply.state = .running ∧
    ((s.port p).outstanding = some .accepted ∨ ((s.port p).outstanding = none ∧ ∀ x ∈ (s.port p).tx, x.place ≠ .busy))

/-- The bytes a receiver holds after a request's command: none, the receiver hunting behind the frame; of a request accepted before,
those that have come in since. -/
def PortRecord.rxAfter (r : PortRecord) : List Byte :=
  match r.outstanding with
  | some .accepted => r.rx
  | _ => []

/-- A state apart from the Port Unit and the arbiter: both are replaced by their reset values. -/
def State.inside (s : State) : State := { s with ports := State.reset.ports, arbiter := State.reset.arbiter }

/-- A port record apart from its notice set. -/
def PortRecord.sansNotices (r : PortRecord) : PortRecord := { r with notices := [] }

/-- Of the kinds that belong to a port, those in its set afterwards are those there before and those raised. -/
abbrev Raised (s t : State) (raised : List (Port × Notice)) : Prop :=
  ∀ q n, n ∈ portNotices q → (n ∈ (t.port q).notices ↔ n ∈ (s.port q).notices ∨ (q, n) ∈ raised)

/-- A port's record after an answer: the response is last in the transmitter with nothing outstanding, or
waits with its request while an earlier answer stands there (log entry 4). -/
def PortRecord.after (r : PortRecord) (code : Nat) (reply : Reply) : PortRecord :=
  if ∃ x ∈ r.tx, x.place = .answer then { r with rx := r.rxAfter, outstanding := some (.answered code reply) }
  else { r with rx := r.rxAfter, outstanding := none, tx := r.tx ++ [⟨code, reply, .answer⟩] }

/-- Port p has answered a request of a kind code. Beside notices nothing else of the Port Unit has changed. -/
abbrev Answered (s t : State) (p : Port) (code : Nat) (reply : Reply) (raised : List (Port × Notice)) : Prop :=
  (t.port p).sansNotices = ((s.port p).after code reply).sansNotices ∧
    (∀ q, q ≠ p → (t.port q).sansNotices = (s.port q).sansNotices) ∧ Raised s t raised

/-- One grant has gone to port p (R186). -/
abbrev GrantedTo (s t : State) (p : Port) : Prop :=
  t.arbiter = { s.arbiter with
    cycleLast := .port p
    passedOver := if s.sweep.running then min 4 (s.arbiter.passedOver + 1) else s.arbiter.passedOver }

/-- The arbiter after a grant to an internal requester, if it has asked (R186). -/
def State.granted (s : State) (i : InternalRequest) : Arbiter :=
  if i ∈ s.arbiter.asked then
    { s.arbiter with
      asked := s.arbiter.asked.erase i
      passedOver := if s.sweep.running then min 4 (s.arbiter.passedOver + 1) else s.arbiter.passedOver }
  else s.arbiter

/-- A request of a kind was served in one grant on port p and answered. -/
abbrev Served (s t : State) (p : Port) (k : RequestKind) (reply : Reply) (raised : List (Port × Notice)) : Prop :=
  Answered s t p k.code reply raised ∧ GrantedTo s t p

/-- A request was served, refused, and changed nothing. -/
abbrev RefusedWith (s t : State) (p : Port) (k : RequestKind) (c : ResultCode) : Prop :=
  t.inside = s.inside ∧ Served s t p k ⟨c, .empty⟩ []

/-- A request was answered without a grant and changed nothing. -/
abbrev TurnedAway (s t : State) (p : Port) (code : Nat) (c : ResultCode) : Prop :=
  t.inside = s.inside ∧ t.arbiter = s.arbiter ∧ Answered s t p code ⟨c, .empty⟩ []

/-- Beside notices the Port Unit is as it was, and so is the arbiter. -/
abbrev PortsAlone (s t : State) (raised : List (Port × Notice)) : Prop :=
  (∀ q, (t.port q).sansNotices = (s.port q).sansNotices) ∧ Raised s t raised

/-- A request of the management port that names a board: the board lies in the source aisle of the port's window, inside the
configured geometry (R11). -/
abbrev State.reaches (s : State) (c : Coord) : Prop :=
  c.aisle = (s.port .management).window.source ∧ c.level.val < s.config.geometry.levels ∧
    c.position.val < s.config.geometry.positions

/-- A level and position that name no board of the configured geometry (R11). -/
abbrev State.outside (s : State) (level position : Nat) : Prop :=
  s.config.geometry.levels ≤ level ∨ s.config.geometry.positions ≤ position

/-- What the TASK_AVAILABLE test raises in a state (R91). -/
def State.availableNow (s : State) : List (Port × Notice) :=
  if s.link.state = .idle ∧ s.dispatch.paused = false ∧ s.wouldIssue = true then [(.robot, .taskAvailable)] else []

/-- The notice a discrepancy entry raises (R145). -/
def State.recordNotice (s : State) : List (Port × Notice) :=
  if s.discrepancies.length < 32 then [(.management, .discrepancy)] else [(.management, .discrepancyFull)]

/-- The notice of a task that leaves ISSUED or ABORTING by any path: a PENDING exclusion of one of its zones becomes ACTIVE (R178). -/
def State.leaveNotices (s : State) : List (Port × Notice) :=
  if ∃ z : ZoneNumber, (s.zone z).promotes = true then [(.climate, .exclusionGranted)] else []

/-- The notices of a task that leaves ISSUED or ABORTING by ending (R100, R178). -/
def State.endNotices (s : State) (t : TaskRecord) (e : Ending) : List (Port × Notice) :=
  s.leaveNotices ++ (if e.isFailed then [(.management, .taskFailed)] else []) ++ if t.isMovement then [(.management, .moveEnded)] else []

/-- The notices of taking back what is out: those of its ending, ABORTED or at the third attempt FAILED(ATTEMPTS), or those of its
return to QUEUED (R99). -/
def State.takeBackNotices (s : State) : List (Port × Notice) :=
  match s.out with
  | none => []
  | some t =>
    if t.state = .aborting then s.endNotices t .aborted
    else if t.phase = some .carried ∨ t.attempts + 1 < 3 then s.leaveNotices
    else s.endNotices t (.failed .attempts)

/-- A load report names a wheel (R133). -/
def Load.names (l : Load) (v : Nat) : Bool :=
  match l with
  | .wheel w _ => w == v
  | _ => false

/-- The discrepancies that reconciliation records beside those of lost wheels: one for an unknown load, one for a wheel the part holds
in a slot or at the infeed, none for a wheel of unknown location or in the gripper (R135 to R137). -/
def State.loadEntries (s : State) : Load → Nat
  | .none => 0
  | .unknown _ => 1
  | .wheel w _ =>
    match (s.wheel w).map Wheel.location with
    | some (.inSlot _) | some .atInfeed => 1
    | _ => 0

/-- The notices of gripper reconciliation (R133 to R137, R145): DISCREPANCY when an entry found room, DISCREPANCY_FULL when one did
not, MOVE_ENDED when a wheel was lost. -/
def State.reconcileNotices (s : State) (l : Load) : List (Port × Notice) :=
  let lost := s.wheels.countP fun e => e.2.location == .inGripper && !l.names e.1
  let entries := lost + s.loadEntries l
  (if 0 < entries ∧ s.discrepancies.length < 32 then [(.management, .discrepancy)] else []) ++
    (if 0 < entries ∧ 32 < s.discrepancies.length + entries then [(.management, .discrepancyFull)] else []) ++
    if 0 < lost then [(.management, .moveEnded)] else []

/-- A task ends and the link stands in a state with a position register and a fault count (R100 step 6). -/
def State.ended (s : State) (t : TaskRecord) (e : Ending) (l : LinkState) (p : Option Coord) (faults : Nat) : State :=
  { s.endTask t e with link := { (s.endTask t e).link with state := l, position := p, faults := faults } }

/-- The presence mark of a zone cleared, its PENDING exclusion ACTIVE (R178). -/
def Zone.left (z : Zone) : Zone :=
  { z with
    presence := false
    exclusion := match z.exclusion with
      | .pending m => if z.presence then .active m else .pending m
      | x => x }

/-- A wheel's location agrees with its intent (the table of R58). -/
def State.Agrees (s : State) (x : Wheel) (i : Intent) : Prop :=
  (i.phase = .beforePick ∧ i.kind = .place ∧ x.location = .atInfeed) ∨
  (i.phase = .beforePick ∧ (i.kind = .move ∨ i.kind = .remove) ∧ ∃ c v, x.location = .inSlot c ∧ s.slot c = .occupied v) ∨
  (i.phase = .carried ∧ x.location = .inGripper)

/-- A task that the check of R78 withdraws when it is QUEUED. -/
def State.Disagrees (s : State) (t : TaskRecord) : Prop :=
  (t.isCare = true ∧ ¬ ∃ w x c, t.wheel = some w ∧ s.wheel w = some x ∧ t.place = .board c ∧ x.location = .inSlot c ∧
    (∃ v, s.slot c = .occupied v) ∧ x.hold ≠ .inspect ∧ x.careFault = none) ∨
  (t.kind = .brush ∧ ∃ w x c, t.wheel = some w ∧ s.wheel w = some x ∧ t.place = .board c ∧
    ((s.zone (s.zoneOf c)).alarm = .lowAlarm ∨ x.hold = .quarantine)) ∨
  (∃ k, t.kind = .movement k ∧ ¬ ∃ w x i, t.wheel = some w ∧ s.wheel w = some x ∧ x.intent = some i ∧ i.kind = k ∧
    t.phase = some i.phase ∧ s.Agrees x i)

/-- The conditions that a FLIP and a BRUSH offer share, for wheel w, of record x, on board c (R59). -/
def State.CareIsOpen (s : State) (w : Nat) (x : Wheel) (c : Coord) : Prop :=
  s.clock.unset = false ∧ (∃ v, s.slot c = .occupied v) ∧ x.hold ≠ .inspect ∧ x.careFault = none ∧
    ∀ t ∈ s.tasks, t.isMovement = true → t.wheel = some w → t.state = .queued

/-- A due is present and not greater than the clock. -/
def State.IsDue (s : State) (due : Option Nat) : Prop := ∃ m, due = some m ∧ m ≤ s.clock.minute

/-- The merge at issue of a FLIP or a BRUSH of a wheel with record x (R82, R83). -/
def State.Merges (s : State) (t : TaskRecord) (x : Wheel) : Prop :=
  let window := s.clock.minute + s.config.classes[x.cls].merge
  (t.kind = .flip ∧ (∃ m, x.brushDue = some m ∧ m ≤ window) ∧ s.inLowAlarm t = false ∧ x.hold ≠ .quarantine) ∨
  (t.kind = .brush ∧ ∃ m, x.flipDue = some m ∧ m ≤ window)

/-! ## The laws -/

/-- The Table Store's law: canonical tables, the slot map listing no EMPTY entry, handles below 8192, the tag index holding each wheel's
tag and nothing else (R26), every tag valid, at most 32 discrepancies (R144). -/
structure State.StoreLaw (s : State) : Prop where
  slots : s.slots.canonical = true ∧ ∀ e ∈ s.slots, e.2 ≠ .empty
  wheels : s.wheels.canonical = true ∧ ∀ e ∈ s.wheels, e.1 < Config.handles ∧ tagIdValid e.2.tag = true
  tags : s.tags.canonical = true
  index : ∀ k w, s.tags.find k = some w ↔ ∃ x, s.wheel w = some x ∧ x.tag.toNat = k
  discrepancies : s.discrepancies.length ≤ Config.discrepancyRoom

/-- The fields a task holds by its kind (the table of R67). -/
def TaskRecord.Shaped (t : TaskRecord) : Prop :=
  match t.kind with
  | .flip | .brush | .flipBrush =>
    t.wheel.isSome = true ∧ (∃ c, t.place = .board c) ∧ t.destination = none ∧ t.range = none ∧ t.phase = none
  | .movement _ => t.wheel.isSome = true ∧ t.destination.isSome = true ∧ t.range = none ∧ t.phase.isSome = true
  | .survey => t.wheel = none ∧ (∃ a l, t.place = .level a l) ∧ t.destination = none ∧ t.range.isSome = true ∧ t.phase = none

/-- The task list's law: numbers are not shared, every task holds the fields of its kind (R67), the list stands in
enqueue order (R69), the capacities of R62 hold, at most one task is out and exactly when the link is WORKING (R68), and what belongs to that task is absent otherwise (R95, R176). -/
structure State.TaskLaw (s : State) : Prop where
  numbers : (s.tasks.map TaskRecord.number).Nodup
  shapes : ∀ t ∈ s.tasks, t.Shaped
  order : (s.tasks.map TaskRecord.sequence).Pairwise (· < ·) ∧ ∀ t ∈ s.tasks, t.sequence < s.dispatch.sequence
  room : s.tasks.length ≤ Config.listRoom ∧ s.careCount ≤ Config.careRoom ∧ s.nonCareCount ≤ Config.nonCareRoom
  oneOut : s.tasks.countP (fun t => !t.queued) ≤ 1
  working : s.link.state = .working ↔ ∃ t ∈ s.tasks, t.queued = false
  idle : s.link.state ≠ .working →
    s.link.deadline = none ∧ s.link.verified = false ∧ s.link.issuedTag = none ∧ ∀ z : ZoneNumber, (s.zone z).presence = false

/-- A class record in the ranges of R37. -/
structure CareClass.Fits (c : CareClass) : Prop where
  setpoint : 700 ≤ c.setpoint ∧ c.setpoint ≤ 990
  days : 1 ≤ c.d1 ∧ c.d1 < c.d2 ∧ c.d2 < c.d3 ∧ c.d3 ≤ 999
  flips : ∀ b : Fin 4, 30 ≤ c.flipBase[b] ∧ c.flipBase[b] ≤ 43200
  brushes : ∀ b : Fin 4, c.brushBase[b] = 0 ∨ (30 ≤ c.brushBase[b] ∧ c.brushBase[b] ≤ 43200)
  rest : c.kf ≤ 100 ∧ c.kb ≤ 100 ∧ 1 ≤ c.weight ∧ c.weight ≤ 255 ∧ c.merge ≤ 240

/-- The limits of a zone as R167 lets them stand. -/
structure ZoneLimits.Fits (l : ZoneLimits) : Prop where
  limits : l.lo ≤ 1000 ∧ l.hi ≤ 1000 ∧ l.hy ≤ 50 ∧ l.lo + 2 * l.hy ≤ l.hi
  rest : 1 ≤ l.dwell ∧ l.dwell ≤ 30 ∧ l.boost ≤ 4095 ∧ l.hold ≤ 720 ∧ l.shift ≤ 4

/-- A configuration whose every section lies in its ranges (R1, R37, R54, R156, R167, R187). -/
structure Configuration.Fits (c : Configuration) : Prop where
  aisles : 1 ≤ c.geometry.aisles ∧ c.geometry.aisles ≤ 16
  boards : 1 ≤ c.geometry.levels ∧ c.geometry.levels ≤ 12 ∧ 1 ≤ c.geometry.positions ∧ c.geometry.positions ≤ 48
  quarantine : ∀ a : Fin 16, c.geometry.quarantine[a] = true → a.val < c.geometry.aisles
  classes : ∀ n : Fin 16, (c.classes[n]).Fits
  allowances : ∀ k : Fin 8, 1 ≤ c.robot.allowances[k] ∧ c.robot.allowances[k] ≤ 60
  scores : c.robot.ca ≤ 255 ∧ c.robot.cl ≤ 63 ∧ c.robot.boost ≤ 4095
  periods : 1 ≤ c.period ∧ c.period ≤ 60 ∧ 10 ≤ c.sensor.period ∧ c.sensor.period ≤ 600
  zones : ∀ z : ZoneNumber, (c.zones[z]).Fits

/-- The configuration's law: every configuration held lies in its ranges, the retained geometry and profiles are the working ones
(R2, R42), and every wheel holds a valid class (R39). -/
structure State.ConfigLaw (s : State) : Prop where
  working : s.config.Fits
  image : s.memory.image.Fits
  saving : ∀ c, s.memory.saving = some c → c.Fits
  geometry : s.retainedGeometry = s.config.geometry
  profiles : s.retainedProfiles = s.config.classes
  valid : ∀ e ∈ s.wheels, s.config.classes[e.2.cls].valid = true

/-- The fields of an intent by its kind and phase, for a wheel at a location (R121, R129 to R132). -/
def Intent.Fits (i : Intent) (l : Location) : Prop :=
  match i.kind with
  | .place => (∃ d, i.destination = .slot d) ∧ i.returnSlot = none ∧ (i.phase = .beforePick → l = .atInfeed)
  | .park => i.destination = .infeed ∧ i.returnSlot = none ∧ i.phase = .carried
  | .move | .remove =>
    (if i.kind = .move then ∃ d, i.destination = .slot d else i.destination = .outfeed) ∧
      match i.phase with
      | .beforePick => i.returnSlot = none ∧ ∃ c, l = .inSlot c
      | .carried => i.returnSlot ≠ none

/-- The law of the inventory (R6): slots, locations and intents name one another; a wheel is in the gripper exactly while its intent is
CARRIED; marks stand exactly for the tasks in the list (R23), one task for each action; a movement task agrees with its intent
(R122), and a care task names the OCCUPIED board its wheel lies on. -/
structure State.InventoryLaw (s : State) : Prop where
  held : ∀ c w, s.slot c = .occupied w ∨ s.slot c = .suspect (some w) → ∃ x, s.wheel w = some x ∧ x.location = .inSlot c
  bound : ∀ c w, s.slot c = .reserved .destination w → ∃ x i, s.wheel w = some x ∧ x.intent = some i ∧ i.destination = .slot c
  kept : ∀ c w, s.slot c = .reserved .putBack w → ∃ x i, s.wheel w = some x ∧ x.intent = some i ∧ i.returnSlot = some c
  located : ∀ w x c, s.wheel w = some x → x.location = .inSlot c → s.slot c = .occupied w ∨ s.slot c = .suspect (some w)
  intents : ∀ w x i, s.wheel w = some x → x.intent = some i → i.Fits x.location ∧
    (∀ d, i.destination = .slot d →
      s.slot d = .reserved .destination w ∨ (i.returnSlot = some d ∧ s.slot d = .reserved .putBack w)) ∧
    ∀ r, i.returnSlot = some r → s.slot r = .reserved .putBack w
  gripper : ∀ w x, s.wheel w = some x → (x.location = .inGripper ↔ ∃ i, x.intent = some i ∧ i.phase = .carried)
  marks : ∀ w x, s.wheel w = some x →
    (x.flipMark = true ↔ ∃ t ∈ s.tasks, t.wheel = some w ∧ (t.kind = .flip ∨ t.kind = .flipBrush)) ∧
    (x.brushMark = true ↔ ∃ t ∈ s.tasks, t.wheel = some w ∧ (t.kind = .brush ∨ t.kind = .flipBrush)) ∧
    (x.moveMark = true ↔ ∃ t ∈ s.tasks, t.wheel = some w ∧ t.isMovement = true)
  once : ∀ t ∈ s.tasks, ∀ v ∈ s.tasks, t.wheel ≠ none → t.wheel = v.wheel → t.number ≠ v.number →
    (t.kind = .flip ∧ v.kind = .brush) ∨ (t.kind = .brush ∧ v.kind = .flip) ∨
      (t.isCare = true ∧ v.isMovement = true) ∨ (t.isMovement = true ∧ v.isCare = true)
  tasks : ∀ t ∈ s.tasks, ∀ w, t.wheel = some w → ∃ x, s.wheel w = some x ∧
    (t.isMovement = true → ∃ i, x.intent = some i ∧ t.kind = .movement i.kind ∧ t.phase = some i.phase ∧
      t.destination = some i.destination ∧ (i.phase = .beforePick → t.place = i.place x.location) ∧
      ∀ c, x.location = .inSlot c → s.slot c = .occupied w) ∧
    (t.isCare = true → ∃ c, x.location = .inSlot c ∧ t.place = .board c ∧ s.slot c = .occupied w)

/-- The law of quarantine: every wheel whose location, destination or return slot lies in a quarantine aisle carries a QUARANTINE hold
(02 section 2.5). -/
def State.QuarantineLaw (s : State) : Prop :=
  ∀ w x, s.wheel w = some x → s.boundToQuarantine x = true → x.hold = .quarantine

/-- The law of one port: at most one answer and one BUSY in the transmitter (R182), notice set and mask holding kinds of the port,
each at most once (R185). -/
structure PortRecord.Law (r : PortRecord) (p : Port) : Prop where
  answers : r.tx.countP (fun x => x.place == .answer) ≤ 1
  busies : r.tx.countP (fun x => x.place == .busy) ≤ 1
  notices : r.notices.Sublist (portNotices p)
  mask : r.mask.Sublist (portNotices p)

/-- The Port Unit's law. -/
abbrev State.PortLaw (s : State) : Prop := ∀ p, (s.port p).Law p

/-- An exclusion's minutes in their ranges, PENDING only with the presence mark set (R166, R177). -/
abbrev Zone.exclusionFits (z : Zone) : Prop :=
  match z.exclusion with
  | .none => True
  | .pending m => 1 ≤ m ∧ m ≤ 240 ∧ z.presence = true
  | .active m => m ≤ 240

/-- A zone record in the ranges of R162 and R166. -/
structure Zone.Law (z : Zone) : Prop where
  raw : ∀ h, z.raw = some h → h ≤ 1000
  filtered : ∀ h, z.filtered = some h → h ≤ 1000
  hold : z.holdCount ≤ Config.maxHold
  dwell : z.dwell ≤ 30
  ring : z.ring.length ≤ Config.ringRoom
  exclusion : z.exclusionFits

/-- A head record in the ranges of R158. -/
structure Head.Law (h : Head) : Prop where
  misses : h.misses ≤ 3
  reading : ∀ r, h.reading = some r → r ≤ 1000

/-- The law of humidity: zones and heads in their ranges, and what a pass hands on made of readings of at most 1000 (R160). -/
structure State.HumidityLaw (s : State) : Prop where
  zones : ∀ z : ZoneNumber, (s.zone z).Law
  heads : ∀ h : Fin 24, (s.loop.heads[h]).Law
  handed : ∀ p ∈ s.loop.handed, ∀ z : ZoneNumber, (p[z]).sum ≤ 1000 * (p[z]).count

end Machine

end Sys2Proof
end

