-- ==== Sys2Proof/Certificates/Slice0/Obligations.lean ====
section
/-! DEFINITION. What the model is claimed to do, one proposition each. Requests are stated on proper frames (`proper`) and on a port
that can serve them (`State.serves`); `State.inside` is the state apart from the Port Unit and the arbiter, and `Served` says what
a served request makes of those two. -/

open Sys2Proof Sys2Proof.Machine

/-! ## The queue, admission, and what only some commands change -/

/-- A step runs the command at the front of the queue on the state with the queue's rest (model: log entry 1). -/
def Obligations.StepRunsTheFrontCommand : Prop :=
  ∀ (c : Instr) (rest : List Instr) (s : State), step { s with pending := c :: rest } = exec c { s with pending := rest }

/-- Every command answers a next state and leaves the queue alone (model: log entry 1). -/
def Obligations.CommandsCompleteAndKeepTheQueue : Prop :=
  ∀ (c : Instr) (s : State), ∃ t, exec c s = .next t ∧ t.pending = s.pending

/-- (1) R182: a request, of a listed kind or not, accepted while another of its port is outstanding is answered BUSY; one accepted
while a BUSY waits is discarded without an answer; nothing else is disturbed. That a BUSY waits until RESPONSE_SENT, also while it is
being sent and with nothing outstanding, and that a served request whose answer waits for its place is outstanding still, is the
model's reading of R182 (log entry 4). The command REQUEST_BUSY does the same. Where the state holds no outstanding request it tells
of one that is accepted and not yet granted: the port holds that one from then on, and serves its command, whose answer stands behind
the BUSY, which is the model's reading (log entry 5). (2) R180, R181, R183: a request whose result code byte is not 0 is refused with BAD_FIELD before its kind and permission are looked at, and a
permitted one whose body length does not match its kind is refused with BAD_FIELD, READ_CONFIG of a ZONE or the SENSOR section on the
climate port among them; neither changes anything. (3) R183: a request that its port does not permit, or of an unknown kind, is
answered NOT_PERMITTED and changes nothing. That READ_CONFIG of an unlisted section on the climate port is answered so too is the
model's reading (log entry 16). -/
def Obligations.RequestsAreAdmittedInOrder : Prop :=
  let asks (c : Instr) (f : Frame) (code : Nat) : Prop :=
    (∃ k, c.request = some (k, f) ∧ code = k.code) ∨ c = .unknownKindRequest f code
  let turnedAway (c : Instr) (s : State) (p : Port) (code : Nat) (r : ResultCode) : Prop :=
    ∃ t, exec c s = .next t ∧ TurnedAway s t p code r
  let busy (c : Instr) (s : State) (p : Port) (code : Nat) (held : Option Outstanding) : Prop :=
    ∃ t, exec c s = .next t ∧ t.inside = s.inside ∧ t.arbiter = s.arbiter ∧ (∀ q, q ≠ p → t.port q = s.port q) ∧
      t.port p = { s.port p with
        rx := []
        outstanding := held
        tx := (s.port p).tx ++ if ∃ x ∈ (s.port p).tx, x.place = .busy then [] else [⟨code, ⟨.busy, .empty⟩, .busy⟩] }
  ((∀ (c : Instr) (s : State) (f : Frame) (code : Nat), asks c f code → s.supply.state = .running →
     ((s.port f.port).outstanding = some .saving ∨ ∃ k r, (s.port f.port).outstanding = some (.answered k r)) ∨
       ((s.port f.port).outstanding = none ∧ ∃ x ∈ (s.port f.port).tx, x.place = .busy) →
     busy c s f.port code (s.port f.port).outstanding) ∧
   (∀ (s : State) (p : Port) (code : Nat), s.supply.state = .running →
     ((s.port p).outstanding ≠ none → busy (.requestBusy p code) s p code (s.port p).outstanding) ∧
     ((s.port p).outstanding = none → busy (.requestBusy p code) s p code (some .accepted)) ∧
     ((s.port p).outstanding = none ∨ (s.port p).outstanding = some .accepted →
       ∃ t, exec (.requestBusy p code) s = .next t ∧ t.serves p))) ∧
  ((∀ (c : Instr) (s : State) (f : Frame) (code : Nat), asks c f code → s.serves f.port → f.result ≠ 0 →
     turnedAway c s f.port code .badField) ∧
   (∀ (c : Instr) (s : State) (f : Frame) (k : RequestKind), c.request = some (k, f) → s.serves f.port → f.result = 0 →
     f.form = .badLength → k.permitted f.port = true → (f.port = .climate → k ≠ .readConfig) →
     turnedAway c s f.port k.code .badField) ∧
   (∀ (s : State) (name : SectionName), s.serves .climate → (∃ n, name = .zone n) ∨ name = .sensor →
     turnedAway (.readConfig { port := .climate, form := .badLength } name) s .climate RequestKind.readConfig.code .badField)) ∧
  ((∀ (c : Instr) (s : State) (f : Frame) (k : RequestKind), c.request = some (k, f) → s.serves f.port → f.result = 0 →
     k.permitted f.port = false → turnedAway c s f.port k.code .notPermitted) ∧
   (∀ (s : State) (form : BodyForm) (name : SectionName), s.serves .climate →
     ((∀ n, name ≠ .zone n) ∧ name ≠ .sensor) ∨ form = .badName →
     turnedAway (.readConfig { port := .climate, form := form } name) s .climate RequestKind.readConfig.code .notPermitted) ∧
   (∀ (s : State) (f : Frame) (code : Nat), s.serves f.port → f.result = 0 →
     turnedAway (.unknownKindRequest f code) s f.port code .notPermitted))

/-- (1) R14, R15, R182, R190: in RETENTION nothing changes but by a minute event, the battery and the return of main supply; a
minute event moves the clock alone. (2) R157, R182, R186, R188, R190: entry to retention stops the ports, the loop pass, a save in
flight and the requesters, and holds the Table Store; the battery threshold clears the retention-intact flag in retention only, and
battery low follows the battery. That a battery already low at the entry clears the flag is the model's reading (log entry 22). -/
def Obligations.RetentionHoldsStill : Prop :=
  (∀ (c : Instr) (s : State), s.supply.state = .retention →
     (c ≠ .minuteEvent → (∀ b, c ≠ .batteryThreshold b) → (∀ i, c ≠ .mainSupplyReturn i) → exec c s = .next s) ∧
     exec .minuteEvent s = .next { s with clock := { s.clock with minute := min Config.maxMinute (s.clock.minute + 1) } }) ∧
  (∀ s : State,
     let stop (r : PortRecord) : PortRecord := { r with rx := [], outstanding := none, tx := [] }
     (s.supply.state = .running → exec .mainSupplyFail s = .next { s with
       supply := ⟨.retention, s.supply.intact && !s.supply.batteryLow, s.supply.batteryLow⟩
       loop := { s.loop with pass := none, handed := [] }
       memory := { s.memory with saving := none }
       ports := ⟨stop s.ports.management, stop s.ports.robot, stop s.ports.climate⟩
       arbiter := { s.arbiter with asked := [] } }) ∧
     ∀ below, exec (.batteryThreshold below) s = .next { s with supply :=
       ⟨s.supply.state, s.supply.intact && !(below && s.supply.state == .retention), below⟩ })

/-- The clock is changed by minute events, SET_CLOCK and a start; the store of the Configuration Memory by saves, supply changes and
starts; the working configuration by WRITE_CONFIG, SET_ZONE_LIMITS and starts (R15, R16, R187 to R191). -/
def Obligations.OnlyTheirCommandsChangeClockAndConfiguration : Prop :=
  ∀ (c : Instr) (s t : State), exec c s = .next t → (∀ i, c ≠ .mainSupplyReturn i) →
    ((∀ f m, c ≠ .setClock f m) → c ≠ .minuteEvent → t.clock = s.clock) ∧
    ((∀ f, c ≠ .saveConfig f) → (∀ b, c ≠ .saveComplete b) → c ≠ .mainSupplyFail → (∀ i, c ≠ .resetLine i) →
      t.memory = s.memory) ∧
    ((∀ f, c.request ≠ some (.writeConfig, f)) → (∀ f, c.request ≠ some (.setZoneLimits, f)) → (∀ i, c ≠ .resetLine i) →
      t.config = s.config)

/-- R186, of `State.nextGrant`: the next grant: a sweep visit passed over four times, else the internal requester that asked first, else
the first that waits in the cycle management, robot, climate, sweep after the one granted last; none when none waits. `step` does not
ask `State.nextGrant`: the order of the queue stands for the order of the grants (model: log entry 1). Of internal requesters that ask
together, which R186 lets be granted in either order, the model queues the asks in an order of its own (log entry 20). -/
def Obligations.ArbiterGrantsByTheRule : Prop :=
  ∀ (s : State) (ports : List Port),
    let turn : List Requester := [.port .management, .port .robot, .port .climate, .sweep]
    let waits (r : Requester) : Prop := (∃ p ∈ ports, r = .port p) ∨ (r = .sweep ∧ s.sweep.running = true)
    let place (r : Requester) : Nat := turn.idxOf r
    let last : Nat := match s.arbiter.cycleLast with
      | .port p => place (.port p)
      | .sweep => place .sweep
    let distance (r : Requester) : Nat := (place r + 3 - last) % 4
    (s.sweep.running = true → 4 ≤ s.arbiter.passedOver → s.nextGrant ports = some .sweep) ∧
    (s.sweep.running = false ∨ s.arbiter.passedOver < 4 →
      (∀ i rest, s.arbiter.asked = i :: rest → s.nextGrant ports = some (.internal i)) ∧
      (s.arbiter.asked = [] →
        (∀ r ∈ turn, waits r → (∀ q ∈ turn, waits q → distance r ≤ distance q) → s.nextGrant ports = some r) ∧
        ((∀ r ∈ turn, ¬ waits r) → s.nextGrant ports = none)))

/-! ## Ports -/

/-- (1) R180, R182: a frame that fails its tests leaves its receiver hunting and is not answered; a gap drops the frame and resumes
with the byte after it; a response that has left its transmitter frees its place, which an answer that waits for one takes (model:
log entry 4). (2) R180: a frame the part makes of a kind code, a result code and a body of at most 253 bytes starts with the sync
byte and a length byte that counts all three, survives the tests, and carries them whole. -/
def Obligations.FramesAndResponsesLeaveTheirPlaces : Prop :=
  (∀ (s : State) (p : Port), s.supply.state = .running →
    (∀ (l : Byte) (rest : List Byte), frameSurvives l rest = false →
      exec (.frameDiscard p l rest) s = .next (s.setPort p { s.port p with rx := [] })) ∧
    (∀ b : Byte, exec (.interByteGap p b) s =
      .next (s.setPort p { s.port p with rx := if b = 0xA9#8 then [b] else [] })) ∧
    ((∀ code r, (s.port p).outstanding ≠ some (.answered code r)) →
      exec (.responseSent p) s = .next (s.setPort p { s.port p with tx := (s.port p).tx.tail })) ∧
    (∀ (code : Nat) (r : Reply), (s.port p).outstanding = some (.answered code r) →
      (∀ x ∈ (s.port p).tx.tail, x.place ≠ .answer) →
      exec (.responseSent p) s = .next (s.setPort p { s.port p with
        outstanding := none, tx := (s.port p).tx.tail ++ [⟨code, r, .answer⟩] }))) ∧
  ∀ (kind result : Byte) (body : List Byte), body.length ≤ 253 →
    ∃ (l : Byte) (rest : List Byte), frameBytes kind result body = 0xA9#8 :: l :: rest ∧ l.toNat = body.length + 2 ∧
      frameSurvives l rest = true ∧ rest.take l.toNat = kind :: result :: body

/-- R12: SET_WINDOW replaces both halves of the port's own window, or is refused with BAD_FIELD. -/
def Obligations.SetWindowReplacesBothHalves : Prop :=
  ∀ (s : State) (p : Port), s.serves p →
    (∀ a b : Fin 16, a.val < s.config.geometry.aisles → b.val < s.config.geometry.aisles →
      ∃ t, exec (.setWindow (proper p) a b) s = .next t ∧ t.inside = s.inside ∧
        Served (s.setPort p { s.port p with window := ⟨a, b⟩ }) t p .setWindow ⟨.ok, .window a b⟩ []) ∧
    (∀ a b : Nat, s.config.geometry.aisles ≤ a ∨ s.config.geometry.aisles ≤ b →
      ∃ t, exec (.setWindow (proper p) a b) s = .next t ∧ RefusedWith s t p .setWindow .badField)

/-- (1) R185: READ_NOTICES answers the whole set and empties it, and leaves every other port's set. (2) R185: SET_NOTICE_MASK with
one flag for each kind of the port enables exactly the kinds flagged, and answers the mask. (3) R185: a list of flags that carries a
kind of another port is refused with BAD_FIELD, and the attention line is asserted exactly when the part runs and the notice set
holds a kind the mask enables. -/
def Obligations.NoticesAreRaisedReadAndMasked : Prop :=
  (∀ (s : State) (p : Port), s.serves p →
     ∃ t, exec (.readNotices (proper p)) s = .next t ∧ t.inside = s.inside ∧ (t.port p).notices = [] ∧
       Served (s.setPort p { s.port p with notices := [] }) t p .readNotices ⟨.ok, .notices (s.port p).notices⟩ []) ∧
  (∀ (s : State) (p : Port) (enable : Notice → Bool), s.serves p →
     ∃ t, exec (.setNoticeMask (proper p) ((portNotices p).map fun n => (n, enable n))) s = .next t ∧ t.inside = s.inside ∧
       Served (s.setPort p { s.port p with mask := (portNotices p).filter enable }) t p .setNoticeMask
         ⟨.ok, .mask ((portNotices p).map fun n => (n, enable n))⟩ []) ∧
  ((∀ (s : State) (p : Port) (flags : List (Notice × Bool)), s.serves p → (∃ e ∈ flags, e.1 ∉ portNotices p) →
     ∃ t, exec (.setNoticeMask (proper p) flags) s = .next t ∧ RefusedWith s t p .setNoticeMask .badField) ∧
   (∀ (s : State) (p : Port), s.attention p = true ↔
     s.supply.state = .running ∧ ∃ n ∈ (s.port p).notices, n ∈ (s.port p).mask))

/-! ## Reads, boards, clock, geometry -/

/-- (1) R13: LIST_LEVEL answers the states of the existing positions of one level of the requesting port's source aisle, in
ascending order, and changes nothing. (2) R29, R192: READ_WHEEL answers the whole record and READ_STATUS the status items; neither
changes anything. A handle above 8191 is BAD_FIELD and a free one NOT_FOUND. (3) R93: READ_TASKS answers the counts and up to four
records in enqueue order with lateness and standing score, and changes nothing; a start index above 63 is BAD_FIELD. (4) R41, R161,
R172, R183, R187: READ_HEADS, READ_ZONE and READ_CONFIG answer what stands and change nothing; a zone, class or aisle that does not
exist is BAD_FIELD. The seconds to the next pass are 0 while a start is due (model: log entry 8). -/
def Obligations.ReadsChangeNothing : Prop :=
  (∀ (s : State) (p : Port), p ≠ .climate → s.serves p →
     (∀ level : Fin 12, level.val < s.config.geometry.levels → s.config.geometry.positions ≤ 48 →
       ∃ t states, exec (.listLevel (proper p) level) s = .next t ∧ t.inside = s.inside ∧
         Served s t p .listLevel ⟨.ok, .level (s.port p).window.source level s.config.geometry.positions states⟩ [] ∧
         states.length = s.config.geometry.positions ∧
         ∀ n : Fin 48, n.val < s.config.geometry.positions →
           states[n.val]? = some (s.slot ⟨(s.port p).window.source, level, n⟩).name) ∧
     (∀ level : Nat, s.config.geometry.levels ≤ level →
       ∃ t, exec (.listLevel (proper p) level) s = .next t ∧ RefusedWith s t p .listLevel .badField)) ∧
  (∀ s : State, s.serves .management →
     (∃ t, exec (.readStatus (proper .management)) s = .next t ∧ t.inside = s.inside ∧
       Served s t .management .readStatus ⟨.ok, .status
         { minute := s.clock.minute, clockUnset := s.clock.unset, passRunning := s.sweep.running, cursor := s.sweep.cursor
           passCount := s.sweep.passCount, sweepLate := s.sweep.late, sequence := s.dispatch.sequence, paused := s.dispatch.paused
           link := s.link.state, position := s.link.position, faults := s.link.faults, lastFault := s.link.lastFault
           homeOrder := s.link.homeOrder, taskOut := s.out.map fun x => (x.number, x.issue, s.link.deadline)
           lastSurvey := s.lastSurvey, saveInFlight := s.memory.saving.isSome, lastSave := s.memory.lastSave
           source := s.memory.source, batteryLow := s.supply.batteryLow }⟩ []) ∧
     (∀ (w : Nat) (x : Wheel), w < Config.handles → s.wheel w = some x →
       ∃ t, exec (.readWheel (proper .management) w) s = .next t ∧ t.inside = s.inside ∧
         Served s t .management .readWheel ⟨.ok, .wheel w x⟩ []) ∧
     (∀ w : Nat, w < Config.handles → s.wheel w = none →
       ∃ t, exec (.readWheel (proper .management) w) s = .next t ∧ RefusedWith s t .management .readWheel .notFound) ∧
     (∀ w : Nat, Config.handles ≤ w →
       ∃ t, exec (.readWheel (proper .management) w) s = .next t ∧ RefusedWith s t .management .readWheel .badField)) ∧
  (∀ s : State, s.serves .management → s.TaskLaw →
     (∀ n < 64, ∃ t lines, exec (.readTasks (proper .management) n) s = .next t ∧ t.inside = s.inside ∧
       Served s t .management .readTasks
         ⟨.ok, .tasks s.tasks.length (s.tasks.countP TaskRecord.isCare) (s.tasks.countP fun v => !v.isCare) lines⟩ [] ∧
       lines.map TaskLine.task = (s.tasks.drop n).take 4 ∧
       (lines.map fun l => l.task.sequence).Pairwise (· < ·) ∧
       ∀ l ∈ lines, l.lateness = s.clock.minute - l.task.minute ∧ l.standing = s.standing l.task) ∧
     (∀ n, 64 ≤ n → ∃ t, exec (.readTasks (proper .management) n) s = .next t ∧
       RefusedWith s t .management .readTasks .badField)) ∧
  (∀ (s : State) (p : Port), p ≠ .robot → s.serves p →
     let answers (c : Instr) (k : RequestKind) (b : Body) : Prop :=
       ∃ t, exec c s = .next t ∧ t.inside = s.inside ∧ Served s t p k ⟨.ok, b⟩ []
     let refuses (c : Instr) (k : RequestKind) : Prop := ∃ t, exec c s = .next t ∧ RefusedWith s t p k .badField
     let reads (n : SectionName) (b : SectionBody) : Prop := answers (.readConfig (proper p) n) .readConfig (.configSection b)
     answers (.readHeads (proper p)) .readHeads
       (.heads (Vector.ofFn fun h : Fin 24 => ⟨s.config.sensor.assignment[h], s.loop.heads[h]⟩) s.config.sensor.period
         (if s.loop.startsDue = 0 then s.config.sensor.period - s.loop.timer else 0)) ∧
     (∀ z : ZoneNumber, answers (.readZone (proper p) z) .readZone (.zone
       { humidity := (s.zone z).humidity, raw := (s.zone z).raw, filtered := (s.zone z).filtered
         holdCount := (s.zone z).holdCount, alarm := (s.zone z).alarm, dwell := (s.zone z).dwell
         unacked := (s.zone z).unacked, capture := (s.zone z).capture, samples := (s.zone z).ring.length
         overrun := (s.zone z).overrun, exclusion := (s.zone z).exclusion, presence := (s.zone z).presence })) ∧
     (∀ n : Nat, 8 ≤ n → refuses (.readZone (proper p) n) .readZone) ∧
     reads .sensor (.sensor s.config.sensor) ∧
     (∀ z : ZoneNumber, reads (.zone z) (.zone s.config.zones[z])) ∧
     (∀ n : Nat, 8 ≤ n → refuses (.readConfig (proper p) (.zone n)) .readConfig) ∧
     (p = .management →
       reads .geometry (.geometry s.config.geometry) ∧ reads .robot (.robot s.config.robot) ∧ reads .sweep (.sweep s.config.period) ∧
       (∀ a : Fin 16, reads (.zoneMap a) (.zoneMap s.config.zoneMap[a])) ∧
       (∀ n : Fin 16, reads (.careClass n) (.careClass s.config.classes[n] (s.wheels.countP fun e => e.2.cls == n))) ∧
       (∀ n : Nat, 16 ≤ n → refuses (.readConfig (proper p) (.zoneMap n)) .readConfig ∧
         refuses (.readConfig (proper p) (.careClass n)) .readConfig) ∧
       ∀ n, refuses (.readConfig { port := p, form := .badName } n) .readConfig))

/-- R8, R9: SET_SLOT_FAULT makes an EMPTY board FAULTED and CLEAR_SLOT_FAULT a FAULTED board EMPTY; in any other state they are
refused with STATE, and outside the geometry with BAD_FIELD. -/
def Obligations.SlotFaultsAreSetAndCleared : Prop :=
  ∀ s : State, s.serves .management →
    (∀ c : Coord, s.reaches c →
      (s.slot c = .empty → ∃ t, exec (.setSlotFault (proper .management) c.level c.position) s = .next t ∧
        t.inside = (s.setSlot c .faulted).inside ∧ Served s t .management .setSlotFault ⟨.ok, .empty⟩ []) ∧
      (s.slot c ≠ .empty → ∃ t, exec (.setSlotFault (proper .management) c.level c.position) s = .next t ∧
        RefusedWith s t .management .setSlotFault .state) ∧
      (s.slot c = .faulted → ∃ t, exec (.clearSlotFault (proper .management) c.level c.position) s = .next t ∧
        t.inside = (s.setSlot c .empty).inside ∧ Served s t .management .clearSlotFault ⟨.ok, .empty⟩ []) ∧
      (s.slot c ≠ .faulted → ∃ t, exec (.clearSlotFault (proper .management) c.level c.position) s = .next t ∧
        RefusedWith s t .management .clearSlotFault .state)) ∧
    (∀ level position : Nat, s.outside level position →
      (∃ t, exec (.setSlotFault (proper .management) level position) s = .next t ∧
        RefusedWith s t .management .setSlotFault .badField) ∧
      (∃ t, exec (.clearSlotFault (proper .management) level position) s = .next t ∧
        RefusedWith s t .management .clearSlotFault .badField))

/-- (1) R14, R15, R54, R117, R157, R162, R179: what the two events of the time base count while RUNNING. A period that ends is left
to its own command (model: log entry 8). (2) R16: SET_CLOCK sets the clock, clears CLOCK_UNSET and changes no record, task or
counter. -/
def Obligations.TimeBaseAndClock : Prop :=
  (∀ s : State, s.supply.state = .running →
     (∃ t, exec .minuteEvent s = .next t ∧ t.ports = s.ports ∧
       t.inside = { s.inside with
         clock := { s.clock with minute := min Config.maxMinute (s.clock.minute + 1) }
         link := { s.link with
           deadline := s.link.deadline.map (· - 1), homeOrder := s.link.homeOrder.map (· - 1) }
         zones := s.zones.map fun z => { z with
           holdCount := min 720 (z.holdCount + 1)
           exclusion := match z.exclusion with
             | .active n => .active (n - 1)
             | e => e }
         sweep := if s.config.period ≤ s.sweep.timer + 1 then
             { s.sweep with timer := 0, boundaries := s.sweep.boundaries + 1 }
           else { s.sweep with timer := s.sweep.timer + 1 } } ∧
       t.arbiter = { s.arbiter with asked := s.arbiter.asked ++
         ((if s.link.deadline = some 1 then [.taskDeadline] else []) ++
           (if s.link.homeOrder = some 1 then [.homeDeadline] else []) ++
           ((List.finRange 8).filter fun z => (s.zone z).exclusion == .active 1).map .exclusionEnd) }) ∧
     exec .secondEvent s = .next { s with loop :=
       if s.config.sensor.period ≤ s.loop.timer + 1 then { s.loop with timer := 0, startsDue := s.loop.startsDue + 1 }
       else { s.loop with timer := s.loop.timer + 1 } }) ∧
  (∀ (s : State) (m : Nat), s.serves .management → m ≤ Config.maxMinute →
     ∃ t, exec (.setClock (proper .management) m) s = .next t ∧ t.inside = { s.inside with clock := ⟨m, false⟩ } ∧
       Served s t .management .setClock ⟨.ok, .empty⟩ [])

/-- (1) R1: a GEOMETRY write judged in its order: BAD_FIELD, then STATE while a wheel or task exists, then taken whole: every slot
EMPTY, the retained geometry written, window aisles that no longer exist set to 0. (2) R4, R87: a ZONE_MAP write replaces one
aisle's twelve zones, or changes nothing; the QUEUED BRUSHes it moves into a zone in LOW_ALARM are withdrawn, and the TASK_AVAILABLE
test runs (R91). -/
def Obligations.HallSectionsAreWritten : Prop :=
  (∀ (s : State) (a l n : Nat) (q : Vector Bool 16), s.serves .management →
     let inRange := 1 ≤ a ∧ a ≤ 16 ∧ 1 ≤ l ∧ l ≤ 12 ∧ 1 ≤ n ∧ n ≤ 48 ∧ ∀ i : Fin 16, q[i] = true → i.val < a
     let g : Geometry := ⟨a, l, n, q⟩
     let fit (r : PortRecord) : PortRecord := { r with window :=
       ⟨if r.window.source.val < a then r.window.source else 0, if r.window.destination.val < a then r.window.destination else 0⟩ }
     let c := Instr.writeConfigGeometry (proper .management) a l n q
     (¬ inRange → ∃ t, exec c s = .next t ∧ RefusedWith s t .management .writeConfig .badField) ∧
     (inRange → s.wheels ≠ [] ∨ s.tasks ≠ [] → ∃ t, exec c s = .next t ∧ RefusedWith s t .management .writeConfig .state) ∧
     (inRange → s.wheels = [] → s.tasks = [] → ∃ t, exec c s = .next t ∧
       t.inside = { s.inside with config := { s.config with geometry := g }, retainedGeometry := g, slots := [] } ∧
       Served { s with ports := ⟨fit s.ports.management, fit s.ports.robot, fit s.ports.climate⟩ } t .management .writeConfig
         ⟨.ok, .empty⟩ [])) ∧
  (∀ s : State, s.serves .management →
     (∀ (aisle : Fin 16) (zones : Vector ZoneNumber 12),
       let v : State := { s with config := { s.config with zoneMap := s.config.zoneMap.set aisle zones } }
       let u := v.withdrawWhere fun t => t.kind == .brush && v.inLowAlarm t
       ∃ t, exec (.writeConfigZoneMap (proper .management) aisle (zones.map Fin.val)) s = .next t ∧ t.inside = u.inside ∧
         Served s t .management .writeConfig ⟨.ok, .empty⟩ u.availableNow) ∧
     (∀ (aisle : Nat) (zones : Vector Nat 12), 16 ≤ aisle ∨ (∃ i : Fin 12, 8 ≤ zones[i]) →
       ∃ t, exec (.writeConfigZoneMap (proper .management) aisle zones) s = .next t ∧
         RefusedWith s t .management .writeConfig .badField))

/-! ## Wheel records and care classes -/

/-- R28: FIND_WHEEL answers the handle the tag index holds, or NOT_FOUND; NOT_FOUND for the two invalid IDs, in a state whose index
keeps the law of R26; NOT_PERMITTED on the other ports. -/
def Obligations.FindWheelLooksTheTagUp : Prop :=
  (∀ (s : State) (tag : TagId), s.serves .management →
    (∀ w, s.tags.find tag.toNat = some w → ∃ t, exec (.findWheel (proper .management) tag) s = .next t ∧
      t.inside = s.inside ∧ Served s t .management .findWheel ⟨.ok, .handle w⟩ []) ∧
    (s.tags.find tag.toNat = none → ∃ t, exec (.findWheel (proper .management) tag) s = .next t ∧
      RefusedWith s t .management .findWheel .notFound) ∧
    (s.StoreLaw → tag = 0#48 ∨ tag = BitVec.allOnes 48 → ∃ t, exec (.findWheel (proper .management) tag) s = .next t ∧
      RefusedWith s t .management .findWheel .notFound)) ∧
  (∀ (s : State) (p : Port) (tag : TagId), p ≠ .management → s.serves p →
    ∃ t, exec (.findWheel (proper p) tag) s = .next t ∧ TurnedAway s t p RequestKind.findWheel.code .notPermitted)

/-- (1) R30: SET_CLASS replaces the class by a valid one, whatever else the record holds; a class above 15 or not valid is
BAD_FIELD. (2) R32: HOLD INSPECT withdraws the wheel's QUEUED care tasks, HOLD QUARANTINE its QUEUED BRUSH; INSPECT is refused with
STATE where it would take QUARANTINE from a wheel in or bound for a quarantine aisle, and any other kind with BAD_FIELD. (3) R33,
R35: RELEASE sets the hold to NONE unless the wheel lies in or is bound for a quarantine aisle; CLEAR_CARE_FAULT removes a fault and
is refused with STATE without one. (4) 02 section 2.4: each of the four is refused with BAD_FIELD for a handle above 8191 and with
NOT_FOUND for a free one. -/
def Obligations.WheelSettingsAreJudged : Prop :=
  (∀ (s : State) (w : Nat) (x : Wheel), s.serves .management → w < Config.handles → s.wheel w = some x →
     (∀ n : Fin 16, (s.config.classes[n]).valid = true → ∃ t, exec (.setClass (proper .management) w n) s = .next t ∧
       t.inside = (s.changeWheel w fun y => { y with cls := n }).inside ∧
       Served s t .management .setClass ⟨.ok, .empty⟩ []) ∧
     (∀ n : Fin 16, (s.config.classes[n]).valid = false → ∃ t, exec (.setClass (proper .management) w n) s = .next t ∧
       RefusedWith s t .management .setClass .badField) ∧
     (∀ n : Nat, 16 ≤ n → ∃ t, exec (.setClass (proper .management) w n) s = .next t ∧
       RefusedWith s t .management .setClass .badField)) ∧
  (∀ (s : State) (w : Nat) (x : Wheel), s.serves .management → w < Config.handles → s.wheel w = some x →
     (x.hold = .quarantine → s.boundToQuarantine x = true →
       ∃ t, exec (.holdWheel (proper .management) w .inspect) s = .next t ∧ RefusedWith s t .management .hold .state) ∧
     (x.hold ≠ .quarantine ∨ s.boundToQuarantine x = false →
       ∃ t, exec (.holdWheel (proper .management) w .inspect) s = .next t ∧
         t.inside = (State.withdrawWhere (s.changeWheel w fun y => { y with hold := .inspect })
           fun v => v.isCare && v.wheel == some w).inside ∧
         Served s t .management .hold ⟨.ok, .hold .inspect⟩ []) ∧
     (∃ t, exec (.holdWheel (proper .management) w .quarantine) s = .next t ∧
       t.inside = (State.withdrawWhere (s.changeWheel w fun y => { y with hold := .quarantine })
         fun v => v.kind == .brush && v.wheel == some w).inside ∧
       Served s t .management .hold ⟨.ok, .hold .quarantine⟩ []) ∧
     (∃ t, exec (.holdWheel (proper .management) w .none) s = .next t ∧ RefusedWith s t .management .hold .badField) ∧
     (∀ k, ∃ t, exec (.holdWheel { port := .management, form := .badName } w k) s = .next t ∧
       RefusedWith s t .management .hold .badField)) ∧
  (∀ (s : State) (w : Nat) (x : Wheel), s.serves .management → w < Config.handles → s.wheel w = some x →
     (s.boundToQuarantine x = true → ∃ t, exec (.release (proper .management) w) s = .next t ∧
       RefusedWith s t .management .release .state) ∧
     (s.boundToQuarantine x = false → ∃ t, exec (.release (proper .management) w) s = .next t ∧
       t.inside = (s.changeWheel w fun y => { y with hold := .none }).inside ∧
       Served s t .management .release ⟨.ok, .empty⟩ []) ∧
     (x.careFault = none → ∃ t, exec (.clearCareFault (proper .management) w) s = .next t ∧
       RefusedWith s t .management .clearCareFault .state) ∧
     (x.careFault ≠ none → ∃ t, exec (.clearCareFault (proper .management) w) s = .next t ∧
       t.inside = (s.changeWheel w fun y => { y with careFault := none }).inside ∧
       Served s t .management .clearCareFault ⟨.ok, .empty⟩ [])) ∧
  (∀ (s : State) (w n : Nat) (k : Hold), s.serves .management →
     let refused (c : ResultCode) : Prop :=
       (∃ t, exec (.setClass (proper .management) w n) s = .next t ∧ RefusedWith s t .management .setClass c) ∧
       (∃ t, exec (.holdWheel (proper .management) w k) s = .next t ∧ RefusedWith s t .management .hold c) ∧
       (∃ t, exec (.release (proper .management) w) s = .next t ∧ RefusedWith s t .management .release c) ∧
       (∃ t, exec (.clearCareFault (proper .management) w) s = .next t ∧ RefusedWith s t .management .clearCareFault c)
     (8192 ≤ w → refused .badField) ∧ (w < 8192 → s.wheel w = none → refused .notFound))

/-- R38, R42: a CARE_CLASS write judged in its order: BAD_FIELD, then STATE when it would make a referenced class invalid, then
taken whole with the retained copy. -/
def Obligations.CareClassWriteIsTakenWhole : Prop :=
  ∀ (s : State) (f : RawClass), s.serves .management →
    let inRange := (700 ≤ f.setpoint ∧ f.setpoint ≤ 990) ∧ (1 ≤ f.d1 ∧ f.d1 < f.d2 ∧ f.d2 < f.d3 ∧ f.d3 ≤ 999) ∧
      (∀ b : Fin 4, 30 ≤ f.flipBase[b] ∧ f.flipBase[b] ≤ 43200) ∧
      (∀ b : Fin 4, f.brushBase[b] = 0 ∨ (30 ≤ f.brushBase[b] ∧ f.brushBase[b] ≤ 43200)) ∧
      f.kf ≤ 100 ∧ f.kb ≤ 100 ∧ (1 ≤ f.weight ∧ f.weight ≤ 255) ∧ f.merge ≤ 240
    (∀ n : Nat, 16 ≤ n ∨ ¬ inRange → ∃ t, exec (.writeConfigCareClass (proper .management) n f) s = .next t ∧
      RefusedWith s t .management .writeConfig .badField) ∧
    (∀ n : Fin 16, inRange → f.valid = false → (∃ e ∈ s.wheels, e.2.cls = n) →
      ∃ t, exec (.writeConfigCareClass (proper .management) n f) s = .next t ∧
        RefusedWith s t .management .writeConfig .state) ∧
    (∀ n : Fin 16, inRange → f.valid = true ∨ (∀ e ∈ s.wheels, e.2.cls ≠ n) →
      let c : CareClass :=
        ⟨f.valid, f.setpoint, f.d1, f.d2, f.d3, f.flipBase, f.brushBase, f.kf, f.kb, f.weight, f.merge⟩
      ∃ t, exec (.writeConfigCareClass (proper .management) n f) s = .next t ∧
        t.inside = { s.inside with
          config := { s.config with classes := s.config.classes.set n c }, retainedProfiles := s.retainedProfiles.set n c } ∧
        Served s t .management .writeConfig ⟨.ok, .empty⟩ [])

/-- R43 to R49: the due times of a wheel on a board, written out; a wheel elsewhere keeps the dues it has, and nothing else changes.
-/
def Obligations.DuesFollowTheProfile : Prop :=
  ∀ (s : State) (w : Nat) (x : Wheel), s.wheel w = some x →
    (∀ c : Coord, x.location = .inSlot c →
      let k := s.config.classes[x.cls]
      let age := (s.clock.minute - x.entry) / 1440
      let band : Fin 4 := if age < k.d1 then 0 else if age < k.d2 then 1 else if age < k.d3 then 2 else 3
      let z := s.zone (s.zoneOf c)
      let hz : Nat := match z.humidity with
        | .live | .holding => z.filtered.getD k.setpoint
        | .unseen | .lost => k.setpoint
      let interval (base sensitivity : Nat) : Nat :=
        let adj := Int.tdiv (((hz : Int) - k.setpoint) * sensitivity) 10
        let factor := max 250 (min 2000 (1000 - adj))
        (max 30 (min 43200 ((base : Int) * factor / 1000))).toNat
      let due (last : Option Nat) (i : Nat) : Option Nat := last.map fun m => min (m + i) Config.maxMinute
      s.computeDues w = s.changeWheel w fun y => { y with
        flipDue := due x.lastFlip (interval k.flipBase[band] k.kf)
        brushDue := if k.brushBase[band] = 0 then none else due x.lastBrush (interval k.brushBase[band] k.kb) }) ∧
    ((∀ c, x.location ≠ .inSlot c) → s.computeDues w = s)

/-- (1) R47, R48: every interval lies within 30 to 43,200 minutes, and a wetter zone never lengthens one. (2) R163: the raw mean is
the mean rounded with halves up, and the filter leaves the filtered humidity between its previous value and the raw mean. -/
def Obligations.HumidityArithmeticStaysInBounds : Prop :=
  (∀ (c : CareClass) (age hz hz' : Nat), hz ≤ hz' →
     30 ≤ c.flipInterval age hz ∧ c.flipInterval age hz ≤ 43200 ∧ c.flipInterval age hz' ≤ c.flipInterval age hz ∧
     (∀ i, c.brushInterval age hz = some i → 30 ≤ i ∧ i ≤ 43200) ∧
     (∀ i j, c.brushInterval age hz = some i → c.brushInterval age hz' = some j → j ≤ i)) ∧
  ((∀ (h raw shift : Nat), min h raw ≤ filterStep h raw shift ∧ filterStep h raw shift ≤ max h raw) ∧
   (∀ r : ZoneReadings, 0 < r.count →
     2 * r.sum < (2 * rawMean r + 1) * r.count ∧ 2 * rawMean r * r.count ≤ 2 * r.sum + r.count))

/-! ## The sweep and the task list -/

/-- (1) R54: a SWEEP write with a period of 1 to 60 replaces the period and restarts the timer, and leaves a running pass, the pass
owed and SWEEP_LATE; any other period is refused with BAD_FIELD. (2) R181, R187: a SWEEP, ROBOT or SENSOR section is judged whole:
out of range in any field it is refused with BAD_FIELD, else every field is replaced. The range of the loop period, 10 to 600, and what
a SENSOR write does to the loop timer and to the heads are R156's; that it drops a pass start that was due is the model's reading (log
entry 27). -/
def Obligations.SectionWritesAreJudgedWhole : Prop :=
  (∀ (s : State) (p : Nat), s.serves .management →
     (1 ≤ p ∧ p ≤ 60 → ∃ t, exec (.writeConfigSweep (proper .management) p) s = .next t ∧
       t.inside = { s.inside with config := { s.config with period := p }, sweep := { s.sweep with timer := 0 } } ∧
       Served s t .management .writeConfig ⟨.ok, .empty⟩ []) ∧
     (p = 0 ∨ 60 < p → ∃ t, exec (.writeConfigSweep (proper .management) p) s = .next t ∧
       RefusedWith s t .management .writeConfig .badField)) ∧
  (∀ s : State, s.serves .management →
     let takes (c : Instr) (u : State) : Prop := ∃ t, exec c s = .next t ∧ t.inside = u.inside ∧
       Served s t .management .writeConfig ⟨.ok, .empty⟩ []
     let refuses (c : Instr) : Prop := ∃ t, exec c s = .next t ∧ RefusedWith s t .management .writeConfig .badField
     let inHall (c : RawCoord) : Prop := c.aisle < 16 ∧ c.level < 12 ∧ c.position < 48
     let raw (c : Coord) : RawCoord := ⟨c.aisle, c.level, c.position⟩
     (∀ (i o h : Coord) (a : Vector Nat 8) (ca cl boost : Nat),
       (∀ k : Fin 8, 1 ≤ a[k] ∧ a[k] ≤ 60) → ca ≤ 255 → cl ≤ 63 → boost ≤ 4095 →
       takes (.writeConfigRobot (proper .management) ⟨raw i, raw o, raw h, a, ca, cl, boost⟩)
         { s with config := { s.config with robot := ⟨i, o, h, a, ca, cl, boost⟩ } }) ∧
     (∀ r : RawRobot, ¬ inHall r.infeed ∨ ¬ inHall r.outfeed ∨ ¬ inHall r.home ∨
         (∃ k : Fin 8, r.allowances[k] = 0 ∨ 60 < r.allowances[k]) ∨ 255 < r.ca ∨ 63 < r.cl ∨ 4095 < r.boost →
       refuses (.writeConfigRobot (proper .management) r)) ∧
     (∀ (period : Nat) (zones : Vector (Option ZoneNumber) 24), 10 ≤ period → period ≤ 600 →
       takes (.writeConfigSensor (proper .management) period (zones.map fun z => z.map Fin.val))
         { s with
           config := { s.config with sensor := ⟨period, zones⟩ }
           loop := { s.loop with
             timer := 0, startsDue := 0
             heads := Vector.ofFn fun h : Fin 24 =>
               if s.config.sensor.assignment[h] = zones[h] then s.loop.heads[h]
               else ⟨if zones[h] = none then .off else .probing, 0, none⟩ } }) ∧
     (∀ (period : Nat) (zones : Vector (Option Nat) 24),
       period < 10 ∨ 600 < period ∨ (∃ (h : Fin 24) (z : Nat), zones[h] = some z ∧ 8 ≤ z) →
       refuses (.writeConfigSensor (proper .management) period zones)) ∧
     ∀ p, refuses (.writeConfigSweep { port := .management, form := .badName } p))

/-- (1) R55: a boundary starts a pass, or finds one running and leaves it owed and late. (2) R55 to R57: a grant to a running pass
visits the lowest handle in use at or above the cursor, and ends the pass at handle 8191 or when there is none; a pass that no
boundary has met clears SWEEP_LATE, and an owed pass starts at once. The visit computes the dues and then makes its three offers one
after another, each on the state the offer before it left, all judged against the wheel's record as the dues left it (R57): a wheel
whose own QUEUED task an offer has displaced is not offered that task again in the same visit. -/
def Obligations.SweepWalksTheTable : Prop :=
  (∀ (s : State) (n : Nat), s.supply.state = .running → s.sweep.boundaries = n + 1 →
     exec .sweepPeriodBoundary s = .next { s with sweep :=
       if s.sweep.running then { s.sweep with boundaries := n, owed := true, late := true }
       else { s.sweep with boundaries := n, running := true, cursor := 0 } }) ∧
  (∀ s : State, s.supply.state = .running → s.wheels.canonical = true →
     let ended : Sweep := { s.sweep with
       running := s.sweep.owed, cursor := 0, passCount := (s.sweep.passCount + 1) % 65536, owed := false
       late := s.sweep.late && s.sweep.owed }
     let granted : State := { s with arbiter := { s.arbiter with cycleLast := .sweep, passedOver := 0 } }
     (s.sweep.running = false → exec .sweepVisit s = .next s) ∧
     (s.sweep.running = true → (∀ w, s.sweep.cursor ≤ w → s.wheel w = none) →
       exec .sweepVisit s = .next { granted with sweep := ended }) ∧
     (∀ w x y, s.sweep.running = true → s.wheel w = some x → s.sweep.cursor ≤ w → w < Config.handles →
       (∀ v, s.sweep.cursor ≤ v → v < w → s.wheel v = none) → (granted.computeDues w).wheel w = some y →
       let moved := (granted.computeDues w).visitMovement w y
       let flipped := moved.1.visitFlip w y
       let brushed := flipped.1.visitBrush w y
       let entered := moved.2 || flipped.2 || brushed.2
       exec .sweepVisit s = .next { brushed.1.testIf entered with
         sweep := if w = 8191 then ended else { s.sweep with cursor := w + 1 } }))

/-- (1) R58 to R61, R66: for a wheel of record x after step 1, a visit offers a movement task, a FLIP and a BRUSH exactly under the
conditions of the rules; a care candidate not entered raises BACKLOG. (2) R57, R61: a visit writes dues of the wheel visited and task marks, and nothing else of any
wheel; it touches no slot, zone, clock, discrepancy or link. -/
def Obligations.VisitsOfferAndWriteLittleElse : Prop :=
  (∀ (s : State) (w : Nat) (x : Wheel),
     (∀ i, x.intent = some i → x.moveMark = false → s.Agrees x i →
       s.visitMovement w x = match s.offerNonCare (s.movementTask w x i) with
         | some (u, _) => (u, true)
         | none => (s, false)) ∧
     ((∀ i, x.intent = some i → x.moveMark = true ∨ ¬ s.Agrees x i) → s.visitMovement w x = (s, false)) ∧
     (∀ c, x.location = .inSlot c →
       let offer (kind : TaskKind) (m : Nat) : State × Bool :=
         match s.offerCare (TaskRecord.offered kind (some w) (.board c) m) with
         | some u => (u, true)
         | none => (s.raise .management .backlog, false)
       let brushOpen := s.CareIsOpen w x c ∧ x.brushMark = false ∧ (s.zone (s.zoneOf c)).alarm ≠ .lowAlarm ∧ x.hold ≠ .quarantine
       (∀ m, s.CareIsOpen w x c → x.flipMark = false → x.flipDue = some m → m ≤ s.clock.minute →
         s.visitFlip w x = offer .flip m) ∧
       (¬ s.CareIsOpen w x c ∨ x.flipMark = true ∨ ¬ s.IsDue x.flipDue → s.visitFlip w x = (s, false)) ∧
       (∀ m, brushOpen → x.brushDue = some m → m ≤ s.clock.minute → s.visitBrush w x = offer .brush m) ∧
       (¬ brushOpen ∨ ¬ s.IsDue x.brushDue → s.visitBrush w x = (s, false))) ∧
     ((∀ c, x.location ≠ .inSlot c) → s.visitFlip w x = (s, false) ∧ s.visitBrush w x = (s, false))) ∧
  (∀ (s : State) (w : Nat),
     let t := s.visit w
     t.clock = s.clock ∧ t.slots = s.slots ∧ t.tags = s.tags ∧ t.discrepancies = s.discrepancies ∧ t.link = s.link ∧
       t.zones = s.zones ∧ t.loop = s.loop ∧ t.config = s.config ∧ t.memory = s.memory ∧ t.lastSurvey = s.lastSurvey ∧
       (∀ q, (t.port q).sansNotices = (s.port q).sansNotices) ∧
       ∀ v, (s.wheel v = none → t.wheel v = none) ∧
         ∀ x, s.wheel v = some x → ∃ y, t.wheel v = some y ∧
           y = { x with flipDue := y.flipDue, brushDue := y.brushDue, flipMark := y.flipMark, brushMark := y.brushMark,
                        moveMark := y.moveMark } ∧
           (v ≠ w → y.flipDue = x.flipDue ∧ y.brushDue = x.brushDue))

/-- (1) R23, R67, R69, R70: an entry takes the lowest free number, its last-issue value and the next enqueue sequence, stands last
and QUEUED with no attempts and rereads, and sets its wheel's mark; at the counter's limit the list is restamped first. (2) R64: a
care candidate is entered with room on both counts; without, it displaces the QUEUED care task of lowest standing score, the latest
entered among equals, when it stands strictly higher, and is else not entered. (3) R65: a non-care task is entered below 24,
displacing the QUEUED care task of lowest standing score from a full list without comparison; at 24 it is not entered. -/
def Obligations.EntriesMakeTheirRoomAndStamp : Prop :=
  (∀ (s : State) (t : TaskRecord), s.TaskLaw → s.tasks.length < 64 →
     ∃ u n, s.enter t = some (u, n) ∧ (∀ v ∈ s.tasks, v.number ≠ n) ∧ (∀ m < n, ∃ v ∈ s.tasks, v.number = m) ∧
       let entered (sequence : Nat) : TaskRecord := { t with
         number := n, issue := s.dispatch.lastIssue[n], state := .queued, sequence := sequence, attempts := 0, rereads := 0 }
       (s.dispatch.sequence < Config.maxMinute →
         u = { s with
           tasks := s.tasks ++ [entered s.dispatch.sequence]
           dispatch := { s.dispatch with sequence := s.dispatch.sequence + 1 }
           wheels := u.wheels }) ∧
       (s.dispatch.sequence = Config.maxMinute →
         u = { s with
           tasks := (s.tasks.mapIdx fun i v => { v with sequence := i }) ++ [entered s.tasks.length]
           dispatch := { s.dispatch with sequence := s.tasks.length + 1 }
           wheels := u.wheels }) ∧
       ∀ v, u.wheel v = if t.wheel = some v then (s.wheel v).map fun x => x.mark t.kind true else s.wheel v) ∧
  (∀ (s : State) (t : TaskRecord),
     (s.careCount < 56 → s.tasks.length < 64 → s.offerCare t = (s.enter t).map Prod.fst) ∧
     (56 ≤ s.careCount ∨ 64 ≤ s.tasks.length →
       ((∀ v ∈ s.tasks, v.queued = true → v.isCare = false) → s.offerCare t = none) ∧
       (∀ v ∈ s.tasks, v.queued = true → v.isCare = true →
         (∀ v' ∈ s.tasks, v'.queued = true → v'.isCare = true → v' ≠ v →
           s.standing v < s.standing v' ∨ (s.standing v = s.standing v' ∧ v'.sequence < v.sequence)) →
         s.offerCare t =
           if s.standing v < s.standing t then ((s.withdraw v.number).enter t).map Prod.fst else none))) ∧
  (∀ (s : State) (t : TaskRecord),
     (24 ≤ s.nonCareCount → s.offerNonCare t = none) ∧
     (s.nonCareCount < 24 → s.tasks.length < 64 → s.offerNonCare t = s.enter t) ∧
     (s.nonCareCount < 24 → 64 ≤ s.tasks.length →
       ∀ v ∈ s.tasks, v.queued = true → v.isCare = true →
         (∀ v' ∈ s.tasks, v'.queued = true → v'.isCare = true → v' ≠ v →
           s.standing v < s.standing v' ∨ (s.standing v = s.standing v' ∧ v'.sequence < v.sequence)) →
         s.offerNonCare t = (s.withdraw v.number).enter t))

/-- R85: a withdrawal takes from the list exactly the QUEUED tasks picked, clears the marks of their actions on their wheels, and
changes nothing else: no outcome, no notice, no due and no intent. -/
def Obligations.WithdrawalClearsMarksAlone : Prop :=
  ∀ (s : State) (p : TaskRecord → Bool),
    let gone (v : Nat) (kinds : TaskKind → Bool) : Bool :=
      s.tasks.any fun t => t.queued && p t && t.wheel == some v && kinds t.kind
    let flips : TaskKind → Bool := fun k => k == .flip || k == .flipBrush
    let brushes : TaskKind → Bool := fun k => k == .brush || k == .flipBrush
    let moves : TaskKind → Bool := fun k => !(flips k || brushes k || k == .survey)
    let u := s.withdrawWhere p
    u = { s with tasks := s.tasks.filter fun t => !(t.queued && p t), wheels := u.wheels } ∧
      u.wheels.map Prod.fst = s.wheels.map Prod.fst ∧
      ∀ v, u.wheel v = (s.wheel v).map fun x => { x with
        flipMark := x.flipMark && !gone v flips
        brushMark := x.brushMark && !gone v brushes
        moveMark := x.moveMark && !gone v moves }

/-- R63, R73: the standing and dispatch scores, written out. The weight 8 of a task whose wheel has no record, which no run reaches, is
the model's choice (log entry 18), and so is the zone of the alarm boost of a task that is out, the zone of its board by the map as it
stands (log entry 32). -/
def Obligations.ScoresAreComputedByTheRules : Prop :=
  ∀ (s : State) (t : TaskRecord),
    let weight : Nat := match t.wheel with
      | some w => match s.wheel w with
        | some x => s.config.classes[x.cls].weight
        | none => 8
      | none => 8
    let late := if s.clock.minute < t.minute then 0 else s.clock.minute - t.minute
    let alarm : Nat := if t.isCare then
        match t.place with
        | .board c => if (s.zone (s.zoneOf c)).alarm = .highAlarm then s.config.zones[s.zoneOf c].boost else 0
        | _ => 0
      else 0
    let kind := if t.isCare then 0 else s.config.robot.boost
    let standing := min 65535 (min 32767 (late * weight / 8) + alarm + kind)
    s.standing t = standing ∧
      (s.link.position = none → s.dispatchScore t = standing) ∧
      ∀ p, s.link.position = some p →
        let q := t.firstPoint s
        let cost : Int := s.config.robot.ca * |(p.aisle.val : Int) - q.aisle.val| +
          s.config.robot.cl * |(p.level.val : Int) - q.level.val|
        s.dispatchScore t = (max 0 (min 65535 ((standing : Int) - cost))).toNat

/-! ## TAKE and the list's requests -/

/-- R75 to R77: the task a TAKE chooses is the oldest QUEUED CARRIED task, which must be eligible; without one it is the eligible
task of highest dispatch score, the oldest among equals. -/
def Obligations.ChoiceFollowsPrecedenceAndScore : Prop :=
  ∀ s : State, s.TaskLaw →
    let carried (t : TaskRecord) : Prop := t ∈ s.tasks ∧ t.queued = true ∧ t.phase = some .carried
    let eligible (t : TaskRecord) : Prop := t ∈ s.tasks ∧ t.queued = true ∧
      (∀ z ∈ t.zones s, (s.zone z).exclusion = .none) ∧ ¬ (t.kind = .brush ∧ s.inLowAlarm t = true)
    (s.choice = .empty ↔ s.tasks = []) ∧
    ((∃ t, carried t) → ∃ t, carried t ∧ (∀ v, carried v → t.sequence ≤ v.sequence) ∧
      (eligible t → s.choice = .task t) ∧ (¬ eligible t → s.choice = .blocked)) ∧
    ((∀ t, ¬ carried t) → s.tasks ≠ [] → (∀ t, ¬ eligible t) → s.choice = .blocked) ∧
    ((∀ t, ¬ carried t) → (∃ t, eligible t) → ∃ t, s.choice = .task t ∧ eligible t ∧
      ∀ v, eligible v → s.dispatchScore v < s.dispatchScore t ∨
        (s.dispatchScore v = s.dispatchScore t ∧ t.sequence ≤ v.sequence))

/-- (1) R104: TAKE outside IDLE: the task that is out again, the HOME order with a deadline of 10 that a repeat does not renew, or
STATE. (2) R78, R79, R92: a TAKE in IDLE that issues nothing is answered NONE: PAUSED without a check, EMPTY when the check has
withdrawn every task, BLOCKED with STARVED raised. (3) R91: outside PAUSED, the test that raises TASK_AVAILABLE in IDLE says whether
a TAKE served at that moment would issue a task, whatever the younger CARRIED tasks are (the model's reading: log entry 15). -/
def Obligations.TakesThatIssueNothing : Prop :=
  (∀ s : State, s.serves .robot →
     (∀ v, s.TaskLaw → v ∈ s.tasks → v.queued = false → ∃ t, exec (.take (proper .robot)) s = .next t ∧ t.inside = s.inside ∧
       Served s t .robot .take ⟨.ok, .work (s.workOf v)⟩ []) ∧
     (s.link.state = .unhomed ∨ s.link.state = .recovery → ∃ t, exec (.take (proper .robot)) s = .next t ∧
       t.inside = { s.inside with link := { s.link with homeOrder := match s.link.homeOrder with
         | some m => some m
         | none => some 10 } } ∧
       Served s t .robot .take ⟨.ok, .homeOrder s.config.robot.home⟩ []) ∧
     (s.link.state = .offline ∨ s.link.state = .lost ∨ s.link.state = .halted → ∃ t, exec (.take (proper .robot)) s = .next t ∧
       RefusedWith s t .robot .take .state)) ∧
  (∀ s : State, s.serves .robot → s.link.state = .idle →
     (s.dispatch.paused = true → ∃ t, exec (.take (proper .robot)) s = .next t ∧ t.inside = s.inside ∧
       Served s t .robot .take ⟨.none, .noWork .paused⟩ []) ∧
     (∀ t, s.disagrees t = true ↔ s.Disagrees t) ∧
     (s.dispatch.paused = false →
       let u := s.withdrawWhere fun t => s.disagrees t
       (u.choice = .empty → ∃ t, exec (.take (proper .robot)) s = .next t ∧ t.inside = u.inside ∧
         Served s t .robot .take ⟨.none, .noWork .empty⟩ []) ∧
       (u.choice = .blocked → ∃ t, exec (.take (proper .robot)) s = .next t ∧ t.inside = u.inside ∧
         Served s t .robot .take ⟨.none, .noWork .blocked⟩ [(.management, .starved)]))) ∧
  (∀ s : State, s.serves .robot → s.link.state = .idle → s.dispatch.paused = false →
     (s.wouldIssue = true ↔ ∃ t w, exec (.take (proper .robot)) s = .next t ∧
       (t.port .robot).sansNotices = ((s.port .robot).after RequestKind.take.code ⟨.ok, .work w⟩).sansNotices))

/-- R70, R80, R82 to R84, R95, R117: a TAKE that issues a task: the task ISSUED under its next issue number and merged where the
rules merge it, its zones marked, the intent ACTIVE, the care tasks of a wheel to be moved withdrawn, the link WORKING. -/
def Obligations.TakeIssuesTheChosenTask : Prop :=
  ∀ (s : State) (x : TaskRecord), s.serves .robot → s.TaskLaw → s.link.state = .idle → s.dispatch.paused = false →
    let u := s.checkList
    u.choice = .task x →
    let n := (u.dispatch.lastIssue[x.number] + 1) % 256
    let merges : Prop := ∃ w r, x.wheel = some w ∧ u.wheel w = some r ∧ u.Merges x r
    ∃ t y, exec (.take (proper .robot)) s = .next t ∧
      Served s t .robot .take ⟨.ok, .work (t.workOf y)⟩ [] ∧
      t.inside = { u.inside with
        tasks := t.tasks, wheels := t.wheels, zones := t.zones
        dispatch := { u.dispatch with lastIssue := u.dispatch.lastIssue.set x.number n }
        link := { u.link with
          state := .working, verified := false, issuedTag := (x.wheel.bind u.wheel).map Wheel.tag
          deadline := some u.config.robot.allowances[y.kind.index] } } ∧
      y = { x with state := .issued, issue := n, rereads := 0, kind := y.kind } ∧
      (merges → y.kind = .flipBrush) ∧ (¬ merges → y.kind = x.kind) ∧
      y ∈ t.tasks ∧
      (∀ v, v.number ≠ x.number → (v ∈ t.tasks ↔ v ∈ u.tasks ∧
        ¬ (v.wheel = x.wheel ∧ x.wheel ≠ none ∧
          ((x.kind.clearsCare = true ∧ v.isCare = true) ∨
           (merges ∧ x.kind = .flip ∧ v.kind = .brush) ∨ (merges ∧ x.kind = .brush ∧ v.kind = .flip))))) ∧
      (∀ z, t.zone z = { u.zone z with presence := (u.zone z).presence || (x.zones u).contains z }) ∧
      ∀ w r, u.wheel w = some r →
        (x.wheel ≠ some w → t.wheel w = some r) ∧
        (x.wheel = some w → ∃ r', t.wheel w = some r' ∧
          r' = { r with
            intent := if x.isMovement then r.intent.map fun i => { i with status := .active } else r.intent
            flipMark := r'.flipMark, brushMark := r'.brushMark, moveMark := r'.moveMark } ∧
          r'.moveMark = r.moveMark ∧ (merges → r'.flipMark = true ∧ r'.brushMark = true) ∧
          (¬ merges → x.kind.clearsCare = false → r'.flipMark = r.flipMark ∧ r'.brushMark = r.brushMark) ∧
          (x.kind.clearsCare = true →
            r'.flipMark = (r.flipMark && !u.tasks.any fun v => v.wheel == some w && (v.kind == .flip || v.kind == .flipBrush)) ∧
            r'.brushMark = (r.brushMark && !u.tasks.any fun v => v.wheel == some w && (v.kind == .brush || v.kind == .flipBrush))))

/-- (1) R88, R85, R100, R127: ABORT_TASK: each outcome of the table. (2) R100, R127: CANCEL_MOVE ends a BEFORE_PICK movement whose
task is missing or QUEUED, aborts the one whose task is ISSUED, and is refused with STATE without an intent or with a CARRIED one; a
handle above 8191 is BAD_FIELD and a free one NOT_FOUND, as for BOOK_OUT (R126).
(3) R90: PAUSE_DISPATCH and RESUME_DISPATCH set the dispatch state; a resume out of PAUSED runs the TASK_AVAILABLE test. (4) R116:
CLEAR_ROBOT_HALT in HALTED leaves the link UNHOMED with no fault counted and no position known, and the last fault record as it was;
in any other state it is refused with STATE. -/
def Obligations.ManagementSteersTheRobot : Prop :=
  (∀ s : State, s.serves .management → s.TaskLaw →
     (∀ n, 64 ≤ n → ∃ t, exec (.abortTask (proper .management) n) s = .next t ∧
       RefusedWith s t .management .abortTask .badField) ∧
     (∀ n : Fin 64, (∀ v ∈ s.tasks, v.number ≠ n) → ∃ t, exec (.abortTask (proper .management) n) s = .next t ∧
       RefusedWith s t .management .abortTask .notFound) ∧
     (∀ v ∈ s.tasks,
       (v.state ≠ .aborting → v.phase = some .carried → ∃ t, exec (.abortTask (proper .management) v.number) s = .next t ∧
         RefusedWith s t .management .abortTask .state) ∧
       (v.state = .aborting → ∃ t, exec (.abortTask (proper .management) v.number) s = .next t ∧ t.inside = s.inside ∧
         Served s t .management .abortTask ⟨.ok, .aborted v.kind v.wheel .aborting⟩ []) ∧
       (v.state = .issued → v.phase ≠ some .carried → ∃ t, exec (.abortTask (proper .management) v.number) s = .next t ∧
         t.inside = (s.changeTask v.number fun x => { x with state := .aborting }).inside ∧
         Served s t .management .abortTask ⟨.ok, .aborted v.kind v.wheel .aborting⟩ [(.robot, .abortRequested)]) ∧
       (v.state = .queued → v.isMovement = false → v.phase ≠ some .carried →
         ∃ t, exec (.abortTask (proper .management) v.number) s = .next t ∧
         t.inside = (s.withdraw v.number).inside ∧
         Served s t .management .abortTask ⟨.ok, .aborted v.kind v.wheel .withdrawn⟩ []) ∧
       (∀ w, v.state = .queued → v.isMovement = true → v.phase ≠ some .carried → v.wheel = some w →
         ∃ t, exec (.abortTask (proper .management) v.number) s = .next t ∧
         t.inside = ((s.withdraw v.number).endIntent w .cancelled).inside ∧
         Served s t .management .abortTask ⟨.ok, .aborted v.kind v.wheel .withdrawn⟩ []))) ∧
  (∀ (s : State) (w : Nat), s.serves .management →
     let c := Instr.cancelMove (proper .management) w
     (8192 ≤ w → ∃ t, exec c s = .next t ∧ RefusedWith s t .management .cancelMove .badField) ∧
     (w < 8192 → s.wheel w = none → ∃ t, exec c s = .next t ∧ RefusedWith s t .management .cancelMove .notFound)) ∧
  (∀ (s : State) (w : Nat) (x : Wheel), s.serves .management → w < Config.handles → s.wheel w = some x →
     let c := Instr.cancelMove (proper .management) w
     (x.intent = none → ∃ t, exec c s = .next t ∧ RefusedWith s t .management .cancelMove .state) ∧
     ∀ i, x.intent = some i →
       (i.phase = .carried → ∃ t, exec c s = .next t ∧ RefusedWith s t .management .cancelMove .state) ∧
       (i.phase = .beforePick → (∀ v ∈ s.tasks, v.isMovement = true → v.wheel = some w → v.queued = true) →
         let v := s.withdrawWhere fun y => y.isMovement && y.wheel == some w
         let freed := match i.destination with
           | .slot d => if s.slot d = SlotEntry.reserved .destination w then v.setSlot d .empty else v
           | _ => v
         ∃ t, exec c s = .next t ∧
           t.inside = (freed.changeWheel w fun y => { y with intent := none, lastOutcome := some .cancelled }).inside ∧
           Served s t .management .cancelMove ⟨.ok, .moveCancelled⟩ []) ∧
       (∀ v, s.TaskLaw → i.phase = .beforePick → v ∈ s.tasks → v.isMovement = true → v.wheel = some w →
         (v.state = .issued → ∃ t, exec c s = .next t ∧
           t.inside = (s.changeTask v.number fun y => { y with state := .aborting }).inside ∧
           Served s t .management .cancelMove ⟨.ok, .moveAborting⟩ [(.robot, .abortRequested)]) ∧
         (v.state = .aborting → ∃ t, exec c s = .next t ∧ t.inside = s.inside ∧
           Served s t .management .cancelMove ⟨.ok, .moveAborting⟩ []))) ∧
  (∀ s : State, s.serves .management →
     (∃ t, exec (.pauseDispatch (proper .management)) s = .next t ∧
       t.inside = { s.inside with dispatch := { s.dispatch with paused := true } } ∧
       Served s t .management .pauseDispatch ⟨.ok, .empty⟩ []) ∧
     (let u : State := { s with dispatch := { s.dispatch with paused := false } }
      ∃ t, exec (.resumeDispatch (proper .management)) s = .next t ∧ t.inside = u.inside ∧
       Served s t .management .resumeDispatch ⟨.ok, .empty⟩ (if s.dispatch.paused then u.availableNow else []))) ∧
  (∀ s : State, s.serves .management →
     (s.link.state = .halted → ∃ t, exec (.clearRobotHalt (proper .management)) s = .next t ∧
       t.inside = { s.inside with link := { s.link with state := .unhomed, faults := 0, position := none } } ∧
       Served s t .management .clearRobotHalt ⟨.ok, .empty⟩ []) ∧
     (s.link.state ≠ .halted → ∃ t, exec (.clearRobotHalt (proper .management)) s = .next t ∧
       RefusedWith s t .management .clearRobotHalt .state))

/-! ## The Robot Link -/

/-- R105: HOMED in UNHOMED or RECOVERY brings the link to IDLE at HOME and withdraws the HOME order; in IDLE it sets the position;
in any other state it is refused with STATE. The fault count stays. -/
def Obligations.HomedStandsAtHome : Prop :=
  ∀ s : State, s.serves .robot →
    let home := some s.config.robot.home
    (s.link.state = .unhomed ∨ s.link.state = .recovery →
      let u : State := { s with link := { s.link with state := .idle, position := home, homeOrder := none } }
      ∃ t, exec (.homed (proper .robot)) s = .next t ∧ t.inside = u.inside ∧
        Served s t .robot .homed ⟨.ok, .empty⟩ u.availableNow) ∧
    (s.link.state = .idle → ∃ t, exec (.homed (proper .robot)) s = .next t ∧
      t.inside = { s.inside with link := { s.link with position := home } } ∧ Served s t .robot .homed ⟨.ok, .empty⟩ []) ∧
    (s.link.state = .offline ∨ s.link.state = .working ∨ s.link.state = .halted ∨ s.link.state = .lost →
      ∃ t, exec (.homed (proper .robot)) s = .next t ∧ RefusedWith s t .robot .homed .state)

/-- (1) R98: a report whose pair is not that of the task that is out is answered BAD_FIELD, STALE or TOO_LATE and changes nothing.
(2) R98, R106, R110 to R112, R140: a current report that does not fit an ISSUED task is answered SEQUENCE and changes nothing. -/
def Obligations.ReportsAreJudgedInOrder : Prop :=
  (∀ (s : State) (c : Instr) (k : RequestKind) (r : TaskRef), s.serves .robot → s.TaskLaw →
     c.request = some (k, proper .robot) → c.report = some r →
     (64 ≤ r.task → ∃ t, exec c s = .next t ∧ RefusedWith s t .robot k .badField) ∧
     ∀ n : Fin 64, n.val = r.task →
       ((∃ v ∈ s.tasks, v.number = n ∧ v.queued = false ∧ v.issue ≠ r.issue) →
         ∃ t, exec c s = .next t ∧ RefusedWith s t .robot k .stale) ∧
       ((∀ v ∈ s.tasks, v.number = n → v.queued = true) →
         ∃ t, exec c s = .next t ∧
           RefusedWith s t .robot k (if r.issue = s.dispatch.lastIssue[n] then .tooLate else .stale))) ∧
  (∀ (s : State) (v : TaskRecord), s.serves .robot → s.TaskLaw → v ∈ s.tasks → v.state = .issued →
     let ref : TaskRef := ⟨v.number, v.issue⟩
     let lifts : Prop := ∃ k, v.kind = .movement k ∧ k ≠ .park ∧ v.phase = some .beforePick
     (∀ tag, ¬ ((v.isCare = true ∨ lifts) ∧ s.link.verified = false) →
       ∃ t, exec (.arrived (proper .robot) ref tag) s = .next t ∧ RefusedWith s t .robot .arrived .sequence) ∧
     (¬ (lifts ∧ s.link.verified = true) →
       ∃ t, exec (.picked (proper .robot) ref) s = .next t ∧ RefusedWith s t .robot .picked .sequence) ∧
     (∀ n tag, (∀ g p, v.kind = .survey → v.range = some g → g.next = some p → p.val ≠ n) →
       ∃ t, exec (.slotRead (proper .robot) ref n tag) s = .next t ∧ RefusedWith s t .robot .slotRead .sequence) ∧
     (∀ a b, (v.isCare = true ∧ s.link.verified = false) ∨ (v.isMovement = true ∧ v.phase ≠ some .carried) →
       ∃ t, exec (.doneReport (proper .robot) ref a b) s = .next t ∧ RefusedWith s t .robot .done .sequence))

/-- R106 to R109, R117, R22: a fitting ARRIVED sets the position and renews the deadline; the issued tag is answered PROCEED, an
unreadable or missing tag REREAD twice, and anything else fails the task for good: at a slot the slot goes SUSPECT if OCCUPIED and
the finding is recorded, at the infeed an INFEED_MISMATCH is. -/
def Obligations.ArrivedJudgesTheTag : Prop :=
  ∀ (s : State) (v : TaskRecord) (tag : TagReport), s.serves .robot → s.TaskLaw → v ∈ s.tasks → v.state = .issued →
    s.link.verified = false → (v.isCare = true ∨ ∃ k, v.kind = .movement k ∧ k ≠ .park ∧ v.phase = some .beforePick) →
    let c := Instr.arrived (proper .robot) ⟨v.number, v.issue⟩ tag
    let point := v.firstPoint s
    let b : State := { s with link := { s.link with
      position := some point, deadline := some s.config.robot.allowances[v.kind.index] } }
    let fails (why : FailReason) (found : Option TagId) : Prop :=
      let noted : State := match v.place with
        | .board p => (match s.slot p with
            | .occupied w => b.makeSuspect p (some w)
            | _ => b).record (if why = FailReason.unreadable then DiscrepancyKind.unreadable else .mismatch) (some p) (s.slot p).handle found
        | _ => b.record .infeedMismatch none none found
      let e := noted.ended v (.failed why) .idle (some point) s.link.faults
      ∃ t, exec c s = .next t ∧ t.inside = e.inside ∧
        Served s t .robot .arrived ⟨.mismatch, .verifyFailed why⟩
          (s.recordNotice ++ s.endNotices v (.failed why) ++ e.availableNow)
    (∀ x w, classify tag = .readable x → s.link.issuedTag = some x → v.wheel = some w →
      ∃ t, exec c s = .next t ∧
        t.inside = { (b.changeWheel w fun y => { y with lastSeen := some s.clock.minute }).inside with
          link := { b.link with verified := true } } ∧
        Served s t .robot .arrived ⟨.proceed, .empty⟩ []) ∧
    (∀ x, classify tag = .readable x → s.link.issuedTag ≠ some x → fails .mismatch (some x)) ∧
    ((∀ x, classify tag ≠ .readable x) → v.rereads < 2 →
      ∃ t, exec c s = .next t ∧
        t.inside = (b.changeTask v.number fun y => { y with rereads := y.rereads + 1 }).inside ∧
        Served s t .robot .arrived ⟨.reread, .empty⟩ []) ∧
    ((∀ x, classify tag ≠ .readable x) → 2 ≤ v.rereads → fails .unreadable none)

/-- R110, R117: a fitting PICKED makes task and intent CARRIED and the wheel IN_GRIPPER, turns the source slot of a MOVE or REMOVE
into the return slot, and renews the deadline. -/
def Obligations.PickedPutsTheWheelInTheGripper : Prop :=
  ∀ (s : State) (v : TaskRecord) (k : MoveKind) (w : Nat), s.serves .robot → s.TaskLaw → v ∈ s.tasks → v.state = .issued →
    s.link.verified = true → v.kind = .movement k → v.phase = some .beforePick → v.wheel = some w →
    ∀ source : Option Coord,
      (k = .place ∧ source = none) ∨ ((k = .move ∨ k = .remove) ∧ ∃ c, v.place = .board c ∧ source = some c) →
      let lifted : State := match source with
        | some c => s.setSlot c (.reserved .putBack w)
        | none => s
      let carried := (lifted.changeWheel w fun x => { x with
          location := .inGripper, intent := x.intent.map fun i => { i with phase := .carried, returnSlot := source } }).changeTask
        v.number fun y => { y with phase := some .carried }
      ∃ t, exec (.picked (proper .robot) ⟨v.number, v.issue⟩) s = .next t ∧
        t.inside = { carried.inside with
          link := { s.link with deadline := some s.config.robot.allowances[v.kind.index] } } ∧
        Served s t .robot .picked ⟨.ok, .empty⟩ []

/-- (1) R21, R43, R111, R112: a fitting DONE on a care task credits the actions the task carries and the robot reports, recomputes
the dues when one was credited, ends the task DONE, and leaves the link IDLE at the slot with the fault count 0. (2) R112, R120, R143:
a DONE on a SURVEY ends it DONE after its last position, and otherwise FAILED(PARTIAL), or ABORTED when it was ABORTING; before the
last position the register becomes the slot of the most recent applied report, also where the survey has been issued again since, and
stays as it is when none has been applied. -/
def Obligations.DoneEndsCareAndSurveys : Prop :=
  (∀ (s : State) (v : TaskRecord) (w : Nat) (flip brush : Bool), s.serves .robot → s.TaskLaw → v ∈ s.tasks →
     v.queued = false → v.isCare = true → v.wheel = some w → s.link.verified = true →
     let flips := flip && (v.kind == .flip || v.kind == .flipBrush)
     let brushes := brush && (v.kind == .brush || v.kind == .flipBrush)
     let now := s.clock.minute
     let written := s.changeWheel w fun x => { x with
       lastFlip := if flips then some now else x.lastFlip
       flipCount := if flips then min 65535 (x.flipCount + 1) else x.flipCount
       faceUp := if flips then (if x.faceUp = .a then .b else .a) else x.faceUp
       lastBrush := if brushes then some now else x.lastBrush
       brushCount := if brushes then min 65535 (x.brushCount + 1) else x.brushCount }
     let credited := if flips || brushes then written.computeDues w else s
     let e := credited.ended v .done .idle (some (v.place.coord s)) 0
     ∃ t, exec (.doneReport (proper .robot) ⟨v.number, v.issue⟩ flip brush) s = .next t ∧ t.inside = e.inside ∧
       Served s t .robot .done ⟨.ok, .empty⟩ (s.endNotices v .done ++ e.availableNow)) ∧
  (∀ (s : State) (v : TaskRecord) (g : SurveyRange) (a b : Bool), s.serves .robot → s.TaskLaw → v ∈ s.tasks →
     v.queued = false → v.kind = .survey → v.range = some g →
     let ending : Ending := if g.next = none then .done else if v.state = .aborting then .aborted else .failed .incomplete
     let position : Option Coord := match g.next with
       | none => some (v.lastPoint s)
       | some n => if g.first < n then some { v.place.coord s with position := n - 1 } else s.link.position
     let e := s.ended v ending .idle position 0
     ∃ t, exec (.doneReport (proper .robot) ⟨v.number, v.issue⟩ a b) s = .next t ∧ t.inside = e.inside ∧
       Served s t .robot .done ⟨.ok, .empty⟩ (s.endNotices v ending ++ e.availableNow))

/-- R120: a report on an ABORTING task that is not taken as a completion is not applied, is answered ABORT, and ends the task
ABORTED with the link IDLE. -/
def Obligations.AbortingTasksEndAborted : Prop :=
  ∀ (s : State) (v : TaskRecord), s.serves .robot → s.TaskLaw → v ∈ s.tasks → v.state = .aborting →
    let ref : TaskRef := ⟨v.number, v.issue⟩
    let aborts (c : Instr) (k : RequestKind) (p : Option Coord) : Prop :=
      let e := s.ended v .aborted .idle p s.link.faults
      ∃ t, exec c s = .next t ∧ t.inside = e.inside ∧
        Served s t .robot k ⟨.abort, .empty⟩ (s.endNotices v .aborted ++ e.availableNow)
    (∀ tag, aborts (.arrived (proper .robot) ref tag) .arrived (some (v.firstPoint s))) ∧
    aborts (.picked (proper .robot) ref) .picked s.link.position ∧
    (∀ n tag, v.kind ≠ .survey → aborts (.slotRead (proper .robot) ref n tag) .slotRead s.link.position) ∧
    (∀ (n : Fin 48) tag, v.kind = .survey →
      aborts (.slotRead (proper .robot) ref n tag) .slotRead (some { v.place.coord s with position := n })) ∧
    (∀ a b, (v.isCare = true ∧ s.link.verified = false) ∨ (v.isMovement = true ∧ v.phase ≠ some .carried) →
      aborts (.doneReport (proper .robot) ref a b) .done s.link.position)

/-- (1) R34, R99, R100, R143, R178: the steps of an ending: the task leaves the list, its marks, verify flag, issued tag, deadline
and presence marks go, pending exclusions become ACTIVE, a failed care task sets its care fault, a BEFORE_PICK movement that fails
or is aborted loses its intent and destination, a survey writes the last survey record; nothing else changes. (2) R99: taking back
the task that is out: ABORTING ends ABORTED, CARRIED returns to QUEUED whatever its attempts, any other returns to QUEUED or ends
FAILED(ATTEMPTS) at its third attempt. -/
def Obligations.TasksLeaveTheRobot : Prop :=
  (∀ (s : State) (v : TaskRecord) (e : Ending), s.TaskLaw → v ∈ s.tasks → v.queued = false →
     let fault : Option CareFault := if v.isCare then
         match e with
         | .failed .mismatch => some .mismatchAtCare
         | .failed .unreadable => some .unreadableAtCare
         | .failed .attempts => some .attempts
         | _ => none
       else none
     let unmade : Bool := v.isMovement && v.phase == some .beforePick && (e.isFailed || e == .aborted)
     let t := s.endTask v e
     t = { s with
       tasks := t.tasks, wheels := t.wheels, slots := t.slots, lastSurvey := t.lastSurvey, ports := t.ports
       zones := s.zones.map Zone.left
       link := { s.link with verified := false, issuedTag := none, deadline := none } } ∧
     (∀ q, (t.port q).sansNotices = (s.port q).sansNotices) ∧ Raised s t (s.endNotices v e) ∧
     (∀ x, x ∈ t.tasks ↔ x ∈ s.tasks ∧ x.number ≠ v.number ∧
       ¬ (fault ≠ none ∧ x.isCare = true ∧ x.wheel = v.wheel ∧ v.wheel ≠ none)) ∧
     (∀ w, v.wheel ≠ some w → t.wheel w = s.wheel w) ∧
     (∀ w x, v.wheel = some w → s.wheel w = some x → ∃ y, t.wheel w = some y ∧
       y = { x with
         flipMark := y.flipMark, brushMark := y.brushMark, moveMark := y.moveMark
         careFault := if fault = none then x.careFault else fault
         intent := if unmade then none else x.intent
         lastOutcome := if unmade && x.intent.isSome then some e else x.lastOutcome } ∧
       (fault = none →
         y.flipMark = (x.flipMark && !(v.kind == .flip || v.kind == .flipBrush)) ∧
         y.brushMark = (x.brushMark && !(v.kind == .brush || v.kind == .flipBrush))) ∧
       y.moveMark = (x.moveMark && !v.isMovement)) ∧
     (unmade = false → t.slots = s.slots) ∧
     (∀ w x i, unmade = true → v.wheel = some w → s.wheel w = some x → x.intent = some i →
       t.slots = (match i.destination with
         | .slot d => if s.slot d = SlotEntry.reserved .destination w then s.setSlot d .empty else s
         | _ => s).slots) ∧
     (v.kind ≠ .survey → t.lastSurvey = s.lastSurvey) ∧
     (∀ a l g, v.kind = .survey → v.place = .level a l → v.range = some g →
       t.lastSurvey = some ⟨v.number, a, l, g.first, g.last,
         match g.next with
         | some n => n.val - g.first.val
         | none => g.last.val + 1 - g.first.val,
         e, s.clock.minute⟩)) ∧
  (∀ (s : State) (v : TaskRecord), s.TaskLaw → v ∈ s.tasks → v.queued = false →
     let queued : State := { s with
       tasks := s.tasks.map fun x =>
         if x.number = v.number then { x with state := .queued, attempts := min 3 (x.attempts + 1) } else x
       zones := s.zones.map Zone.left
       link := { s.link with verified := false, issuedTag := none, deadline := none }
       ports := s.takeBack.ports }
     (v.state = .aborting → s.takeBack = s.endTask v .aborted) ∧
     (v.state = .issued → 3 ≤ v.attempts + 1 → v.phase ≠ some .carried → s.takeBack = s.endTask v (.failed .attempts)) ∧
     (v.state = .issued → v.attempts + 1 < 3 ∨ v.phase = some .carried → s.takeBack = queued ∧
       (∀ q, (s.takeBack.port q).sansNotices = (s.port q).sansNotices) ∧
       Raised s s.takeBack (if ∃ z : ZoneNumber, (s.zone z).promotes = true then [(.climate, .exclusionGranted)] else [])))

/-- R99, R113, R115, R116, R120: a robot fault takes back the task that is out, counts, sends the link to RECOVERY or HALTED, withdraws
the HOME order, forgets the position and records the fault, and raises the notices of the take-back (R100, R178) and ROBOT_HALTED on a
halt.
SLOT_BLOCKED is such a fault of kind MOTION outside WORKING, and in WORKING where the robot's current point is no slot. In OFFLINE,
LOST and HALTED both reports are refused with STATE, and a kind that the rule does not list with BAD_FIELD. -/
def Obligations.RobotFaultsCountAndHalt : Prop :=
  ∀ (s : State) (k : FaultKind), s.serves .robot → s.TaskLaw → k ≠ .slotBlocked →
    let c := Instr.faultReport (proper .robot) k none
    (s.link.state = .offline ∨ s.link.state = .lost ∨ s.link.state = .halted →
      (∃ t, exec c s = .next t ∧ RefusedWith s t .robot .fault .state) ∧
      ∃ t, exec (.slotBlocked (proper .robot) none) s = .next t ∧ RefusedWith s t .robot .fault .state) ∧
    (∃ t, exec (.faultReport { port := .robot, form := .badName } k none) s = .next t ∧
      RefusedWith s t .robot .fault .badField) ∧
    (s.link.state = .idle ∨ s.link.state = .unhomed ∨ s.link.state = .recovery ∨ s.link.state = .working →
      let u := if s.link.state = .working then s.takeBack else s
      let n := min 3 (s.link.faults + 1)
      let l : LinkState := if s.link.state = .recovery ∨ 3 ≤ n then .halted else .recovery
      let after (kind : FaultKind) : State := { u with link := { u.link with
        state := l, faults := n, homeOrder := none, position := none
        lastFault := some ⟨kind, s.clock.minute, s.out.map TaskRecord.kind⟩ } }
      let answer : ResultCode := if (s.out.map TaskRecord.state) = some .aborting then .abort else .ok
      let taken (c : Instr) (kind : FaultKind) : Prop := ∃ t, exec c s = .next t ∧ t.inside = (after kind).inside ∧
        Served s t .robot .fault ⟨answer, .empty⟩ (s.takeBackNotices ++ if l = .halted then [(.management, .robotHalted)] else [])
      taken c k ∧
      (∀ v, v ∈ s.tasks → v.queued = false → taken (.faultReport (proper .robot) k (some ⟨v.number, v.issue⟩)) k) ∧
      (s.link.state ≠ .working → taken (.slotBlocked (proper .robot) none) .motion) ∧
      (∀ (v : TaskRecord) (ref : Option TaskRef), v ∈ s.tasks → v.queued = false →
        (ref = none ∨ ref = some ⟨v.number, v.issue⟩) →
        (v.kind = .movement .place ∧ v.phase = some .beforePick) ∨
          (v.isMovement = true ∧ v.phase = some .carried ∧ (v.destination = some .infeed ∨ v.destination = some .outfeed)) ∨
          (∃ g, v.kind = .survey ∧ v.range = some g ∧ g.next = none) →
        taken (.slotBlocked (proper .robot) ref) .motion))

/-- (1) R113, R114, R120: SLOT_BLOCKED at the board of a care task, at the source of a BEFORE_PICK MOVE or REMOVE or at the next
position of a survey makes an OCCUPIED board SUSPECT, records BLOCKED, ends the task FAILED(BLOCKED), or ABORTED when it was
ABORTING, and leaves the link IDLE at the board with its fault count. (2) R70, R113, R114, R131, R132: a SLOT_BLOCKED at the drop of
a CARRIED PLACE or MOVE puts the board in doubt, records it, and retargets intent and task to the separate return slot, or to a
PARK, under the next issue number with a renewed deadline and the verify flag set. That the entry of a RESERVED board carries the
reservation's handle (log entry 30) and that the flag is set where the task was issued again with it clear (log entry 35) are the
model's readings. -/
def Obligations.BlockedBoardsAreAnswered : Prop :=
  (∀ (s : State) (v : TaskRecord) (p : Coord) (ref : Option TaskRef), s.serves .robot → s.TaskLaw → v ∈ s.tasks →
     v.queued = false → (ref = none ∨ ref = some ⟨v.number, v.issue⟩) →
     (v.isCare = true ∧ v.place = .board p) ∨
       ((v.kind = .movement .move ∨ v.kind = .movement .remove) ∧ v.phase = some .beforePick ∧ v.place = .board p) ∨
       (∃ g n, v.kind = .survey ∧ v.range = some g ∧ g.next = some n ∧
         p = { v.place.coord s with position := n }) →
     let b : State := { s with link := { s.link with position := some p } }
     let noted := (match s.slot p with
       | .occupied w => b.makeSuspect p (some w)
       | _ => b).record .blocked (some p) (s.slot p).handle none
     let ending : Ending := if v.state = .aborting then .aborted else .failed .blocked
     let e := noted.ended v ending .idle (some p) s.link.faults
     ∃ t, exec (.slotBlocked (proper .robot) ref) s = .next t ∧ t.inside = e.inside ∧
       Served s t .robot .fault ⟨if v.state = .aborting then .abort else .ok, .empty⟩
         (s.recordNotice ++ s.endNotices v ending ++ e.availableNow)) ∧
  (∀ (s : State) (v : TaskRecord) (w : Nat) (x : Wheel) (i : Intent) (d : Coord) (ref : Option TaskRef), s.serves .robot →
     s.TaskLaw → v ∈ s.tasks → v.state = .issued → (ref = none ∨ ref = some ⟨v.number, v.issue⟩) → v.isMovement = true →
     v.phase = some .carried → v.destination = some (.slot d) → v.wheel = some w → s.wheel w = some x → x.intent = some i →
     i.phase = .carried →
     ∀ (i' : Intent) (place : TaskPlace),
       (∃ r, i.kind = .move ∧ i.returnSlot = some r ∧ r ≠ d ∧ place = .board r ∧
         i' = { i with destination := .slot r, retargeted := true }) ∨
       ((i.kind = .place ∨ (i.kind = .move ∧ i.returnSlot = some d)) ∧ place = .infeed ∧
         i' = { kind := .park, destination := .infeed, retargeted := true, returnSlot := none, phase := .carried
                status := .active }) →
       let n := (s.dispatch.lastIssue[v.number] + 1) % 256
       let noted := (s.makeSuspect d none).record .blocked (some d) none none
       ∃ t y, exec (.slotBlocked (proper .robot) ref) s = .next t ∧
         t.inside = { (noted.changeWheel w fun z => { z with intent := some i' }).inside with
           tasks := noted.tasks.map fun z =>
             let z' := if z.isMovement && z.wheel == some w then
                 { z with kind := .movement i'.kind, phase := some .carried, place := place, destination := some i'.destination }
               else z
             if z'.number = v.number then { z' with issue := n } else z'
           dispatch := { s.dispatch with lastIssue := s.dispatch.lastIssue.set v.number n }
           link := { s.link with
             position := some d, verified := true
             deadline := some s.config.robot.allowances[(TaskKind.movement i'.kind).index] } } ∧
         y = { v with kind := .movement i'.kind, phase := some .carried, place := place
                      destination := some i'.destination, issue := n } ∧ y ∈ t.tasks ∧
         Served s t .robot .fault ⟨.ok, .work (t.workOf y)⟩ s.recordNotice)

/-- R99, R117 to R119: an expiry granted while its count still stands at 0 takes back the task, or withdraws the HOME order, and leaves
the link LOST at no known position, with the notices of the take-back (R100, R178) and ROBOT_LOST raised; any other is void. -/
def Obligations.ExpiriesLoseTheRobot : Prop :=
  ∀ s : State, s.supply.state = .running → s.TaskLaw →
    (s.link.deadline = some 0 → s.link.state = .working →
      ∃ t, exec .taskDeadlineExpiry s = .next t ∧ t.arbiter = s.granted .taskDeadline ∧
        PortsAlone s t (s.takeBackNotices ++ [(.management, .robotLost)]) ∧
        t.inside = { s.takeBack.inside with link := { s.takeBack.link with state := .lost, position := none } }) ∧
    (s.link.deadline ≠ some 0 ∨ s.link.state ≠ .working →
      exec .taskDeadlineExpiry s = .next { s with arbiter := s.granted .taskDeadline }) ∧
    (s.link.homeOrder = some 0 → s.link.state = .unhomed ∨ s.link.state = .recovery →
      ∃ t, exec .homeOrderExpiry s = .next t ∧ t.arbiter = s.granted .homeDeadline ∧
        PortsAlone s t [(.management, .robotLost)] ∧
        t.inside = { s.inside with link := { s.link with homeOrder := none, state := .lost, position := none } }) ∧
    (s.link.homeOrder ≠ some 0 ∨ (s.link.state ≠ .unhomed ∧ s.link.state ≠ .recovery) →
      exec .homeOrderExpiry s = .next { s with arbiter := s.granted .homeDeadline })

/-- R91, R97, R99, R101 to R103, R116: READY judged by its coordinate and the halt; taken, it takes back what was out, reconciles the
gripper, writes the position and sets the link state, or halts the link on a load the part cannot name. The notices raised are those of
the take-back (R100, R178), of the reconciliation (R134, R145), TASK_AVAILABLE when the link is IDLE afterwards and the test finds a
task to issue, and ROBOT_HALTED on a halt. The model's readings: a READY that finds IDLE and stays there runs that test too (log entry
15), and a coordinate given with position known no is taken as unknown (log entry 11). -/
def Obligations.ReadyAnnouncesTheRobot : Prop :=
  ∀ (s : State) (known : Bool) (position : Option RawCoord) (carrying : TagReport), s.serves .robot →
    let c := Instr.ready (proper .robot) known position carrying
    ((∃ r, position = some r ∧ (16 ≤ r.aisle ∨ 12 ≤ r.level ∨ 48 ≤ r.position)) ∨ (known = true ∧ position = none) →
      ∃ t, exec c s = .next t ∧ RefusedWith s t .robot .ready .badField) ∧
    ∀ p : Option Coord,
      (known = true ∧ ∃ x, p = some x ∧ position = some ⟨x.aisle, x.level, x.position⟩) ∨
        (known = false ∧ p = none ∧ ∀ r, position = some r → r.aisle < 16 ∧ r.level < 12 ∧ r.position < 48) →
      (s.link.state = .halted → ∃ t, exec c s = .next t ∧ RefusedWith s t .robot .ready .state) ∧
      (s.link.state ≠ .halted →
        let u : State := if s.link.state = .working then s.takeBack
          else if s.link.state = .unhomed ∨ s.link.state = .recovery then { s with link := { s.link with homeOrder := none } }
          else s
        let l : LinkState := if s.link.state = .recovery then .recovery else if p = none then .unhomed else .idle
        let after (load : Load) (state : LinkState) : State :=
          { u.reconcile load with link := { (u.reconcile load).link with position := p, state := state } }
        let raised (load : Load) : List (Port × Notice) :=
          (if s.link.state = .working then s.takeBackNotices else []) ++ u.reconcileNotices load
        let taken (load : Load) : Prop := ∃ t, exec c s = .next t ∧ t.inside = (after load l).inside ∧
          Served s t .robot .ready ⟨.ok, .link l⟩ (raised load ++ (after load l).availableNow)
        let halted (found : Option TagId) : Prop := ∃ t, exec c s = .next t ∧
          t.inside = (after (.unknown found) .halted).inside ∧
          Served s t .robot .ready ⟨.unknownLoad, .empty⟩ (raised (.unknown found) ++ [(.management, .robotHalted)])
        (carrying = none → taken .none) ∧
        (∀ content, carrying = some content → tagReadable content = false → halted none) ∧
        (∀ content w, carrying = some content → tagReadable content = true →
          s.tags.find (tagIdOf content).toNat = some w → taken (.wheel w (tagIdOf content))) ∧
        (∀ content, carrying = some content → tagReadable content = true →
          s.tags.find (tagIdOf content).toNat = none → halted (some (tagIdOf content))))

/-! ## Movements -/

/-- (1) R20, R27, R123: the checks of BOOK_IN, the first that fails deciding. (2) R18, R20, R26, R124: a BOOK_IN that passes its
checks makes the record under the lowest free handle, its tag index entry and its PLACE intent, reserves the slot (for AUTO the
first EMPTY one of the aisle), and offers the PLACE. -/
def Obligations.BookInIsJudgedAndMade : Prop :=
  (∀ (s : State) (tag : TagId) (batch entry cls : Nat) (slot : SlotChoice) (quarantine : Bool), s.serves .management →
     s.StoreLaw → s.ConfigLaw →
     let refuses (code : ResultCode) : Prop :=
       ∃ t, exec (.bookIn (proper .management) tag batch entry cls slot quarantine) s = .next t ∧
         RefusedWith s t .management .bookIn code
     let outside : Prop := ∃ l p, slot = .explicit l p ∧ s.outside l p
     let badField : Prop := tag = 0#48 ∨ tag = BitVec.allOnes 48 ∨ 16 ≤ cls ∨
       ∃ n : Fin 16, n.val = cls ∧ (s.config.classes[n]).valid = false
     let duplicate : Prop := s.tags.find tag.toNat ≠ none
     let full : Prop := ∀ w < Config.handles, s.wheel w ≠ none
     let barred : Prop := s.config.geometry.quarantine[(s.port .management).window.source] = true ∧ quarantine = false
     (outside ∨ badField → refuses .badField) ∧
     (¬ outside → ¬ badField → (duplicate → refuses .duplicate) ∧ (¬ duplicate → (full → refuses .full) ∧
       (¬ full → (barred → refuses .notPermitted) ∧ (¬ barred →
         (∀ c : Coord, s.reaches c → slot = .explicit c.level c.position → s.slot c ≠ .empty → refuses .state) ∧
         (slot = .auto → (∀ c : Coord, s.reaches c → s.slot c ≠ .empty) → refuses .notFound)))))) ∧
  (∀ (s : State) (tag : TagId) (batch entry : Nat) (cls : Fin 16) (slot : SlotChoice) (quarantine : Bool) (w : Nat) (c : Coord),
     s.serves .management → s.StoreLaw → tag ≠ 0#48 → tag ≠ BitVec.allOnes 48 → (s.config.classes[cls]).valid = true →
     s.tags.find tag.toNat = none → w < Config.handles → s.wheel w = none → (∀ v < w, s.wheel v ≠ none) →
     (s.config.geometry.quarantine[(s.port .management).window.source] = true → quarantine = true) →
     s.reaches c → s.slot c = .empty →
     (slot = .explicit c.level c.position ∨ (slot = .auto ∧ ∀ d : Coord, s.reaches d → s.slot d = .empty →
       c.level < d.level ∨ (c.level = d.level ∧ c.position ≤ d.position))) →
     let x : Wheel :=
       { tag := tag, batch := batch, cls := cls, entry := entry, location := .atInfeed, faceUp := .a, lastFlip := none
         lastBrush := none, flipDue := none, brushDue := none, flipCount := 0, brushCount := 0
         hold := if quarantine then .quarantine else .none, careFault := none
         intent := some { kind := .place, destination := .slot c, retargeted := false, returnSlot := none
                          phase := .beforePick, status := .pending }
         lastOutcome := none, lastSeen := none, flipMark := false, brushMark := false, moveMark := false }
     let made : State := { s with
       wheels := s.wheels.put w x, tags := s.tags.put tag.toNat w, slots := s.slots.put c.key (.reserved .destination w) }
     let task : TaskRecord := { TaskRecord.offered (.movement .place) (some w) .infeed s.clock.minute with
       destination := some (.slot c), phase := some .beforePick }
     let b := Instr.bookIn (proper .management) tag batch entry cls slot quarantine
     (∀ u n, made.offerNonCare task = some (u, n) → ∃ t, exec b s = .next t ∧ t.inside = u.inside ∧
       Served s t .management .bookIn ⟨.ok, .booked w c true⟩ u.availableNow) ∧
     (made.offerNonCare task = none → ∃ t, exec b s = .next t ∧ t.inside = made.inside ∧
       Served s t .management .bookIn ⟨.ok, .booked w c false⟩ []))

/-- (1) R125: RELOCATE judged in its order; taken, it makes a MOVE intent, reserves the destination and offers the MOVE. (2) R126:
BOOK_OUT deletes a wheel at the infeed whose PLACE, if any, is not out; makes a REMOVE of a wheel in an OCCUPIED slot with no
intent; and is refused with STATE in every other case. -/
def Obligations.RelocateAndBookOut : Prop :=
  (∀ (s : State) (a d : Coord), s.serves .management → s.reaches a →
     d.aisle = (s.port .management).window.destination → d.level.val < s.config.geometry.levels →
     d.position.val < s.config.geometry.positions →
     let c := Instr.relocate (proper .management) a.level a.position d.level d.position
     let refuses (code : ResultCode) : Prop := ∃ t, exec c s = .next t ∧ RefusedWith s t .management .relocate code
     (∀ sl sp dl dp, s.outside sl sp ∨ s.outside dl dp →
       ∃ t, exec (.relocate (proper .management) sl sp dl dp) s = .next t ∧ RefusedWith s t .management .relocate .badField) ∧
     ((∀ w, s.slot a ≠ .occupied w) → refuses .state) ∧
     ∀ w x, s.slot a = .occupied w → s.wheel w = some x →
       let barred : Prop := s.config.geometry.quarantine[d.aisle] = true ∧ x.hold ≠ .quarantine
       (x.intent ≠ none ∨ s.slot d ≠ .empty → refuses .state) ∧
       (x.intent = none → s.slot d = .empty → barred → refuses .notPermitted) ∧
       (∀ l, x.intent = none → s.slot d = .empty → ¬ barred → x.location = .inSlot l →
         let i : Intent :=
           { kind := .move, destination := .slot d, retargeted := false, returnSlot := none, phase := .beforePick
             status := .pending }
         let made := (s.changeWheel w fun y => { y with intent := some i }).setSlot d (.reserved .destination w)
         let task : TaskRecord := { TaskRecord.offered (.movement .move) (some w) (.board l) s.clock.minute with
           destination := some (.slot d), phase := some .beforePick }
         (∀ u n, made.offerNonCare task = some (u, n) → ∃ t, exec c s = .next t ∧ t.inside = u.inside ∧
           Served s t .management .relocate ⟨.ok, .moving w true⟩ u.availableNow) ∧
         (made.offerNonCare task = none → ∃ t, exec c s = .next t ∧ t.inside = made.inside ∧
           Served s t .management .relocate ⟨.ok, .moving w false⟩ []))) ∧
  (∀ (s : State) (w : Nat), s.serves .management →
     let c := Instr.bookOut (proper .management) w
     let refuses (code : ResultCode) : Prop := ∃ t, exec c s = .next t ∧ RefusedWith s t .management .bookOut code
     (Config.handles ≤ w → refuses .badField) ∧
     (w < Config.handles → s.wheel w = none → refuses .notFound) ∧
     ∀ x, w < Config.handles → s.wheel w = some x →
       let free : Prop := (∀ i, x.intent = some i → i.kind = .place) ∧ ∀ v ∈ s.tasks, v.wheel = some w → v.queued = true
       (x.location = .atInfeed → free →
         let v := s.withdrawWhere fun y => y.isMovement && y.wheel == some w
         let slots := (match x.intent with
           | some i => match i.destination with
             | .slot d => if s.slot d = SlotEntry.reserved .destination w then s.setSlot d .empty else s
             | _ => s
           | none => s).slots
         ∃ t, exec c s = .next t ∧
           t.inside = { v.inside with wheels := v.wheels.drop w, tags := s.tags.drop x.tag.toNat, slots := slots } ∧
           Served s t .management .bookOut ⟨.ok, .deleted⟩ []) ∧
       (x.location = .atInfeed → ¬ free → refuses .state) ∧
       (∀ l, x.location = .inSlot l → (∃ v, s.slot l = .occupied v) → x.intent = none →
         let i : Intent :=
           { kind := .remove, destination := .outfeed, retargeted := false, returnSlot := none, phase := .beforePick
             status := .pending }
         let made := s.changeWheel w fun y => { y with intent := some i }
         let task : TaskRecord := { TaskRecord.offered (.movement .remove) (some w) (.board l) s.clock.minute with
           destination := some .outfeed, phase := some .beforePick }
         (∀ u n, made.offerNonCare task = some (u, n) → ∃ t, exec c s = .next t ∧ t.inside = u.inside ∧
           Served s t .management .bookOut ⟨.ok, .removePending true⟩ u.availableNow) ∧
         (made.offerNonCare task = none → ∃ t, exec c s = .next t ∧ t.inside = made.inside ∧
           Served s t .management .bookOut ⟨.ok, .removePending false⟩ [])) ∧
       (∀ l, x.location = .inSlot l → (∀ v, s.slot l ≠ .occupied v) ∨ x.intent ≠ none → refuses .state) ∧
       (x.location = .inGripper ∨ x.location = .unknown → refuses .state))

/-- R20, R21, R43, R112, R128 to R130: a DONE of a CARRIED movement completes it by its kind, ends the task DONE and leaves the link
IDLE at the destination with the fault count 0. -/
def Obligations.DoneCompletesMovements : Prop :=
  ∀ (s : State) (v : TaskRecord) (w : Nat) (x : Wheel) (i : Intent) (a b : Bool), s.serves .robot → s.TaskLaw → v ∈ s.tasks →
    v.queued = false → v.isMovement = true → v.phase = some .carried → v.wheel = some w → s.wheel w = some x →
    x.intent = some i →
    let outcome : Ending := if i.retargeted then .failed .blocked else .done
    let finish (u : State) (o : Ending) : State := u.changeWheel w fun y => { y with intent := none, lastOutcome := some o }
    let placed (u : State) (d : Coord) : State :=
      ((u.setSlot d (.occupied w)).changeWheel w fun y => { y with
        location := .inSlot d
        lastFlip := if y.lastFlip = none then some s.clock.minute else y.lastFlip
        lastBrush := if y.lastFlip = none then some s.clock.minute else y.lastBrush }).computeDues w
    let returned := match i.returnSlot with
      | some r => if s.slot r = SlotEntry.reserved .putBack w then s.setSlot r .empty else s
      | none => s
    let completes (u : State) : Prop :=
      let e := u.ended v .done .idle (some (v.lastPoint s)) 0
      ∃ t, exec (.doneReport (proper .robot) ⟨v.number, v.issue⟩ a b) s = .next t ∧ t.inside = e.inside ∧
        Served s t .robot .done ⟨.ok, .empty⟩ (s.endNotices v .done ++ e.availableNow)
    (∀ d, i.kind = .place → i.destination = .slot d → completes (finish (placed s d) .done)) ∧
    (∀ d, i.kind = .move → i.destination = .slot d → completes (finish (placed returned d) outcome)) ∧
    (i.kind = .park → completes (finish (s.changeWheel w fun y => { y with location := .atInfeed }) outcome)) ∧
    (i.kind = .remove → completes { returned with wheels := s.wheels.drop w, tags := s.tags.drop x.tag.toNat })

/-- (1) R133, R134, R136, R137: reconciliation of a report that does not name the wheel in the gripper: that wheel is lost, its
reservations are released, its intent ends FAILED(LOST_LOAD) and the finding is recorded; a report that names it changes nothing.
With two wheels in the gripper, a report that names one loses the other. (2) R133, R135, R136: reconciliation of a report that names a
wheel the part holds elsewhere, with nothing else in the gripper: lifted from its slot or the infeed with its task and intent CARRIED,
or found again for a PARK. (3) R133: a report that names a wheel the part holds elsewhere while others are in the gripper: those are
lost first, as for a report of no load, which leaves the wheel named as it was, and the wheel named is then taken as (2) says. That the
entries of the lost wheels come first is the model's choice (log entry 34). -/
def Obligations.ReconciliationFollowsTheLoad : Prop :=
  (∀ s : State, s.StoreLaw →
     ((∀ v x, s.wheel v = some x → x.location ≠ .inGripper) → s.reconcile .none = s ∧
       ∀ tag, s.reconcile (.unknown tag) = s.record .gripperUnknown none none tag) ∧
     (∀ w x, s.wheel w = some x → x.location = .inGripper →
       let alone : Prop := ∀ v y, s.wheel v = some y → y.location = .inGripper → v = w
       let u := s.withdrawWhere fun y => y.isMovement && y.wheel == some w
       let released := match x.intent with
         | some i =>
           let f := match i.destination with
             | .slot d => if s.slot d = SlotEntry.reserved .destination w then u.setSlot d .empty else u
             | _ => u
           match i.returnSlot with
           | some r => if f.slot r = SlotEntry.reserved .putBack w then f.setSlot r .empty else f
           | none => f
         | none => u
       let lost := ((released.changeWheel w fun y => { y with
         location := .unknown, intent := none, lastOutcome := some (.failed .lostLoad) }).record .gripperEmpty none (some w)
           none).raise .management .moveEnded
       (alone → s.reconcile .none = lost ∧ (∀ tag, s.reconcile (.unknown tag) = lost.record .gripperUnknown none none tag) ∧
         ∀ tag, s.reconcile (.wheel w tag) = s) ∧
       ∀ v y tag, s.wheel v = some y → y.location = .inGripper → v ≠ w →
         (∀ r z, s.wheel r = some z → z.location = .inGripper → r = v ∨ r = w) → s.reconcile (.wheel v tag) = lost)) ∧
  (∀ (s : State) (w : Nat) (x : Wheel) (tag : TagId), s.StoreLaw → s.wheel w = some x →
     (∀ v y, s.wheel v = some y → y.location ≠ .inGripper) →
     let park : Intent :=
       { kind := .park, destination := .infeed, retargeted := false, returnSlot := none, phase := .carried, status := .pending }
     let lifted (u : State) (i : Intent) (place : TaskPlace) (c : Option Coord) : State :=
       let v := u.changeWheel w fun y => { y with location := .inGripper, intent := some i }
       State.record { v with tasks := v.tasks.map fun y =>
         if y.isMovement && y.wheel == some w then
           { y with kind := .movement i.kind, phase := some .carried, place := place, destination := some i.destination }
         else y } .gripperUnexpected c (some w) (some tag)
     (∀ c i, x.location = .inSlot c →
       ((∃ j, x.intent = some j ∧ (j.kind = .move ∨ j.kind = .remove) ∧ i = { j with phase := .carried, returnSlot := some c }) ∨
         (x.intent = none ∧ i = { kind := .move, destination := .slot c, retargeted := false, returnSlot := some c
                                  phase := .carried, status := .pending })) →
       s.reconcile (.wheel w tag) =
         lifted ((s.setSlot c (.reserved .putBack w)).withdrawWhere fun y => y.isCare && y.wheel == some w) i (.board c) (some c)) ∧
     (∀ i, x.location = .atInfeed →
       ((∃ j, x.intent = some j ∧ j.kind = .place ∧ i = { j with phase := .carried }) ∨ (x.intent = none ∧ i = park)) →
       s.reconcile (.wheel w tag) = lifted s i .infeed none) ∧
     (x.location = .unknown → x.intent = none →
       s.reconcile (.wheel w tag) = (s.withdrawWhere fun y => y.isMovement && y.wheel == some w).changeWheel w fun y =>
         { y with location := .inGripper, intent := some park })) ∧
  (∀ (s : State) (w : Nat) (x : Wheel) (tag : TagId), s.StoreLaw → s.wheel w = some x → x.location ≠ .inGripper →
     let u := s.reconcile .none
     u.StoreLaw ∧ u.wheel w = some x ∧ (∀ v y, u.wheel v = some y → y.location ≠ .inGripper) ∧
       s.reconcile (.wheel w tag) = u.reconcile (.wheel w tag))

/-! ## Surveys, discrepancies and resolution -/

/-- (1) R11, R65, R139: REQUEST_SURVEY judged in its order; taken, it offers a SURVEY of the range from its first position. (2) R86,
R144, R145: a board that becomes SUSPECT loses the QUEUED tasks that would work on it; a discrepancy is added at the end of the list
with the clock's minute and DISCREPANCY, or only raises DISCREPANCY_FULL when the list holds 32. (3) R146: READ_DISCREPANCY removes
and answers the oldest entry with the number left; NOT_FOUND on an empty list. -/
def Obligations.SurveysAndDiscrepanciesAreKept : Prop :=
  (∀ s : State, s.serves .management →
     (∀ (l : Fin 12) (a b : Fin 48), l.val < s.config.geometry.levels → b.val < s.config.geometry.positions → a ≤ b →
       let task : TaskRecord := { TaskRecord.offered .survey none
           (.level (s.port .management).window.source l) s.clock.minute with
         range := some ⟨a, b, some a⟩ }
       (∀ u n, s.offerNonCare task = some (u, n) → ∃ t, exec (.requestSurvey (proper .management) l a b) s = .next t ∧
         t.inside = u.inside ∧ Served s t .management .requestSurvey ⟨.ok, .survey n⟩ u.availableNow) ∧
       (s.offerNonCare task = none → ∃ t, exec (.requestSurvey (proper .management) l a b) s = .next t ∧
         RefusedWith s t .management .requestSurvey .full)) ∧
     (∀ l a b : Nat, s.config.geometry.levels ≤ l ∨ s.config.geometry.positions ≤ b ∨ b < a →
       ∃ t, exec (.requestSurvey (proper .management) l a b) s = .next t ∧
         RefusedWith s t .management .requestSurvey .badField)) ∧
  ((∀ (s : State) (c : Coord) (w : Option Nat),
     s.makeSuspect c w = (s.setSlot c (.suspect w)).withdrawWhere fun t => t.place == .board c &&
       (t.isCare || (t.phase == some .beforePick && (t.kind == .movement .move || t.kind == .movement .remove)))) ∧
   (∀ (s : State) (k : DiscrepancyKind) (c : Option Coord) (h : Option Nat) (tag : Option TagId),
     let u := s.record k c h tag
     PortsAlone s u s.recordNotice ∧ u.arbiter = s.arbiter ∧
       (s.discrepancies.length < 32 → u.inside = { s.inside with
         discrepancies := s.discrepancies ++ [⟨k, s.clock.minute, c, h, tag⟩] }) ∧
       (32 ≤ s.discrepancies.length → u.inside = s.inside))) ∧
  (∀ s : State, s.serves .management →
     (∀ d rest, s.discrepancies = d :: rest → ∃ t, exec (.readDiscrepancy (proper .management)) s = .next t ∧
       t.inside = { s.inside with discrepancies := rest } ∧
       Served s t .management .readDiscrepancy ⟨.ok, .discrepancy d rest.length⟩ []) ∧
     (s.discrepancies = [] → ∃ t, exec (.readDiscrepancy (proper .management)) s = .next t ∧
       RefusedWith s t .management .readDiscrepancy .notFound))

/-- R22, R117, R140 to R142: a SLOT_READ of the next expected position is compared with the slot by the two tables, moves the
position register, renews the deadline and advances the survey. -/
def Obligations.SlotReadsAreComparedInOrder : Prop :=
  ∀ (s : State) (v : TaskRecord) (g : SurveyRange) (n : Fin 48) (tag : TagReport), s.serves .robot → s.TaskLaw → v ∈ s.tasks →
    v.state = .issued → v.kind = .survey → v.range = some g → g.next = some n →
    let c : Coord := { v.place.coord s with position := n }
    let found := classify tag
    let names (w : Nat) : Prop := ∃ x t, s.wheel w = some x ∧ found = .readable t ∧ x.tag = t
    let seen (u : State) (w : Nat) : State := u.changeWheel w fun x => { x with lastSeen := some s.clock.minute }
    let applied (u : State) (o : SurveyOutcome) (raised : List (Port × Notice)) : Prop :=
      ∀ next, next = (if n = g.last then none else g.next.bind fun m => if h : m.val + 1 < 48 then some ⟨m.val + 1, h⟩ else none) →
        ∃ t, exec (.slotRead (proper .robot) ⟨v.number, v.issue⟩ n tag) s = .next t ∧
          t.inside = { u.inside with
            link := { s.link with position := some c, deadline := some s.config.robot.allowances[(7 : Fin 8)] }
            tasks := u.tasks.map fun x => if x.number = v.number then { x with range := some { g with next := next } } else x } ∧
          Served s t .robot .slotRead ⟨.ok, .surveyed o next⟩ raised
    (∀ w, s.slot c = .occupied w → names w → applied (seen s w) .confirmed []) ∧
    (∀ w t, s.slot c = .occupied w → ¬ names w → found = .readable t →
      applied ((s.makeSuspect c (some w)).record .mismatch (some c) (some w) (some t)) .madeSuspect s.recordNotice) ∧
    (∀ w, s.slot c = .occupied w → (∀ t, found ≠ .readable t) →
      applied ((s.makeSuspect c (some w)).record .missing (some c) (some w) none) .madeSuspect s.recordNotice) ∧
    (∀ t, s.slot c = .empty → found = .readable t →
      applied ((s.makeSuspect c none).record .unexpected (some c) none (some t)) .madeSuspect s.recordNotice) ∧
    (s.slot c = .empty → found = .unreadable →
      applied (s.record .unexpected (some c) none none) .noted s.recordNotice) ∧
    (s.slot c = .empty → found = .nothing → applied s .noChange []) ∧
    (∀ w, s.slot c = .suspect (some w) → names w → applied (seen (s.setSlot c (.occupied w)) w) .restored []) ∧
    (∀ w t, s.slot c = .suspect (some w) → ¬ names w → found = .readable t →
      applied (s.record .mismatch (some c) (some w) (some t)) .noted s.recordNotice) ∧
    (∀ w, s.slot c = .suspect (some w) → (∀ t, found ≠ .readable t) →
      applied (s.record .missing (some c) (some w) none) .noted s.recordNotice) ∧
    (s.slot c = .suspect none → found = .nothing → applied (s.setSlot c .empty) .cleared []) ∧
    (∀ t, s.slot c = .suspect none → found = .readable t →
      applied (s.record .unexpected (some c) none (some t)) .noted s.recordNotice) ∧
    (s.slot c = .suspect none → found = .unreadable →
      applied (s.record .unexpected (some c) none none) .noted s.recordNotice) ∧
    ((∃ r w, s.slot c = .reserved r w) ∨ s.slot c = .faulted → applied s .ignored [])

/-- (1) R147 to R150: RESOLVE_SLOT by its action on the board as it stands; an unlisted action is BAD_FIELD. (2) R147, R151, R152:
RESOLVE_WHEEL of an UNKNOWN wheel places it on an EMPTY board or deletes it; other wheels are refused with STATE, an unlisted action
with BAD_FIELD. -/
def Obligations.ResolutionSettlesBoardsAndWheels : Prop :=
  (∀ (s : State) (c : Coord), s.serves .management → s.reaches c →
     let answers (i : Instr) (u : State) (b : Body) : Prop := ∃ t, exec i s = .next t ∧ t.inside = u.inside ∧
       Served s t .management .resolveSlot ⟨.ok, b⟩ []
     let refuses (i : Instr) (code : ResultCode) : Prop := ∃ t, exec i s = .next t ∧
       RefusedWith s t .management .resolveSlot code
     let confirm := Instr.resolveSlotConfirm (proper .management) c.level c.position
     let clear := Instr.resolveSlotClear (proper .management) c.level c.position
     let released (u : State) (v : Nat) : State :=
       match s.wheel v with
       | none => u
       | some y => match y.intent with
         | some i => if i.phase = .beforePick ∧ (i.kind = .move ∨ i.kind = .remove) then
             (match i.destination with
               | .slot d => if u.slot d = SlotEntry.reserved .destination v then u.setSlot d .empty else u
               | _ => u).changeWheel v fun z => { z with location := .unknown, intent := none, lastOutcome := some .cancelled }
           else u.changeWheel v fun z => { z with location := .unknown }
         | none => u.changeWheel v fun z => { z with location := .unknown }
     (∀ l p a, s.outside l p →
       refuses (.resolveSlotConfirm (proper .management) l p) .badField ∧
       refuses (.resolveSlotClear (proper .management) l p) .badField ∧
       refuses (.resolveSlotAssign (proper .management) l p a) .badField) ∧
     refuses (.resolveSlotConfirm { port := .management, form := .badName } c.level c.position) .badField ∧
     (∀ w, s.slot c = .suspect (some w) → answers confirm (s.setSlot c (.occupied w)) .empty) ∧
     ((∀ w, s.slot c ≠ .suspect (some w)) → refuses confirm .state) ∧
     (s.slot c = .suspect none → answers clear (s.setSlot c .empty) .empty) ∧
     (∀ w, s.slot c = .suspect (some w) → answers clear (released (s.setSlot c .empty) w) .empty) ∧
     ((∀ w, s.slot c ≠ .suspect w) → refuses clear .state) ∧
     ∀ tag : TagId,
       let assign := Instr.resolveSlotAssign (proper .management) c.level c.position tag
       let open' : Prop := s.slot c = .empty ∨ ∃ v, s.slot c = .suspect v
       (¬ open' → refuses assign .state) ∧
       (open' → s.tags.find tag.toNat = none → refuses assign .notFound) ∧
       ∀ w x, open' → s.tags.find tag.toNat = some w → s.wheel w = some x →
         let movable : Prop := (x.location = .unknown ∨ ∃ b, x.location = .inSlot b) ∧ x.intent = none ∧
           ∀ v ∈ s.tasks, v.wheel = some w → v.queued = true
         let barred : Prop := s.config.geometry.quarantine[c.aisle] = true ∧ x.hold ≠ .quarantine
         (¬ movable → refuses assign .state) ∧
         (movable → barred → refuses assign .notPermitted) ∧
         (movable → ¬ barred → s.slot c = .suspect (some w) → answers assign (s.setSlot c (.occupied w)) (.assigned w none)) ∧
         (movable → ¬ barred → s.slot c ≠ .suspect (some w) →
           let vacated := match x.location with
             | .inSlot b => (s.withdrawWhere fun y => y.isCare && y.wheel == some w).setSlot b .empty
             | _ => s
           let placed (u : State) : State :=
             ((u.setSlot c (.occupied w)).changeWheel w fun y => { y with
               location := .inSlot c
               lastFlip := if y.lastFlip = none then some s.clock.minute else y.lastFlip
               lastBrush := if y.lastFlip = none then some s.clock.minute else y.lastBrush }).computeDues w
           (∀ v, s.slot c = .suspect (some v) → answers assign (placed (released vacated v)) (.assigned w (some v))) ∧
           (s.slot c = .empty ∨ s.slot c = .suspect none → answers assign (placed vacated) (.assigned w none)))) ∧
  (∀ (s : State) (w : Nat), s.serves .management →
     let answers (i : Instr) (u : State) : Prop := ∃ t, exec i s = .next t ∧ t.inside = u.inside ∧
       Served s t .management .resolveWheel ⟨.ok, .empty⟩ []
     let refuses (i : Instr) (code : ResultCode) : Prop := ∃ t, exec i s = .next t ∧
       RefusedWith s t .management .resolveWheel code
     let delete := Instr.resolveWheelDelete (proper .management) w
     (∀ l p, s.outside l p → refuses (.resolveWheelPlaceAt (proper .management) w l p) .badField) ∧
     (Config.handles ≤ w → refuses delete .badField ∧
       ∀ c : Coord, s.reaches c → refuses (.resolveWheelPlaceAt (proper .management) w c.level c.position) .badField) ∧
     (w < Config.handles → s.wheel w = none → refuses delete .notFound ∧
       ∀ c : Coord, s.reaches c → refuses (.resolveWheelPlaceAt (proper .management) w c.level c.position) .notFound) ∧
     ∀ x, w < Config.handles → s.wheel w = some x →
       refuses (.resolveWheelDelete { port := .management, form := .badName } w) .badField ∧
       (x.location ≠ .unknown → refuses delete .state) ∧
       (x.location = .unknown →
         answers delete { s with wheels := s.wheels.drop w, tags := s.tags.drop x.tag.toNat }) ∧
       ∀ c : Coord, s.reaches c →
         let place := Instr.resolveWheelPlaceAt (proper .management) w c.level c.position
         let barred : Prop := s.config.geometry.quarantine[c.aisle] = true ∧ x.hold ≠ .quarantine
         (x.location ≠ .unknown ∨ s.slot c ≠ .empty → refuses place .state) ∧
         (x.location = .unknown → s.slot c = .empty → barred → refuses place .notPermitted) ∧
         (x.location = .unknown → s.slot c = .empty → ¬ barred →
           answers place (((s.setSlot c (.occupied w)).changeWheel w fun y => { y with
             location := .inSlot c
             lastFlip := if y.lastFlip = none then some s.clock.minute else y.lastFlip
             lastBrush := if y.lastFlip = none then some s.clock.minute else y.lastBrush }).computeDues w)))

/-! ## Humidity -/

/-- R153 to R160: a pass start makes every reading absent and polls the heads assigned; the first whole reply in a window is its
reply; a window that closes acts on the head polled by the tables, and polls the next head or hands the pass on with the number and
sum of each zone's readings. What a pass start does that finds a pass in progress is the model's choice (log entry 9), and so is that
the state in which a head stands then decides whether it is polled and judged, also when two SENSOR writes within the pass made it OFF
and assigned it again (log entry 36). -/
def Obligations.LoopPassesPollAndJudge : Prop :=
  ∀ s : State, s.supply.state = .running →
    let off (h : Fin 24) : Prop := (s.loop.heads[h]).state = .off
    let address (h : Fin 24) : Byte := BitVec.ofNat 8 (h.val + 1)
    let poll (l : SensorLoop) (h : Fin 24) (rest : List (Fin 24)) : SensorLoop :=
      { l with lastPoll := some (address h, crc8 [address h]), pass := some ⟨h, none, rest⟩ }
    let readings (heads : Vector Head 24) (z : ZoneNumber) : List Nat := (List.finRange 24).filterMap fun h =>
      if s.config.sensor.assignment[h] = some z then (heads[h]).reading else none
    let handOn (l : SensorLoop) : SensorLoop := { l with
      pass := none
      handed := l.handed ++ [Vector.ofFn fun z => ⟨(readings l.heads z).length, (readings l.heads z).sum⟩] }
    let asks : Arbiter := { s.arbiter with asked := s.arbiter.asked ++ [.zoneUpdate] }
    (s.loop.startsDue = 0 → exec .loopPassStart s = .next s) ∧
    (∀ n, s.loop.startsDue = n + 1 →
      let list := (List.finRange 24).filter fun h => (s.config.sensor.assignment[h]).isSome
      let l : SensorLoop := { s.loop with startsDue := n, heads := s.loop.heads.map fun x => { x with reading := none } }
      (∀ skipped h rest, list = skipped ++ h :: rest → (∀ x ∈ skipped, off x) → ¬ off h →
        exec .loopPassStart s = .next { s with loop := poll l h rest }) ∧
      ((∀ h ∈ list, off h) → exec .loopPassStart s = .next { s with loop := handOn l, arbiter := asks })) ∧
    (∀ bytes : Vector Byte 5,
      (∀ p, s.loop.pass = some p → p.reply = none →
        exec (.loopReply bytes) s = .next { s with loop := { s.loop with pass := some { p with reply := some bytes } } }) ∧
      ((∀ p, s.loop.pass = some p → p.reply ≠ none) → exec (.loopReply bytes) s = .next s)) ∧
    (s.loop.pass = none → exec .replyWindowClose s = .next s) ∧
    (∀ p, s.loop.pass = some p →
      let x := s.loop.heads[p.polled]
      let good (b : Vector Byte 5) : Prop := crc8 [b[0], b[1], b[2], b[3]] = b[4] ∧ b[0] = address p.polled
      let ok (r : Nat) : Prop := ∃ b, p.reply = some b ∧ good b ∧ b[1] = 0x00#8 ∧ r = min 1000 (b[2].toNat * 256 + b[3].toNat)
      let warming : Prop := ∃ b, p.reply = some b ∧ good b ∧ b[1] = 0x01#8
      let fault : Prop := ∃ b, p.reply = some b ∧ good b ∧ b[1] = 0x02#8
      ∀ y : Head,
        (x.state = .off ∧ y = x) ∨
        (x.state ≠ .off ∧
          ((∃ r, ok r ∧ y = ⟨.active, 0, if x.state = .active then some r else x.reading⟩) ∨
           (warming ∧ y = { x with misses := 0 }) ∨
           (fault ∧ y = { x with state := .faulty, misses := 0 }) ∨
           ((∀ r, ¬ ok r) ∧ ¬ warming ∧ ¬ fault ∧ y = { x with
              misses := min 3 (x.misses + 1), state := if 3 ≤ x.misses + 1 then .missing else x.state }))) →
        let l : SensorLoop := { s.loop with heads := s.loop.heads.set p.polled y }
        let raised : List (Port × Notice) :=
          if y.state ≠ x.state ∧ (y.state = .missing ∨ y.state = .faulty) then [(.climate, .headMissing)] else []
        let idle (h : Fin 24) : Prop := (l.heads[h]).state = .off
        (∀ skipped h rest, p.rest = skipped ++ h :: rest → (∀ v ∈ skipped, idle v) → ¬ idle h →
          ∃ t, exec .replyWindowClose s = .next t ∧ t.inside = { s.inside with loop := poll l h rest } ∧
            t.arbiter = s.arbiter ∧ PortsAlone s t raised) ∧
        ((∀ h ∈ p.rest, idle h) → ∃ t, exec .replyWindowClose s = .next t ∧ t.inside = { s.inside with loop := handOn l } ∧
          t.arbiter = asks ∧ PortsAlone s t raised))

/-- R163 to R165, R168 to R170, R173: the end-of-pass update of one zone: what a pass without readings and a LIVE update make of its
humidity, its alarm machine by the table, its unacknowledged flag and its capture. -/
def Obligations.ZonesAreUpdatedByTheRules : Prop :=
  ∀ (z : Zone) (l : ZoneLimits) (now : Nat) (r : ZoneReadings),
    let y := z.update l now r
    let alarming (a : AlarmState) : Bool := a == .lowAlarm || a == .highAlarm
    (r.count = 0 →
      let lost : Prop := (z.humidity = .live ∨ z.humidity = .holding) ∧ l.hold ≤ z.holdCount
      (lost → y = { z with humidity := .lost, alarm := .normal, dwell := 0, unacked := z.unacked || alarming z.alarm }) ∧
      (¬ lost → y = { z with humidity := if z.humidity = .live then .holding else z.humidity })) ∧
    (0 < r.count →
      let raw := (r.sum + r.count / 2) / r.count
      let hf := match z.filtered with
        | some h => if z.humidity = .live ∨ z.humidity = .holding then
            ((h : Int) + Int.tdiv ((raw : Int) - h) (2 ^ l.shift)).toNat else raw
        | none => raw
      let x : Sample := ⟨now, raw, hf, r.count⟩
      y = { z with
        humidity := .live, raw := some raw, filtered := some hf, holdCount := 0, alarm := y.alarm, dwell := y.dwell
        unacked := z.unacked || (y.alarm != z.alarm && (alarming y.alarm || alarming z.alarm))
        ring := if z.capture = .off then z.ring else if z.ring.length < 32 then z.ring ++ [x] else z.ring.tail ++ [x]
        overrun := z.overrun || (z.capture != .off && decide (32 ≤ z.ring.length))
        capture := match z.capture with
          | .counted n => if n ≤ 1 then .off else .counted (n - 1)
          | m => m } ∧
      (z.alarm = .normal → hf < l.lo → y.dwell = 1 ∧ y.alarm = if l.dwell = 1 then .lowAlarm else .lowWatch) ∧
      (z.alarm = .normal → l.lo ≤ hf → l.hi < hf → y.dwell = 1 ∧ y.alarm = if l.dwell = 1 then .highAlarm else .highWatch) ∧
      (z.alarm = .normal → l.lo ≤ hf → hf ≤ l.hi → y.dwell = 0 ∧ y.alarm = .normal) ∧
      (z.alarm = .lowWatch → hf < l.lo → y.dwell = min 30 (z.dwell + 1) ∧
        y.alarm = if l.dwell ≤ y.dwell then .lowAlarm else .lowWatch) ∧
      (z.alarm = .lowWatch → l.lo ≤ hf → y.dwell = 0 ∧ y.alarm = .normal) ∧
      (z.alarm = .lowAlarm → l.lo + l.hy ≤ hf → y.dwell = 0 ∧ y.alarm = .normal) ∧
      (z.alarm = .lowAlarm → hf < l.lo + l.hy → y.dwell = z.dwell ∧ y.alarm = .lowAlarm) ∧
      (z.alarm = .highWatch → l.hi < hf → y.dwell = min 30 (z.dwell + 1) ∧
        y.alarm = if l.dwell ≤ y.dwell then .highAlarm else .highWatch) ∧
      (z.alarm = .highWatch → hf ≤ l.hi → y.dwell = 0 ∧ y.alarm = .normal) ∧
      (z.alarm = .highAlarm → (hf : Int) ≤ (l.hi : Int) - l.hy → y.dwell = 0 ∧ y.alarm = .normal) ∧
      (z.alarm = .highAlarm → (l.hi : Int) - l.hy < hf → y.dwell = z.dwell ∧ y.alarm = .highAlarm))

/-- R164, R170, R171, R173: ZONE_UPDATE takes the oldest pass handed on and, in one grant, updates all eight zones, raises the
notices of their changes, withdraws the QUEUED BRUSHes of zones that enter LOW_ALARM, and runs the TASK_AVAILABLE test when an alarm
state changed; with no pass handed on it does nothing (model: log entry 10). -/
def Obligations.ZoneUpdateIsOneGrant : Prop :=
  ∀ s : State, s.supply.state = .running →
    (s.loop.handed = [] → exec .zoneUpdate s = .next { s with arbiter := s.granted .zoneUpdate }) ∧
    (∀ p rest, s.TaskLaw → s.loop.handed = p :: rest →
      let after : Vector Zone 8 := Vector.ofFn fun z : Fin 8 => (s.zone z).update s.config.zones[z] s.clock.minute p[z]
      let alarming (a : AlarmState) : Bool := a == .lowAlarm || a == .highAlarm
      let v : State := { s with loop := { s.loop with handed := rest }, zones := after }
      let u := v.withdrawWhere fun t => t.kind == .brush && v.inLowAlarm t && !s.inLowAlarm t
      ∃ t, exec .zoneUpdate s = .next t ∧ t.arbiter = s.granted .zoneUpdate ∧ t.inside = u.inside ∧
        PortsAlone s t
          ((if ∃ z : ZoneNumber, (s.zone z).humidity ≠ .lost ∧ (after[z]).humidity = .lost then [(.climate, .sensorLost)] else []) ++
           (if ∃ z : ZoneNumber, (after[z]).alarm ≠ (s.zone z).alarm ∧
                (alarming (after[z]).alarm = true ∨ alarming (s.zone z).alarm = true) then
              [(.climate, .zoneAlarm), (.management, .zoneAlarm)] else []) ++
           (if ∃ z : ZoneNumber, 0 < (p[z]).count ∧ (s.zone z).capture ≠ .off ∧ 32 ≤ (s.zone z).ring.length then
              [(.climate, .captureOverrun)] else []) ++
           (if ∃ z : ZoneNumber, (s.zone z).capture ≠ .off ∧ (after[z]).capture = .off then [(.climate, .captureDone)] else []) ++
           (if ∃ z : ZoneNumber, (after[z]).alarm ≠ (s.zone z).alarm then u.availableNow else [])))

/-- (1) R167, R187: SET_ZONE_LIMITS, and a ZONE section written by WRITE_CONFIG, are judged in their order: BUSY while a save is in
flight, the zone, the clamps, the ranges, the band; taken, they replace all seven fields and answer what is stored. (2) R170, R174,
R175: ACK_ZONE clears the unacknowledged flag; START_CAPTURE empties the ring and sets the mode, STOP_CAPTURE sets it OFF and keeps
the ring, READ_CAPTURE takes the oldest samples; a zone above 7 or a count out of range is BAD_FIELD. -/
def Obligations.LimitsCapturesAndAcknowledgements : Prop :=
  (∀ (s : State) (p : Port) (n : Nat) (l : RawLimits) (c : Instr) (k : RequestKind), p ≠ .robot → s.serves p →
     (c = .setZoneLimits (proper p) n l ∧ k = .setZoneLimits) ∨
       (p = .management ∧ c = .writeConfigZone (proper p) n l ∧ k = .writeConfig) →
     let refuses (code : ResultCode) : Prop := ∃ t, exec c s = .next t ∧ RefusedWith s t p k code
     let stored : ZoneLimits := ⟨l.lo, l.hi, min 50 l.hy, max 1 (min 30 l.dwell), l.boost, l.hold, l.shift⟩
     let stands : Prop := l.lo ≤ 1000 ∧ l.hi ≤ 1000 ∧ l.boost ≤ 4095 ∧ l.hold ≤ 720 ∧ l.shift ≤ 4 ∧
       (l.lo : Int) + stored.hy ≤ (l.hi : Int) - stored.hy
     (s.memory.saving ≠ none → refuses .busy) ∧
     (s.memory.saving = none → 8 ≤ n ∨ ¬ stands → refuses .badField) ∧
     ∀ z : ZoneNumber, s.memory.saving = none → n = z.val → stands →
       ∃ t, exec c s = .next t ∧
         t.inside = { s.inside with config := { s.config with zones := s.config.zones.set z stored } } ∧
         Served s t p k ⟨.ok, .limits stored⟩ []) ∧
  (∀ (s : State) (p : Port), p ≠ .robot → s.serves p →
     let takes (c : Instr) (k : RequestKind) (z : ZoneNumber) (y : Zone) (b : Body) : Prop :=
       ∃ t, exec c s = .next t ∧ t.inside = { s.inside with zones := s.zones.set z y } ∧ Served s t p k ⟨.ok, b⟩ []
     let refuses (c : Instr) (k : RequestKind) : Prop := ∃ t, exec c s = .next t ∧ RefusedWith s t p k .badField
     (∀ z : ZoneNumber,
       let x := s.zone z
       takes (.ackZone (proper p) z) .ackZone z { x with unacked := false } .empty ∧
       takes (.startCapture (proper p) z 0) .startCapture z { x with ring := [], overrun := false, capture := .continuous } .empty ∧
       (∀ n, 1 ≤ n → n ≤ 255 → takes (.startCapture (proper p) z n) .startCapture z
         { x with ring := [], overrun := false, capture := .counted n } .empty) ∧
       (∀ n, 255 < n → refuses (.startCapture (proper p) z n) .startCapture) ∧
       takes (.stopCapture (proper p) z) .stopCapture z { x with capture := .off } .empty ∧
       (∀ n, 1 ≤ n → n ≤ 6 → takes (.readCapture (proper p) z n) .readCapture z { x with ring := x.ring.drop n }
         (.capture (x.ring.take n) (x.ring.length - n) x.capture x.overrun)) ∧
       ∀ n, n = 0 ∨ 6 < n → refuses (.readCapture (proper p) z n) .readCapture) ∧
     ∀ z n, 8 ≤ z → refuses (.ackZone (proper p) z) .ackZone ∧ refuses (.startCapture (proper p) z n) .startCapture ∧
       refuses (.stopCapture (proper p) z) .stopCapture ∧ refuses (.readCapture (proper p) z n) .readCapture)

/-- R177, R179: REQUEST_EXCLUSION by the zone's exclusion and presence mark, its minutes clamped to 1 to 240; END_EXCLUSION and the
ending grant make an exclusion NONE, raise EXCLUSION_ENDED and run the TASK_AVAILABLE test; an ending grant that finds no ACTIVE
exclusion with 0 remaining does nothing. -/
def Obligations.ExclusionsAreGrantedAndEnded : Prop :=
  (∀ (s : State) (z : ZoneNumber) (m : Nat), s.serves .climate →
    let n := max 1 (min 240 m)
    let answers (x : Exclusion) (code : ResultCode) : Prop := ∃ t, exec (.requestExclusion (proper .climate) z m) s = .next t ∧
      t.inside = (s.changeZone z fun r => { r with exclusion := x }).inside ∧
      Served s t .climate .requestExclusion ⟨code, .empty⟩ []
    ((s.zone z).exclusion = .none → (s.zone z).presence = false → answers (.active n) .granted) ∧
    ((s.zone z).exclusion = .none → (s.zone z).presence = true → answers (.pending n) .pending) ∧
    (∀ q, (s.zone z).exclusion = .pending q → (s.zone z).presence = true → answers (.pending n) .pending) ∧
    ∀ q, (s.zone z).exclusion = .active q → answers (.active (max q n)) .granted) ∧
  (∀ (s : State) (n m : Nat), s.serves .climate → 8 ≤ n →
    ∃ t, exec (.requestExclusion (proper .climate) n m) s = .next t ∧ RefusedWith s t .climate .requestExclusion .badField) ∧
  (∀ (s : State) (p : Port), p ≠ .robot → s.serves p →
    (∀ z : ZoneNumber,
      let u := s.changeZone z fun r => { r with exclusion := .none }
      ((s.zone z).exclusion ≠ .none → ∃ t, exec (.endExclusion (proper p) z) s = .next t ∧ t.inside = u.inside ∧
        Served s t p .endExclusion ⟨.ok, .empty⟩ ((.climate, .exclusionEnded) :: u.availableNow)) ∧
      ((s.zone z).exclusion = .none → ∃ t, exec (.endExclusion (proper p) z) s = .next t ∧
        RefusedWith s t p .endExclusion .state)) ∧
    ∀ n, 8 ≤ n → ∃ t, exec (.endExclusion (proper p) n) s = .next t ∧ RefusedWith s t p .endExclusion .badField) ∧
  (∀ (s : State) (z : ZoneNumber), s.supply.state = .running →
    let u := s.changeZone z fun r => { r with exclusion := .none }
    ((s.zone z).exclusion = .active 0 → ∃ t, exec (.exclusionEnding z) s = .next t ∧ t.arbiter = s.granted (.exclusionEnd z) ∧
      t.inside = u.inside ∧ PortsAlone s t ((.climate, .exclusionEnded) :: u.availableNow)) ∧
    ((s.zone z).exclusion ≠ .active 0 →
      exec (.exclusionEnding z) s = .next { s with arbiter := s.granted (.exclusionEnd z) }))

/-! ## Saving and starts -/

/-- R182, R188: SAVE_CONFIG copies the working configuration, marks the store invalid and stays outstanding; the save's completion
writes the image and is answered OK, or leaves the store invalid and is answered SAVE_FAILED. That a failed save leaves the image as
it was is the model's choice (log entry 7), and that the answer waits with its request while an earlier one stands in the transmitter
its reading (log entry 4). -/
def Obligations.SavesCopyAndComplete : Prop :=
  (∀ s : State, s.serves .management →
    ∃ t, exec (.saveConfig (proper .management)) s = .next t ∧
      t.inside = { s.inside with memory := { s.memory with valid := false, saving := some s.config } } ∧
      GrantedTo s t .management ∧ (∀ q, q ≠ .management → t.port q = s.port q) ∧
      t.port .management = { s.port .management with
        rx := (s.port .management).rxAfter, outstanding := some .saving }) ∧
  (∀ (s : State) (equal : Bool), s.supply.state = .running →
    (s.memory.saving = none → exec (.saveComplete equal) s = .next s) ∧
    ∀ c, s.memory.saving = some c →
      let reply : Reply := ⟨if equal then .ok else .saveFailed, .empty⟩
      exec (.saveComplete equal) s = .next (State.setPort
        { s with memory := { s.memory with
            image := if equal then c else s.memory.image
            valid := equal, saving := none, lastSave := some (if equal then .ok else .failed) } } .management
        (if ∃ x ∈ (s.port .management).tx, x.place = .answer then
          { s.port .management with outstanding := some (.answered RequestKind.saveConfig.code reply) }
        else { s.port .management with
          outstanding := none, tx := (s.port .management).tx ++ [⟨RequestKind.saveConfig.code, reply, .answer⟩] })))

/-- R2, R10, R36, R42, R53, R94, R138, R157, R158, R182, R189, R191: what a start makes of the state, out of retention with
retention kept or lost, and by the reset line: the tables kept or cleared, the configuration loaded and settled, every block at its
reset values, the start notices, and the first loop pass begun. -/
def Obligations.StartsClassifyLoadAndReset : Prop :=
  ∀ (s : State) (i : StartInputs) (c : Instr) (lost : Bool),
    (s.supply.state = .retention ∧ c = .mainSupplyReturn i ∧ lost = !s.supply.intact) ∨
      (s.supply.state = .running ∧ c = .resetLine i ∧ lost = false) →
    let wheels : Table Wheel := if lost then [] else s.wheels
    let stored := s.memory.valid && i.imageCrc
    let loaded : Configuration := if stored then s.memory.image else Configuration.default
    let geometry : Geometry := if wheels = [] then loaded.geometry else s.retainedGeometry
    let classes : Vector CareClass 16 := Vector.ofFn fun n : Fin 16 =>
      if ∃ e ∈ wheels, e.2.cls = n then s.retainedProfiles[n] else loaded.classes[n]
    let config : Configuration := { loaded with geometry := geometry, classes := classes }
    let assigned (h : Fin 24) : Bool := (config.sensor.assignment[h]).isSome
    let heads : Vector Head 24 := Vector.ofFn fun h : Fin 24 => ⟨if assigned h = true then HeadState.probing else .off, 0, none⟩
    let port (p : Port) (fast : Bool) (notices : List Notice) : PortRecord :=
      { window := ⟨0, 0⟩, notices := notices, mask := portNotices p, rx := [], outstanding := none, tx := []
        baud := if fast then .b115200 else .b57600 }
    ∃ t, exec c s = .next t ∧
      t = { s with
        clock := if lost then ⟨0, true⟩ else s.clock
        supply := { s.supply with state := .running, intact := true }
        slots := if lost = true ∨ (wheels = [] ∧ loaded.geometry ≠ s.retainedGeometry) then [] else s.slots
        wheels := wheels.map fun e => (e.1, { e.2 with
          intent := e.2.intent.map fun j => { j with status := .pending }
          flipMark := false, brushMark := false, moveMark := false })
        tags := if lost then [] else s.tags
        tasks := []
        discrepancies := if lost then [] else s.discrepancies
        retainedGeometry := geometry
        retainedProfiles := classes
        lastSurvey := none
        dispatch := { paused := false, sequence := 0, lastIssue := Vector.replicate 64 0 }
        link := { state := .offline, position := none, faults := 0, lastFault := none, verified := false, issuedTag := none
                  deadline := none, homeOrder := none }
        sweep := { running := true, cursor := 0, passCount := 0, owed := false, late := false, timer := 0, boundaries := 0 }
        loop := { t.loop with timer := 0, startsDue := 0, heads := heads }
        zones := Vector.replicate 8
          { humidity := .unseen, raw := none, filtered := none, holdCount := 0, alarm := .normal, dwell := 0, unacked := false
            capture := .off, ring := [], overrun := false, exclusion := .none, presence := false }
        config := config
        memory := { s.memory with saving := none, lastSave := none, source := if stored then .stored else .defaults }
        ports := ⟨port .management i.managementFast ([.restarted] ++ (if lost then [.inventoryLost] else []) ++
            (if stored then [] else [.configDefaulted]) ++ if lost then [.clockUnset] else []),
          port .robot i.robotFast [], port .climate i.climateFast []⟩
        arbiter := ⟨.sweep, 0, t.arbiter.asked⟩ } ∧
      (∀ h rest, (List.finRange 24).filter assigned = h :: rest →
        t.loop.pass = some ⟨h, none, rest⟩ ∧ t.loop.handed = [] ∧ t.arbiter.asked = [] ∧
          t.loop.lastPoll = some (BitVec.ofNat 8 (h.val + 1), crc8 [BitVec.ofNat 8 (h.val + 1)])) ∧
      ((∀ h, assigned h = false) → t.loop.pass = none ∧ t.loop.lastPoll = none ∧ t.arbiter.asked = [.zoneUpdate] ∧
        t.loop.handed = [Vector.replicate 8 ⟨0, 0⟩])

/-- The state after reset is the one the first power-on start leaves (R190, R191; the strap inputs and the rest of log entries 6 and
25 are the model's), and it meets every law. -/
def Obligations.ResetIsTheFirstStart : Prop :=
  (∀ s : State, s.supply = ⟨.retention, false, false⟩ → s.memory = State.reset.memory → s.pending = [] →
    exec (.mainSupplyReturn ⟨false, false, false, false⟩) s = .next State.reset) ∧
  State.reset.StoreLaw ∧ State.reset.TaskLaw ∧ State.reset.ConfigLaw ∧ State.reset.PortLaw ∧ State.reset.HumidityLaw ∧
  State.reset.InventoryLaw ∧ State.reset.QuarantineLaw

/-! ## The laws -/

/-- R6, R10, R18, R24, R26, R144: no step breaks the Table Store's law, whatever command it runs. -/
def Obligations.StepsKeepTheStore : Prop :=
  ∀ s t : State, s.StoreLaw → step s = .next t → t.StoreLaw

/-- R62, R67 to R69, R95, R176: no step breaks the task list's law. -/
def Obligations.StepsKeepTheTaskList : Prop :=
  ∀ s t : State, s.TaskLaw → step s = .next t → t.TaskLaw

/-- R1, R2, R37, R39, R42, R54, R156, R167, R187: no step takes a configuration out of its ranges, parts the retained copies from
the working ones, or leaves a wheel in an invalid class. -/
def Obligations.StepsKeepTheConfiguration : Prop :=
  ∀ s t : State, s.ConfigLaw → step s = .next t → t.ConfigLaw

/-- R158, R160, R162, R166, R177, R182, R185: no step breaks the law of the ports, or the ranges of zones, heads and readings. -/
def Obligations.StepsKeepPortsAndHumidity : Prop :=
  (∀ s t : State, s.PortLaw → step s = .next t → t.PortLaw) ∧
  (∀ s t : State, s.HumidityLaw → step s = .next t → t.HumidityLaw)

/-- R6, R19, R23, R121, R122: no step parts the slot map, the wheels' locations, their intents, their marks and the task list from
one another. -/
def Obligations.StepsKeepTheInventory : Prop :=
  ∀ s t : State, s.StoreLaw → s.TaskLaw → s.ConfigLaw → s.InventoryLaw → step s = .next t → t.InventoryLaw

/-- 02 section 2.5: no step takes the QUARANTINE hold from a wheel in or bound for a quarantine aisle, or brings a wheel without it
there. -/
def Obligations.StepsKeepQuarantine : Prop :=
  ∀ s t : State, s.StoreLaw → s.TaskLaw → s.ConfigLaw → s.InventoryLaw → s.QuarantineLaw → step s = .next t → t.QuarantineLaw
end

