-- ==== Sys2Proof/Laws/State.lean ====
section
/-! SUPPORT. What each named update of the state leaves alone: one lemma for each field, so that no later proof unfolds an update. -/

namespace Sys2Proof.Machine

set_option Elab.async false

variable (s : State)

/-! ## Plain updates -/

@[simp] theorem State.setPort_clock (p : Port) (r : PortRecord) : (s.setPort p r).clock = s.clock := rfl
@[simp] theorem State.setPort_supply (p : Port) (r : PortRecord) : (s.setPort p r).supply = s.supply := rfl
@[simp] theorem State.setPort_slots (p : Port) (r : PortRecord) : (s.setPort p r).slots = s.slots := rfl
@[simp] theorem State.setPort_wheels (p : Port) (r : PortRecord) : (s.setPort p r).wheels = s.wheels := rfl
@[simp] theorem State.setPort_tags (p : Port) (r : PortRecord) : (s.setPort p r).tags = s.tags := rfl
@[simp] theorem State.setPort_tasks (p : Port) (r : PortRecord) : (s.setPort p r).tasks = s.tasks := rfl
@[simp] theorem State.setPort_discrepancies (p : Port) (r : PortRecord) : (s.setPort p r).discrepancies = s.discrepancies := rfl
@[simp] theorem State.setPort_retainedGeometry (p : Port) (r : PortRecord) : (s.setPort p r).retainedGeometry = s.retainedGeometry := rfl
@[simp] theorem State.setPort_retainedProfiles (p : Port) (r : PortRecord) : (s.setPort p r).retainedProfiles = s.retainedProfiles := rfl
@[simp] theorem State.setPort_lastSurvey (p : Port) (r : PortRecord) : (s.setPort p r).lastSurvey = s.lastSurvey := rfl
@[simp] theorem State.setPort_dispatch (p : Port) (r : PortRecord) : (s.setPort p r).dispatch = s.dispatch := rfl
@[simp] theorem State.setPort_link (p : Port) (r : PortRecord) : (s.setPort p r).link = s.link := rfl
@[simp] theorem State.setPort_sweep (p : Port) (r : PortRecord) : (s.setPort p r).sweep = s.sweep := rfl
@[simp] theorem State.setPort_loop (p : Port) (r : PortRecord) : (s.setPort p r).loop = s.loop := rfl
@[simp] theorem State.setPort_zones (p : Port) (r : PortRecord) : (s.setPort p r).zones = s.zones := rfl
@[simp] theorem State.setPort_config (p : Port) (r : PortRecord) : (s.setPort p r).config = s.config := rfl
@[simp] theorem State.setPort_memory (p : Port) (r : PortRecord) : (s.setPort p r).memory = s.memory := rfl
@[simp] theorem State.setPort_arbiter (p : Port) (r : PortRecord) : (s.setPort p r).arbiter = s.arbiter := rfl
@[simp] theorem State.setPort_pending (p : Port) (r : PortRecord) : (s.setPort p r).pending = s.pending := rfl
@[simp] theorem State.setPort_ports (p : Port) (r : PortRecord) : (s.setPort p r).ports = s.ports.set p r := rfl

@[simp] theorem State.raise_clock (p : Port) (n : Notice) : (s.raise p n).clock = s.clock := rfl
@[simp] theorem State.raise_supply (p : Port) (n : Notice) : (s.raise p n).supply = s.supply := rfl
@[simp] theorem State.raise_slots (p : Port) (n : Notice) : (s.raise p n).slots = s.slots := rfl
@[simp] theorem State.raise_wheels (p : Port) (n : Notice) : (s.raise p n).wheels = s.wheels := rfl
@[simp] theorem State.raise_tags (p : Port) (n : Notice) : (s.raise p n).tags = s.tags := rfl
@[simp] theorem State.raise_tasks (p : Port) (n : Notice) : (s.raise p n).tasks = s.tasks := rfl
@[simp] theorem State.raise_discrepancies (p : Port) (n : Notice) : (s.raise p n).discrepancies = s.discrepancies := rfl
@[simp] theorem State.raise_retainedGeometry (p : Port) (n : Notice) : (s.raise p n).retainedGeometry = s.retainedGeometry := rfl
@[simp] theorem State.raise_retainedProfiles (p : Port) (n : Notice) : (s.raise p n).retainedProfiles = s.retainedProfiles := rfl
@[simp] theorem State.raise_lastSurvey (p : Port) (n : Notice) : (s.raise p n).lastSurvey = s.lastSurvey := rfl
@[simp] theorem State.raise_dispatch (p : Port) (n : Notice) : (s.raise p n).dispatch = s.dispatch := rfl
@[simp] theorem State.raise_link (p : Port) (n : Notice) : (s.raise p n).link = s.link := rfl
@[simp] theorem State.raise_sweep (p : Port) (n : Notice) : (s.raise p n).sweep = s.sweep := rfl
@[simp] theorem State.raise_loop (p : Port) (n : Notice) : (s.raise p n).loop = s.loop := rfl
@[simp] theorem State.raise_zones (p : Port) (n : Notice) : (s.raise p n).zones = s.zones := rfl
@[simp] theorem State.raise_config (p : Port) (n : Notice) : (s.raise p n).config = s.config := rfl
@[simp] theorem State.raise_memory (p : Port) (n : Notice) : (s.raise p n).memory = s.memory := rfl
@[simp] theorem State.raise_arbiter (p : Port) (n : Notice) : (s.raise p n).arbiter = s.arbiter := rfl
@[simp] theorem State.raise_pending (p : Port) (n : Notice) : (s.raise p n).pending = s.pending := rfl
@[simp] theorem State.raise_ports (p : Port) (n : Notice) : (s.raise p n).ports = s.ports.set p { s.port p with notices := placeNotice p n (s.port p).notices } := rfl

@[simp] theorem State.setSlot_clock (c : Coord) (e : SlotEntry) : (s.setSlot c e).clock = s.clock := rfl
@[simp] theorem State.setSlot_supply (c : Coord) (e : SlotEntry) : (s.setSlot c e).supply = s.supply := rfl
@[simp] theorem State.setSlot_wheels (c : Coord) (e : SlotEntry) : (s.setSlot c e).wheels = s.wheels := rfl
@[simp] theorem State.setSlot_tags (c : Coord) (e : SlotEntry) : (s.setSlot c e).tags = s.tags := rfl
@[simp] theorem State.setSlot_tasks (c : Coord) (e : SlotEntry) : (s.setSlot c e).tasks = s.tasks := rfl
@[simp] theorem State.setSlot_discrepancies (c : Coord) (e : SlotEntry) : (s.setSlot c e).discrepancies = s.discrepancies := rfl
@[simp] theorem State.setSlot_retainedGeometry (c : Coord) (e : SlotEntry) : (s.setSlot c e).retainedGeometry = s.retainedGeometry := rfl
@[simp] theorem State.setSlot_retainedProfiles (c : Coord) (e : SlotEntry) : (s.setSlot c e).retainedProfiles = s.retainedProfiles := rfl
@[simp] theorem State.setSlot_lastSurvey (c : Coord) (e : SlotEntry) : (s.setSlot c e).lastSurvey = s.lastSurvey := rfl
@[simp] theorem State.setSlot_dispatch (c : Coord) (e : SlotEntry) : (s.setSlot c e).dispatch = s.dispatch := rfl
@[simp] theorem State.setSlot_link (c : Coord) (e : SlotEntry) : (s.setSlot c e).link = s.link := rfl
@[simp] theorem State.setSlot_sweep (c : Coord) (e : SlotEntry) : (s.setSlot c e).sweep = s.sweep := rfl
@[simp] theorem State.setSlot_loop (c : Coord) (e : SlotEntry) : (s.setSlot c e).loop = s.loop := rfl
@[simp] theorem State.setSlot_zones (c : Coord) (e : SlotEntry) : (s.setSlot c e).zones = s.zones := rfl
@[simp] theorem State.setSlot_config (c : Coord) (e : SlotEntry) : (s.setSlot c e).config = s.config := rfl
@[simp] theorem State.setSlot_memory (c : Coord) (e : SlotEntry) : (s.setSlot c e).memory = s.memory := rfl
@[simp] theorem State.setSlot_ports (c : Coord) (e : SlotEntry) : (s.setSlot c e).ports = s.ports := rfl
@[simp] theorem State.setSlot_arbiter (c : Coord) (e : SlotEntry) : (s.setSlot c e).arbiter = s.arbiter := rfl
@[simp] theorem State.setSlot_pending (c : Coord) (e : SlotEntry) : (s.setSlot c e).pending = s.pending := rfl
@[simp] theorem State.setSlot_slots (c : Coord) (e : SlotEntry) : (s.setSlot c e).slots = if e = .empty then s.slots.drop c.key else s.slots.put c.key e := rfl

@[simp] theorem State.changeWheel_clock (w : Nat) (f : Wheel → Wheel) : (s.changeWheel w f).clock = s.clock := rfl
@[simp] theorem State.changeWheel_supply (w : Nat) (f : Wheel → Wheel) : (s.changeWheel w f).supply = s.supply := rfl
@[simp] theorem State.changeWheel_slots (w : Nat) (f : Wheel → Wheel) : (s.changeWheel w f).slots = s.slots := rfl
@[simp] theorem State.changeWheel_tags (w : Nat) (f : Wheel → Wheel) : (s.changeWheel w f).tags = s.tags := rfl
@[simp] theorem State.changeWheel_tasks (w : Nat) (f : Wheel → Wheel) : (s.changeWheel w f).tasks = s.tasks := rfl
@[simp] theorem State.changeWheel_discrepancies (w : Nat) (f : Wheel → Wheel) : (s.changeWheel w f).discrepancies = s.discrepancies := rfl
@[simp] theorem State.changeWheel_retainedGeometry (w : Nat) (f : Wheel → Wheel) : (s.changeWheel w f).retainedGeometry = s.retainedGeometry := rfl
@[simp] theorem State.changeWheel_retainedProfiles (w : Nat) (f : Wheel → Wheel) : (s.changeWheel w f).retainedProfiles = s.retainedProfiles := rfl
@[simp] theorem State.changeWheel_lastSurvey (w : Nat) (f : Wheel → Wheel) : (s.changeWheel w f).lastSurvey = s.lastSurvey := rfl
@[simp] theorem State.changeWheel_dispatch (w : Nat) (f : Wheel → Wheel) : (s.changeWheel w f).dispatch = s.dispatch := rfl
@[simp] theorem State.changeWheel_link (w : Nat) (f : Wheel → Wheel) : (s.changeWheel w f).link = s.link := rfl
@[simp] theorem State.changeWheel_sweep (w : Nat) (f : Wheel → Wheel) : (s.changeWheel w f).sweep = s.sweep := rfl
@[simp] theorem State.changeWheel_loop (w : Nat) (f : Wheel → Wheel) : (s.changeWheel w f).loop = s.loop := rfl
@[simp] theorem State.changeWheel_zones (w : Nat) (f : Wheel → Wheel) : (s.changeWheel w f).zones = s.zones := rfl
@[simp] theorem State.changeWheel_config (w : Nat) (f : Wheel → Wheel) : (s.changeWheel w f).config = s.config := rfl
@[simp] theorem State.changeWheel_memory (w : Nat) (f : Wheel → Wheel) : (s.changeWheel w f).memory = s.memory := rfl
@[simp] theorem State.changeWheel_ports (w : Nat) (f : Wheel → Wheel) : (s.changeWheel w f).ports = s.ports := rfl
@[simp] theorem State.changeWheel_arbiter (w : Nat) (f : Wheel → Wheel) : (s.changeWheel w f).arbiter = s.arbiter := rfl
@[simp] theorem State.changeWheel_pending (w : Nat) (f : Wheel → Wheel) : (s.changeWheel w f).pending = s.pending := rfl
@[simp] theorem State.changeWheel_wheels (w : Nat) (f : Wheel → Wheel) : (s.changeWheel w f).wheels = s.wheels.change w f := rfl

@[simp] theorem State.createWheel_clock (w : Nat) (x : Wheel) : (s.createWheel w x).clock = s.clock := rfl
@[simp] theorem State.createWheel_supply (w : Nat) (x : Wheel) : (s.createWheel w x).supply = s.supply := rfl
@[simp] theorem State.createWheel_slots (w : Nat) (x : Wheel) : (s.createWheel w x).slots = s.slots := rfl
@[simp] theorem State.createWheel_tasks (w : Nat) (x : Wheel) : (s.createWheel w x).tasks = s.tasks := rfl
@[simp] theorem State.createWheel_discrepancies (w : Nat) (x : Wheel) : (s.createWheel w x).discrepancies = s.discrepancies := rfl
@[simp] theorem State.createWheel_retainedGeometry (w : Nat) (x : Wheel) : (s.createWheel w x).retainedGeometry = s.retainedGeometry := rfl
@[simp] theorem State.createWheel_retainedProfiles (w : Nat) (x : Wheel) : (s.createWheel w x).retainedProfiles = s.retainedProfiles := rfl
@[simp] theorem State.createWheel_lastSurvey (w : Nat) (x : Wheel) : (s.createWheel w x).lastSurvey = s.lastSurvey := rfl
@[simp] theorem State.createWheel_dispatch (w : Nat) (x : Wheel) : (s.createWheel w x).dispatch = s.dispatch := rfl
@[simp] theorem State.createWheel_link (w : Nat) (x : Wheel) : (s.createWheel w x).link = s.link := rfl
@[simp] theorem State.createWheel_sweep (w : Nat) (x : Wheel) : (s.createWheel w x).sweep = s.sweep := rfl
@[simp] theorem State.createWheel_loop (w : Nat) (x : Wheel) : (s.createWheel w x).loop = s.loop := rfl
@[simp] theorem State.createWheel_zones (w : Nat) (x : Wheel) : (s.createWheel w x).zones = s.zones := rfl
@[simp] theorem State.createWheel_config (w : Nat) (x : Wheel) : (s.createWheel w x).config = s.config := rfl
@[simp] theorem State.createWheel_memory (w : Nat) (x : Wheel) : (s.createWheel w x).memory = s.memory := rfl
@[simp] theorem State.createWheel_ports (w : Nat) (x : Wheel) : (s.createWheel w x).ports = s.ports := rfl
@[simp] theorem State.createWheel_arbiter (w : Nat) (x : Wheel) : (s.createWheel w x).arbiter = s.arbiter := rfl
@[simp] theorem State.createWheel_pending (w : Nat) (x : Wheel) : (s.createWheel w x).pending = s.pending := rfl

@[simp] theorem State.changeZone_clock (z : ZoneNumber) (f : Zone → Zone) : (s.changeZone z f).clock = s.clock := rfl
@[simp] theorem State.changeZone_supply (z : ZoneNumber) (f : Zone → Zone) : (s.changeZone z f).supply = s.supply := rfl
@[simp] theorem State.changeZone_slots (z : ZoneNumber) (f : Zone → Zone) : (s.changeZone z f).slots = s.slots := rfl
@[simp] theorem State.changeZone_wheels (z : ZoneNumber) (f : Zone → Zone) : (s.changeZone z f).wheels = s.wheels := rfl
@[simp] theorem State.changeZone_tags (z : ZoneNumber) (f : Zone → Zone) : (s.changeZone z f).tags = s.tags := rfl
@[simp] theorem State.changeZone_tasks (z : ZoneNumber) (f : Zone → Zone) : (s.changeZone z f).tasks = s.tasks := rfl
@[simp] theorem State.changeZone_discrepancies (z : ZoneNumber) (f : Zone → Zone) : (s.changeZone z f).discrepancies = s.discrepancies := rfl
@[simp] theorem State.changeZone_retainedGeometry (z : ZoneNumber) (f : Zone → Zone) : (s.changeZone z f).retainedGeometry = s.retainedGeometry := rfl
@[simp] theorem State.changeZone_retainedProfiles (z : ZoneNumber) (f : Zone → Zone) : (s.changeZone z f).retainedProfiles = s.retainedProfiles := rfl
@[simp] theorem State.changeZone_lastSurvey (z : ZoneNumber) (f : Zone → Zone) : (s.changeZone z f).lastSurvey = s.lastSurvey := rfl
@[simp] theorem State.changeZone_dispatch (z : ZoneNumber) (f : Zone → Zone) : (s.changeZone z f).dispatch = s.dispatch := rfl
@[simp] theorem State.changeZone_link (z : ZoneNumber) (f : Zone → Zone) : (s.changeZone z f).link = s.link := rfl
@[simp] theorem State.changeZone_sweep (z : ZoneNumber) (f : Zone → Zone) : (s.changeZone z f).sweep = s.sweep := rfl
@[simp] theorem State.changeZone_loop (z : ZoneNumber) (f : Zone → Zone) : (s.changeZone z f).loop = s.loop := rfl
@[simp] theorem State.changeZone_config (z : ZoneNumber) (f : Zone → Zone) : (s.changeZone z f).config = s.config := rfl
@[simp] theorem State.changeZone_memory (z : ZoneNumber) (f : Zone → Zone) : (s.changeZone z f).memory = s.memory := rfl
@[simp] theorem State.changeZone_ports (z : ZoneNumber) (f : Zone → Zone) : (s.changeZone z f).ports = s.ports := rfl
@[simp] theorem State.changeZone_arbiter (z : ZoneNumber) (f : Zone → Zone) : (s.changeZone z f).arbiter = s.arbiter := rfl
@[simp] theorem State.changeZone_pending (z : ZoneNumber) (f : Zone → Zone) : (s.changeZone z f).pending = s.pending := rfl
@[simp] theorem State.changeZone_zones (z : ZoneNumber) (f : Zone → Zone) : (s.changeZone z f).zones = s.zones.set z (f s.zones[z]) := rfl

@[simp] theorem State.changeTask_clock (n : Fin 64) (f : TaskRecord → TaskRecord) : (s.changeTask n f).clock = s.clock := rfl
@[simp] theorem State.changeTask_supply (n : Fin 64) (f : TaskRecord → TaskRecord) : (s.changeTask n f).supply = s.supply := rfl
@[simp] theorem State.changeTask_slots (n : Fin 64) (f : TaskRecord → TaskRecord) : (s.changeTask n f).slots = s.slots := rfl
@[simp] theorem State.changeTask_wheels (n : Fin 64) (f : TaskRecord → TaskRecord) : (s.changeTask n f).wheels = s.wheels := rfl
@[simp] theorem State.changeTask_tags (n : Fin 64) (f : TaskRecord → TaskRecord) : (s.changeTask n f).tags = s.tags := rfl
@[simp] theorem State.changeTask_discrepancies (n : Fin 64) (f : TaskRecord → TaskRecord) : (s.changeTask n f).discrepancies = s.discrepancies := rfl
@[simp] theorem State.changeTask_retainedGeometry (n : Fin 64) (f : TaskRecord → TaskRecord) : (s.changeTask n f).retainedGeometry = s.retainedGeometry := rfl
@[simp] theorem State.changeTask_retainedProfiles (n : Fin 64) (f : TaskRecord → TaskRecord) : (s.changeTask n f).retainedProfiles = s.retainedProfiles := rfl
@[simp] theorem State.changeTask_lastSurvey (n : Fin 64) (f : TaskRecord → TaskRecord) : (s.changeTask n f).lastSurvey = s.lastSurvey := rfl
@[simp] theorem State.changeTask_dispatch (n : Fin 64) (f : TaskRecord → TaskRecord) : (s.changeTask n f).dispatch = s.dispatch := rfl
@[simp] theorem State.changeTask_link (n : Fin 64) (f : TaskRecord → TaskRecord) : (s.changeTask n f).link = s.link := rfl
@[simp] theorem State.changeTask_sweep (n : Fin 64) (f : TaskRecord → TaskRecord) : (s.changeTask n f).sweep = s.sweep := rfl
@[simp] theorem State.changeTask_loop (n : Fin 64) (f : TaskRecord → TaskRecord) : (s.changeTask n f).loop = s.loop := rfl
@[simp] theorem State.changeTask_zones (n : Fin 64) (f : TaskRecord → TaskRecord) : (s.changeTask n f).zones = s.zones := rfl
@[simp] theorem State.changeTask_config (n : Fin 64) (f : TaskRecord → TaskRecord) : (s.changeTask n f).config = s.config := rfl
@[simp] theorem State.changeTask_memory (n : Fin 64) (f : TaskRecord → TaskRecord) : (s.changeTask n f).memory = s.memory := rfl
@[simp] theorem State.changeTask_ports (n : Fin 64) (f : TaskRecord → TaskRecord) : (s.changeTask n f).ports = s.ports := rfl
@[simp] theorem State.changeTask_arbiter (n : Fin 64) (f : TaskRecord → TaskRecord) : (s.changeTask n f).arbiter = s.arbiter := rfl
@[simp] theorem State.changeTask_pending (n : Fin 64) (f : TaskRecord → TaskRecord) : (s.changeTask n f).pending = s.pending := rfl
@[simp] theorem State.changeTask_tasks (n : Fin 64) (f : TaskRecord → TaskRecord) : (s.changeTask n f).tasks = s.tasks.map fun t => if t.number = n then f t else t := rfl

@[simp] theorem State.hunt_clock (p : Port) : (s.hunt p).clock = s.clock := rfl
@[simp] theorem State.hunt_supply (p : Port) : (s.hunt p).supply = s.supply := rfl
@[simp] theorem State.hunt_slots (p : Port) : (s.hunt p).slots = s.slots := rfl
@[simp] theorem State.hunt_wheels (p : Port) : (s.hunt p).wheels = s.wheels := rfl
@[simp] theorem State.hunt_tags (p : Port) : (s.hunt p).tags = s.tags := rfl
@[simp] theorem State.hunt_tasks (p : Port) : (s.hunt p).tasks = s.tasks := rfl
@[simp] theorem State.hunt_discrepancies (p : Port) : (s.hunt p).discrepancies = s.discrepancies := rfl
@[simp] theorem State.hunt_retainedGeometry (p : Port) : (s.hunt p).retainedGeometry = s.retainedGeometry := rfl
@[simp] theorem State.hunt_retainedProfiles (p : Port) : (s.hunt p).retainedProfiles = s.retainedProfiles := rfl
@[simp] theorem State.hunt_lastSurvey (p : Port) : (s.hunt p).lastSurvey = s.lastSurvey := rfl
@[simp] theorem State.hunt_dispatch (p : Port) : (s.hunt p).dispatch = s.dispatch := rfl
@[simp] theorem State.hunt_link (p : Port) : (s.hunt p).link = s.link := rfl
@[simp] theorem State.hunt_sweep (p : Port) : (s.hunt p).sweep = s.sweep := rfl
@[simp] theorem State.hunt_loop (p : Port) : (s.hunt p).loop = s.loop := rfl
@[simp] theorem State.hunt_zones (p : Port) : (s.hunt p).zones = s.zones := rfl
@[simp] theorem State.hunt_config (p : Port) : (s.hunt p).config = s.config := rfl
@[simp] theorem State.hunt_memory (p : Port) : (s.hunt p).memory = s.memory := rfl
@[simp] theorem State.hunt_arbiter (p : Port) : (s.hunt p).arbiter = s.arbiter := rfl
@[simp] theorem State.hunt_pending (p : Port) : (s.hunt p).pending = s.pending := rfl

@[simp] theorem State.received_clock (p : Port) : (s.received p).clock = s.clock := rfl
@[simp] theorem State.received_supply (p : Port) : (s.received p).supply = s.supply := rfl
@[simp] theorem State.received_slots (p : Port) : (s.received p).slots = s.slots := rfl
@[simp] theorem State.received_wheels (p : Port) : (s.received p).wheels = s.wheels := rfl
@[simp] theorem State.received_tags (p : Port) : (s.received p).tags = s.tags := rfl
@[simp] theorem State.received_tasks (p : Port) : (s.received p).tasks = s.tasks := rfl
@[simp] theorem State.received_discrepancies (p : Port) : (s.received p).discrepancies = s.discrepancies := rfl
@[simp] theorem State.received_retainedGeometry (p : Port) : (s.received p).retainedGeometry = s.retainedGeometry := rfl
@[simp] theorem State.received_retainedProfiles (p : Port) : (s.received p).retainedProfiles = s.retainedProfiles := rfl
@[simp] theorem State.received_lastSurvey (p : Port) : (s.received p).lastSurvey = s.lastSurvey := rfl
@[simp] theorem State.received_dispatch (p : Port) : (s.received p).dispatch = s.dispatch := rfl
@[simp] theorem State.received_link (p : Port) : (s.received p).link = s.link := rfl
@[simp] theorem State.received_sweep (p : Port) : (s.received p).sweep = s.sweep := rfl
@[simp] theorem State.received_loop (p : Port) : (s.received p).loop = s.loop := rfl
@[simp] theorem State.received_zones (p : Port) : (s.received p).zones = s.zones := rfl
@[simp] theorem State.received_config (p : Port) : (s.received p).config = s.config := rfl
@[simp] theorem State.received_memory (p : Port) : (s.received p).memory = s.memory := rfl
@[simp] theorem State.received_arbiter (p : Port) : (s.received p).arbiter = s.arbiter := rfl
@[simp] theorem State.received_pending (p : Port) : (s.received p).pending = s.pending := rfl

@[simp] theorem State.answer_clock (p : Port) (k : Nat) (r : Reply) : (s.answer p k r).clock = s.clock := rfl
@[simp] theorem State.answer_supply (p : Port) (k : Nat) (r : Reply) : (s.answer p k r).supply = s.supply := rfl
@[simp] theorem State.answer_slots (p : Port) (k : Nat) (r : Reply) : (s.answer p k r).slots = s.slots := rfl
@[simp] theorem State.answer_wheels (p : Port) (k : Nat) (r : Reply) : (s.answer p k r).wheels = s.wheels := rfl
@[simp] theorem State.answer_tags (p : Port) (k : Nat) (r : Reply) : (s.answer p k r).tags = s.tags := rfl
@[simp] theorem State.answer_tasks (p : Port) (k : Nat) (r : Reply) : (s.answer p k r).tasks = s.tasks := rfl
@[simp] theorem State.answer_discrepancies (p : Port) (k : Nat) (r : Reply) : (s.answer p k r).discrepancies = s.discrepancies := rfl
@[simp] theorem State.answer_retainedGeometry (p : Port) (k : Nat) (r : Reply) : (s.answer p k r).retainedGeometry = s.retainedGeometry := rfl
@[simp] theorem State.answer_retainedProfiles (p : Port) (k : Nat) (r : Reply) : (s.answer p k r).retainedProfiles = s.retainedProfiles := rfl
@[simp] theorem State.answer_lastSurvey (p : Port) (k : Nat) (r : Reply) : (s.answer p k r).lastSurvey = s.lastSurvey := rfl
@[simp] theorem State.answer_dispatch (p : Port) (k : Nat) (r : Reply) : (s.answer p k r).dispatch = s.dispatch := rfl
@[simp] theorem State.answer_link (p : Port) (k : Nat) (r : Reply) : (s.answer p k r).link = s.link := rfl
@[simp] theorem State.answer_sweep (p : Port) (k : Nat) (r : Reply) : (s.answer p k r).sweep = s.sweep := rfl
@[simp] theorem State.answer_loop (p : Port) (k : Nat) (r : Reply) : (s.answer p k r).loop = s.loop := rfl
@[simp] theorem State.answer_zones (p : Port) (k : Nat) (r : Reply) : (s.answer p k r).zones = s.zones := rfl
@[simp] theorem State.answer_config (p : Port) (k : Nat) (r : Reply) : (s.answer p k r).config = s.config := rfl
@[simp] theorem State.answer_memory (p : Port) (k : Nat) (r : Reply) : (s.answer p k r).memory = s.memory := rfl
@[simp] theorem State.answer_arbiter (p : Port) (k : Nat) (r : Reply) : (s.answer p k r).arbiter = s.arbiter := rfl
@[simp] theorem State.answer_pending (p : Port) (k : Nat) (r : Reply) : (s.answer p k r).pending = s.pending := rfl

@[simp] theorem State.answerBusy_clock (p : Port) (k : Nat) : (s.answerBusy p k).clock = s.clock := rfl
@[simp] theorem State.answerBusy_supply (p : Port) (k : Nat) : (s.answerBusy p k).supply = s.supply := rfl
@[simp] theorem State.answerBusy_slots (p : Port) (k : Nat) : (s.answerBusy p k).slots = s.slots := rfl
@[simp] theorem State.answerBusy_wheels (p : Port) (k : Nat) : (s.answerBusy p k).wheels = s.wheels := rfl
@[simp] theorem State.answerBusy_tags (p : Port) (k : Nat) : (s.answerBusy p k).tags = s.tags := rfl
@[simp] theorem State.answerBusy_tasks (p : Port) (k : Nat) : (s.answerBusy p k).tasks = s.tasks := rfl
@[simp] theorem State.answerBusy_discrepancies (p : Port) (k : Nat) : (s.answerBusy p k).discrepancies = s.discrepancies := rfl
@[simp] theorem State.answerBusy_retainedGeometry (p : Port) (k : Nat) : (s.answerBusy p k).retainedGeometry = s.retainedGeometry := rfl
@[simp] theorem State.answerBusy_retainedProfiles (p : Port) (k : Nat) : (s.answerBusy p k).retainedProfiles = s.retainedProfiles := rfl
@[simp] theorem State.answerBusy_lastSurvey (p : Port) (k : Nat) : (s.answerBusy p k).lastSurvey = s.lastSurvey := rfl
@[simp] theorem State.answerBusy_dispatch (p : Port) (k : Nat) : (s.answerBusy p k).dispatch = s.dispatch := rfl
@[simp] theorem State.answerBusy_link (p : Port) (k : Nat) : (s.answerBusy p k).link = s.link := rfl
@[simp] theorem State.answerBusy_sweep (p : Port) (k : Nat) : (s.answerBusy p k).sweep = s.sweep := rfl
@[simp] theorem State.answerBusy_loop (p : Port) (k : Nat) : (s.answerBusy p k).loop = s.loop := rfl
@[simp] theorem State.answerBusy_zones (p : Port) (k : Nat) : (s.answerBusy p k).zones = s.zones := rfl
@[simp] theorem State.answerBusy_config (p : Port) (k : Nat) : (s.answerBusy p k).config = s.config := rfl
@[simp] theorem State.answerBusy_memory (p : Port) (k : Nat) : (s.answerBusy p k).memory = s.memory := rfl
@[simp] theorem State.answerBusy_arbiter (p : Port) (k : Nat) : (s.answerBusy p k).arbiter = s.arbiter := rfl
@[simp] theorem State.answerBusy_pending (p : Port) (k : Nat) : (s.answerBusy p k).pending = s.pending := rfl

@[simp] theorem State.passSweep_clock : (s.passSweep).clock = s.clock := rfl
@[simp] theorem State.passSweep_supply : (s.passSweep).supply = s.supply := rfl
@[simp] theorem State.passSweep_slots : (s.passSweep).slots = s.slots := rfl
@[simp] theorem State.passSweep_wheels : (s.passSweep).wheels = s.wheels := rfl
@[simp] theorem State.passSweep_tags : (s.passSweep).tags = s.tags := rfl
@[simp] theorem State.passSweep_tasks : (s.passSweep).tasks = s.tasks := rfl
@[simp] theorem State.passSweep_discrepancies : (s.passSweep).discrepancies = s.discrepancies := rfl
@[simp] theorem State.passSweep_retainedGeometry : (s.passSweep).retainedGeometry = s.retainedGeometry := rfl
@[simp] theorem State.passSweep_retainedProfiles : (s.passSweep).retainedProfiles = s.retainedProfiles := rfl
@[simp] theorem State.passSweep_lastSurvey : (s.passSweep).lastSurvey = s.lastSurvey := rfl
@[simp] theorem State.passSweep_dispatch : (s.passSweep).dispatch = s.dispatch := rfl
@[simp] theorem State.passSweep_link : (s.passSweep).link = s.link := rfl
@[simp] theorem State.passSweep_sweep : (s.passSweep).sweep = s.sweep := rfl
@[simp] theorem State.passSweep_loop : (s.passSweep).loop = s.loop := rfl
@[simp] theorem State.passSweep_zones : (s.passSweep).zones = s.zones := rfl
@[simp] theorem State.passSweep_config : (s.passSweep).config = s.config := rfl
@[simp] theorem State.passSweep_memory : (s.passSweep).memory = s.memory := rfl
@[simp] theorem State.passSweep_ports : (s.passSweep).ports = s.ports := rfl
@[simp] theorem State.passSweep_pending : (s.passSweep).pending = s.pending := rfl

@[simp] theorem State.grantPort_clock (p : Port) : (s.grantPort p).clock = s.clock := rfl
@[simp] theorem State.grantPort_supply (p : Port) : (s.grantPort p).supply = s.supply := rfl
@[simp] theorem State.grantPort_slots (p : Port) : (s.grantPort p).slots = s.slots := rfl
@[simp] theorem State.grantPort_wheels (p : Port) : (s.grantPort p).wheels = s.wheels := rfl
@[simp] theorem State.grantPort_tags (p : Port) : (s.grantPort p).tags = s.tags := rfl
@[simp] theorem State.grantPort_tasks (p : Port) : (s.grantPort p).tasks = s.tasks := rfl
@[simp] theorem State.grantPort_discrepancies (p : Port) : (s.grantPort p).discrepancies = s.discrepancies := rfl
@[simp] theorem State.grantPort_retainedGeometry (p : Port) : (s.grantPort p).retainedGeometry = s.retainedGeometry := rfl
@[simp] theorem State.grantPort_retainedProfiles (p : Port) : (s.grantPort p).retainedProfiles = s.retainedProfiles := rfl
@[simp] theorem State.grantPort_lastSurvey (p : Port) : (s.grantPort p).lastSurvey = s.lastSurvey := rfl
@[simp] theorem State.grantPort_dispatch (p : Port) : (s.grantPort p).dispatch = s.dispatch := rfl
@[simp] theorem State.grantPort_link (p : Port) : (s.grantPort p).link = s.link := rfl
@[simp] theorem State.grantPort_sweep (p : Port) : (s.grantPort p).sweep = s.sweep := rfl
@[simp] theorem State.grantPort_loop (p : Port) : (s.grantPort p).loop = s.loop := rfl
@[simp] theorem State.grantPort_zones (p : Port) : (s.grantPort p).zones = s.zones := rfl
@[simp] theorem State.grantPort_config (p : Port) : (s.grantPort p).config = s.config := rfl
@[simp] theorem State.grantPort_memory (p : Port) : (s.grantPort p).memory = s.memory := rfl
@[simp] theorem State.grantPort_ports (p : Port) : (s.grantPort p).ports = s.ports := rfl
@[simp] theorem State.grantPort_pending (p : Port) : (s.grantPort p).pending = s.pending := rfl

@[simp] theorem State.grantSweep_clock : (s.grantSweep).clock = s.clock := rfl
@[simp] theorem State.grantSweep_supply : (s.grantSweep).supply = s.supply := rfl
@[simp] theorem State.grantSweep_slots : (s.grantSweep).slots = s.slots := rfl
@[simp] theorem State.grantSweep_wheels : (s.grantSweep).wheels = s.wheels := rfl
@[simp] theorem State.grantSweep_tags : (s.grantSweep).tags = s.tags := rfl
@[simp] theorem State.grantSweep_tasks : (s.grantSweep).tasks = s.tasks := rfl
@[simp] theorem State.grantSweep_discrepancies : (s.grantSweep).discrepancies = s.discrepancies := rfl
@[simp] theorem State.grantSweep_retainedGeometry : (s.grantSweep).retainedGeometry = s.retainedGeometry := rfl
@[simp] theorem State.grantSweep_retainedProfiles : (s.grantSweep).retainedProfiles = s.retainedProfiles := rfl
@[simp] theorem State.grantSweep_lastSurvey : (s.grantSweep).lastSurvey = s.lastSurvey := rfl
@[simp] theorem State.grantSweep_dispatch : (s.grantSweep).dispatch = s.dispatch := rfl
@[simp] theorem State.grantSweep_link : (s.grantSweep).link = s.link := rfl
@[simp] theorem State.grantSweep_sweep : (s.grantSweep).sweep = s.sweep := rfl
@[simp] theorem State.grantSweep_loop : (s.grantSweep).loop = s.loop := rfl
@[simp] theorem State.grantSweep_zones : (s.grantSweep).zones = s.zones := rfl
@[simp] theorem State.grantSweep_config : (s.grantSweep).config = s.config := rfl
@[simp] theorem State.grantSweep_memory : (s.grantSweep).memory = s.memory := rfl
@[simp] theorem State.grantSweep_ports : (s.grantSweep).ports = s.ports := rfl
@[simp] theorem State.grantSweep_pending : (s.grantSweep).pending = s.pending := rfl
@[simp] theorem State.grantSweep_arbiter  : (s.grantSweep ).arbiter = { s.arbiter with cycleLast := .sweep, passedOver := 0 } := rfl

@[simp] theorem State.ask_clock (i : InternalRequest) : (s.ask i).clock = s.clock := rfl
@[simp] theorem State.ask_supply (i : InternalRequest) : (s.ask i).supply = s.supply := rfl
@[simp] theorem State.ask_slots (i : InternalRequest) : (s.ask i).slots = s.slots := rfl
@[simp] theorem State.ask_wheels (i : InternalRequest) : (s.ask i).wheels = s.wheels := rfl
@[simp] theorem State.ask_tags (i : InternalRequest) : (s.ask i).tags = s.tags := rfl
@[simp] theorem State.ask_tasks (i : InternalRequest) : (s.ask i).tasks = s.tasks := rfl
@[simp] theorem State.ask_discrepancies (i : InternalRequest) : (s.ask i).discrepancies = s.discrepancies := rfl
@[simp] theorem State.ask_retainedGeometry (i : InternalRequest) : (s.ask i).retainedGeometry = s.retainedGeometry := rfl
@[simp] theorem State.ask_retainedProfiles (i : InternalRequest) : (s.ask i).retainedProfiles = s.retainedProfiles := rfl
@[simp] theorem State.ask_lastSurvey (i : InternalRequest) : (s.ask i).lastSurvey = s.lastSurvey := rfl
@[simp] theorem State.ask_dispatch (i : InternalRequest) : (s.ask i).dispatch = s.dispatch := rfl
@[simp] theorem State.ask_link (i : InternalRequest) : (s.ask i).link = s.link := rfl
@[simp] theorem State.ask_sweep (i : InternalRequest) : (s.ask i).sweep = s.sweep := rfl
@[simp] theorem State.ask_loop (i : InternalRequest) : (s.ask i).loop = s.loop := rfl
@[simp] theorem State.ask_zones (i : InternalRequest) : (s.ask i).zones = s.zones := rfl
@[simp] theorem State.ask_config (i : InternalRequest) : (s.ask i).config = s.config := rfl
@[simp] theorem State.ask_memory (i : InternalRequest) : (s.ask i).memory = s.memory := rfl
@[simp] theorem State.ask_ports (i : InternalRequest) : (s.ask i).ports = s.ports := rfl
@[simp] theorem State.ask_pending (i : InternalRequest) : (s.ask i).pending = s.pending := rfl
@[simp] theorem State.ask_arbiter (i : InternalRequest) : (s.ask i).arbiter = { s.arbiter with asked := s.arbiter.asked ++ [i] } := rfl

@[simp] theorem State.setIntent_clock (w : Nat) (i : Option Intent) : (s.setIntent w i).clock = s.clock := rfl
@[simp] theorem State.setIntent_supply (w : Nat) (i : Option Intent) : (s.setIntent w i).supply = s.supply := rfl
@[simp] theorem State.setIntent_slots (w : Nat) (i : Option Intent) : (s.setIntent w i).slots = s.slots := rfl
@[simp] theorem State.setIntent_tags (w : Nat) (i : Option Intent) : (s.setIntent w i).tags = s.tags := rfl
@[simp] theorem State.setIntent_tasks (w : Nat) (i : Option Intent) : (s.setIntent w i).tasks = s.tasks := rfl
@[simp] theorem State.setIntent_discrepancies (w : Nat) (i : Option Intent) : (s.setIntent w i).discrepancies = s.discrepancies := rfl
@[simp] theorem State.setIntent_retainedGeometry (w : Nat) (i : Option Intent) : (s.setIntent w i).retainedGeometry = s.retainedGeometry := rfl
@[simp] theorem State.setIntent_retainedProfiles (w : Nat) (i : Option Intent) : (s.setIntent w i).retainedProfiles = s.retainedProfiles := rfl
@[simp] theorem State.setIntent_lastSurvey (w : Nat) (i : Option Intent) : (s.setIntent w i).lastSurvey = s.lastSurvey := rfl
@[simp] theorem State.setIntent_dispatch (w : Nat) (i : Option Intent) : (s.setIntent w i).dispatch = s.dispatch := rfl
@[simp] theorem State.setIntent_link (w : Nat) (i : Option Intent) : (s.setIntent w i).link = s.link := rfl
@[simp] theorem State.setIntent_sweep (w : Nat) (i : Option Intent) : (s.setIntent w i).sweep = s.sweep := rfl
@[simp] theorem State.setIntent_loop (w : Nat) (i : Option Intent) : (s.setIntent w i).loop = s.loop := rfl
@[simp] theorem State.setIntent_zones (w : Nat) (i : Option Intent) : (s.setIntent w i).zones = s.zones := rfl
@[simp] theorem State.setIntent_config (w : Nat) (i : Option Intent) : (s.setIntent w i).config = s.config := rfl
@[simp] theorem State.setIntent_memory (w : Nat) (i : Option Intent) : (s.setIntent w i).memory = s.memory := rfl
@[simp] theorem State.setIntent_ports (w : Nat) (i : Option Intent) : (s.setIntent w i).ports = s.ports := rfl
@[simp] theorem State.setIntent_arbiter (w : Nat) (i : Option Intent) : (s.setIntent w i).arbiter = s.arbiter := rfl
@[simp] theorem State.setIntent_pending (w : Nat) (i : Option Intent) : (s.setIntent w i).pending = s.pending := rfl
@[simp] theorem State.setIntent_wheels (w : Nat) (i : Option Intent) : (s.setIntent w i).wheels = s.wheels.change w fun x => { x with intent := i } := rfl

@[simp] theorem State.setHold_clock (w : Nat) (h : Hold) : (s.setHold w h).clock = s.clock := rfl
@[simp] theorem State.setHold_supply (w : Nat) (h : Hold) : (s.setHold w h).supply = s.supply := rfl
@[simp] theorem State.setHold_slots (w : Nat) (h : Hold) : (s.setHold w h).slots = s.slots := rfl
@[simp] theorem State.setHold_tags (w : Nat) (h : Hold) : (s.setHold w h).tags = s.tags := rfl
@[simp] theorem State.setHold_tasks (w : Nat) (h : Hold) : (s.setHold w h).tasks = s.tasks := rfl
@[simp] theorem State.setHold_discrepancies (w : Nat) (h : Hold) : (s.setHold w h).discrepancies = s.discrepancies := rfl
@[simp] theorem State.setHold_retainedGeometry (w : Nat) (h : Hold) : (s.setHold w h).retainedGeometry = s.retainedGeometry := rfl
@[simp] theorem State.setHold_retainedProfiles (w : Nat) (h : Hold) : (s.setHold w h).retainedProfiles = s.retainedProfiles := rfl
@[simp] theorem State.setHold_lastSurvey (w : Nat) (h : Hold) : (s.setHold w h).lastSurvey = s.lastSurvey := rfl
@[simp] theorem State.setHold_dispatch (w : Nat) (h : Hold) : (s.setHold w h).dispatch = s.dispatch := rfl
@[simp] theorem State.setHold_link (w : Nat) (h : Hold) : (s.setHold w h).link = s.link := rfl
@[simp] theorem State.setHold_sweep (w : Nat) (h : Hold) : (s.setHold w h).sweep = s.sweep := rfl
@[simp] theorem State.setHold_loop (w : Nat) (h : Hold) : (s.setHold w h).loop = s.loop := rfl
@[simp] theorem State.setHold_zones (w : Nat) (h : Hold) : (s.setHold w h).zones = s.zones := rfl
@[simp] theorem State.setHold_config (w : Nat) (h : Hold) : (s.setHold w h).config = s.config := rfl
@[simp] theorem State.setHold_memory (w : Nat) (h : Hold) : (s.setHold w h).memory = s.memory := rfl
@[simp] theorem State.setHold_ports (w : Nat) (h : Hold) : (s.setHold w h).ports = s.ports := rfl
@[simp] theorem State.setHold_arbiter (w : Nat) (h : Hold) : (s.setHold w h).arbiter = s.arbiter := rfl
@[simp] theorem State.setHold_pending (w : Nat) (h : Hold) : (s.setHold w h).pending = s.pending := rfl
@[simp] theorem State.setHold_wheels (w : Nat) (h : Hold) : (s.setHold w h).wheels = s.wheels.change w fun x => { x with hold := h } := rfl

@[simp] theorem State.computeDues_clock (w : Nat) : (s.computeDues w).clock = s.clock := rfl
@[simp] theorem State.computeDues_supply (w : Nat) : (s.computeDues w).supply = s.supply := rfl
@[simp] theorem State.computeDues_slots (w : Nat) : (s.computeDues w).slots = s.slots := rfl
@[simp] theorem State.computeDues_tags (w : Nat) : (s.computeDues w).tags = s.tags := rfl
@[simp] theorem State.computeDues_tasks (w : Nat) : (s.computeDues w).tasks = s.tasks := rfl
@[simp] theorem State.computeDues_discrepancies (w : Nat) : (s.computeDues w).discrepancies = s.discrepancies := rfl
@[simp] theorem State.computeDues_retainedGeometry (w : Nat) : (s.computeDues w).retainedGeometry = s.retainedGeometry := rfl
@[simp] theorem State.computeDues_retainedProfiles (w : Nat) : (s.computeDues w).retainedProfiles = s.retainedProfiles := rfl
@[simp] theorem State.computeDues_lastSurvey (w : Nat) : (s.computeDues w).lastSurvey = s.lastSurvey := rfl
@[simp] theorem State.computeDues_dispatch (w : Nat) : (s.computeDues w).dispatch = s.dispatch := rfl
@[simp] theorem State.computeDues_link (w : Nat) : (s.computeDues w).link = s.link := rfl
@[simp] theorem State.computeDues_sweep (w : Nat) : (s.computeDues w).sweep = s.sweep := rfl
@[simp] theorem State.computeDues_loop (w : Nat) : (s.computeDues w).loop = s.loop := rfl
@[simp] theorem State.computeDues_zones (w : Nat) : (s.computeDues w).zones = s.zones := rfl
@[simp] theorem State.computeDues_config (w : Nat) : (s.computeDues w).config = s.config := rfl
@[simp] theorem State.computeDues_memory (w : Nat) : (s.computeDues w).memory = s.memory := rfl
@[simp] theorem State.computeDues_ports (w : Nat) : (s.computeDues w).ports = s.ports := rfl
@[simp] theorem State.computeDues_arbiter (w : Nat) : (s.computeDues w).arbiter = s.arbiter := rfl
@[simp] theorem State.computeDues_pending (w : Nat) : (s.computeDues w).pending = s.pending := rfl

@[simp] theorem State.setDeadline_clock (k : TaskKind) : (s.setDeadline k).clock = s.clock := rfl
@[simp] theorem State.setDeadline_supply (k : TaskKind) : (s.setDeadline k).supply = s.supply := rfl
@[simp] theorem State.setDeadline_slots (k : TaskKind) : (s.setDeadline k).slots = s.slots := rfl
@[simp] theorem State.setDeadline_wheels (k : TaskKind) : (s.setDeadline k).wheels = s.wheels := rfl
@[simp] theorem State.setDeadline_tags (k : TaskKind) : (s.setDeadline k).tags = s.tags := rfl
@[simp] theorem State.setDeadline_tasks (k : TaskKind) : (s.setDeadline k).tasks = s.tasks := rfl
@[simp] theorem State.setDeadline_discrepancies (k : TaskKind) : (s.setDeadline k).discrepancies = s.discrepancies := rfl
@[simp] theorem State.setDeadline_retainedGeometry (k : TaskKind) : (s.setDeadline k).retainedGeometry = s.retainedGeometry := rfl
@[simp] theorem State.setDeadline_retainedProfiles (k : TaskKind) : (s.setDeadline k).retainedProfiles = s.retainedProfiles := rfl
@[simp] theorem State.setDeadline_lastSurvey (k : TaskKind) : (s.setDeadline k).lastSurvey = s.lastSurvey := rfl
@[simp] theorem State.setDeadline_dispatch (k : TaskKind) : (s.setDeadline k).dispatch = s.dispatch := rfl
@[simp] theorem State.setDeadline_sweep (k : TaskKind) : (s.setDeadline k).sweep = s.sweep := rfl
@[simp] theorem State.setDeadline_loop (k : TaskKind) : (s.setDeadline k).loop = s.loop := rfl
@[simp] theorem State.setDeadline_zones (k : TaskKind) : (s.setDeadline k).zones = s.zones := rfl
@[simp] theorem State.setDeadline_config (k : TaskKind) : (s.setDeadline k).config = s.config := rfl
@[simp] theorem State.setDeadline_memory (k : TaskKind) : (s.setDeadline k).memory = s.memory := rfl
@[simp] theorem State.setDeadline_ports (k : TaskKind) : (s.setDeadline k).ports = s.ports := rfl
@[simp] theorem State.setDeadline_arbiter (k : TaskKind) : (s.setDeadline k).arbiter = s.arbiter := rfl
@[simp] theorem State.setDeadline_pending (k : TaskKind) : (s.setDeadline k).pending = s.pending := rfl
@[simp] theorem State.setDeadline_link (k : TaskKind) : (s.setDeadline k).link = { s.link with deadline := some (s.allowance k) } := rfl

@[simp] theorem State.setLink_clock (l : LinkState) : (s.setLink l).clock = s.clock := rfl
@[simp] theorem State.setLink_supply (l : LinkState) : (s.setLink l).supply = s.supply := rfl
@[simp] theorem State.setLink_slots (l : LinkState) : (s.setLink l).slots = s.slots := rfl
@[simp] theorem State.setLink_wheels (l : LinkState) : (s.setLink l).wheels = s.wheels := rfl
@[simp] theorem State.setLink_tags (l : LinkState) : (s.setLink l).tags = s.tags := rfl
@[simp] theorem State.setLink_tasks (l : LinkState) : (s.setLink l).tasks = s.tasks := rfl
@[simp] theorem State.setLink_discrepancies (l : LinkState) : (s.setLink l).discrepancies = s.discrepancies := rfl
@[simp] theorem State.setLink_retainedGeometry (l : LinkState) : (s.setLink l).retainedGeometry = s.retainedGeometry := rfl
@[simp] theorem State.setLink_retainedProfiles (l : LinkState) : (s.setLink l).retainedProfiles = s.retainedProfiles := rfl
@[simp] theorem State.setLink_lastSurvey (l : LinkState) : (s.setLink l).lastSurvey = s.lastSurvey := rfl
@[simp] theorem State.setLink_dispatch (l : LinkState) : (s.setLink l).dispatch = s.dispatch := rfl
@[simp] theorem State.setLink_sweep (l : LinkState) : (s.setLink l).sweep = s.sweep := rfl
@[simp] theorem State.setLink_loop (l : LinkState) : (s.setLink l).loop = s.loop := rfl
@[simp] theorem State.setLink_zones (l : LinkState) : (s.setLink l).zones = s.zones := rfl
@[simp] theorem State.setLink_config (l : LinkState) : (s.setLink l).config = s.config := rfl
@[simp] theorem State.setLink_memory (l : LinkState) : (s.setLink l).memory = s.memory := rfl
@[simp] theorem State.setLink_ports (l : LinkState) : (s.setLink l).ports = s.ports := rfl
@[simp] theorem State.setLink_arbiter (l : LinkState) : (s.setLink l).arbiter = s.arbiter := rfl
@[simp] theorem State.setLink_pending (l : LinkState) : (s.setLink l).pending = s.pending := rfl
@[simp] theorem State.setLink_link (l : LinkState) : (s.setLink l).link = { s.link with state := l } := rfl

@[simp] theorem State.setPosition_clock (p : Option Coord) : (s.setPosition p).clock = s.clock := rfl
@[simp] theorem State.setPosition_supply (p : Option Coord) : (s.setPosition p).supply = s.supply := rfl
@[simp] theorem State.setPosition_slots (p : Option Coord) : (s.setPosition p).slots = s.slots := rfl
@[simp] theorem State.setPosition_wheels (p : Option Coord) : (s.setPosition p).wheels = s.wheels := rfl
@[simp] theorem State.setPosition_tags (p : Option Coord) : (s.setPosition p).tags = s.tags := rfl
@[simp] theorem State.setPosition_tasks (p : Option Coord) : (s.setPosition p).tasks = s.tasks := rfl
@[simp] theorem State.setPosition_discrepancies (p : Option Coord) : (s.setPosition p).discrepancies = s.discrepancies := rfl
@[simp] theorem State.setPosition_retainedGeometry (p : Option Coord) : (s.setPosition p).retainedGeometry = s.retainedGeometry := rfl
@[simp] theorem State.setPosition_retainedProfiles (p : Option Coord) : (s.setPosition p).retainedProfiles = s.retainedProfiles := rfl
@[simp] theorem State.setPosition_lastSurvey (p : Option Coord) : (s.setPosition p).lastSurvey = s.lastSurvey := rfl
@[simp] theorem State.setPosition_dispatch (p : Option Coord) : (s.setPosition p).dispatch = s.dispatch := rfl
@[simp] theorem State.setPosition_sweep (p : Option Coord) : (s.setPosition p).sweep = s.sweep := rfl
@[simp] theorem State.setPosition_loop (p : Option Coord) : (s.setPosition p).loop = s.loop := rfl
@[simp] theorem State.setPosition_zones (p : Option Coord) : (s.setPosition p).zones = s.zones := rfl
@[simp] theorem State.setPosition_config (p : Option Coord) : (s.setPosition p).config = s.config := rfl
@[simp] theorem State.setPosition_memory (p : Option Coord) : (s.setPosition p).memory = s.memory := rfl
@[simp] theorem State.setPosition_ports (p : Option Coord) : (s.setPosition p).ports = s.ports := rfl
@[simp] theorem State.setPosition_arbiter (p : Option Coord) : (s.setPosition p).arbiter = s.arbiter := rfl
@[simp] theorem State.setPosition_pending (p : Option Coord) : (s.setPosition p).pending = s.pending := rfl
@[simp] theorem State.setPosition_link (p : Option Coord) : (s.setPosition p).link = { s.link with position := p } := rfl

@[simp] theorem State.setPaused_clock (b : Bool) : (s.setPaused b).clock = s.clock := rfl
@[simp] theorem State.setPaused_supply (b : Bool) : (s.setPaused b).supply = s.supply := rfl
@[simp] theorem State.setPaused_slots (b : Bool) : (s.setPaused b).slots = s.slots := rfl
@[simp] theorem State.setPaused_wheels (b : Bool) : (s.setPaused b).wheels = s.wheels := rfl
@[simp] theorem State.setPaused_tags (b : Bool) : (s.setPaused b).tags = s.tags := rfl
@[simp] theorem State.setPaused_tasks (b : Bool) : (s.setPaused b).tasks = s.tasks := rfl
@[simp] theorem State.setPaused_discrepancies (b : Bool) : (s.setPaused b).discrepancies = s.discrepancies := rfl
@[simp] theorem State.setPaused_retainedGeometry (b : Bool) : (s.setPaused b).retainedGeometry = s.retainedGeometry := rfl
@[simp] theorem State.setPaused_retainedProfiles (b : Bool) : (s.setPaused b).retainedProfiles = s.retainedProfiles := rfl
@[simp] theorem State.setPaused_lastSurvey (b : Bool) : (s.setPaused b).lastSurvey = s.lastSurvey := rfl
@[simp] theorem State.setPaused_link (b : Bool) : (s.setPaused b).link = s.link := rfl
@[simp] theorem State.setPaused_sweep (b : Bool) : (s.setPaused b).sweep = s.sweep := rfl
@[simp] theorem State.setPaused_loop (b : Bool) : (s.setPaused b).loop = s.loop := rfl
@[simp] theorem State.setPaused_zones (b : Bool) : (s.setPaused b).zones = s.zones := rfl
@[simp] theorem State.setPaused_config (b : Bool) : (s.setPaused b).config = s.config := rfl
@[simp] theorem State.setPaused_memory (b : Bool) : (s.setPaused b).memory = s.memory := rfl
@[simp] theorem State.setPaused_ports (b : Bool) : (s.setPaused b).ports = s.ports := rfl
@[simp] theorem State.setPaused_arbiter (b : Bool) : (s.setPaused b).arbiter = s.arbiter := rfl
@[simp] theorem State.setPaused_pending (b : Bool) : (s.setPaused b).pending = s.pending := rfl
@[simp] theorem State.setPaused_dispatch (b : Bool) : (s.setPaused b).dispatch = { s.dispatch with paused := b } := rfl

@[simp] theorem State.setLimits_clock (z : ZoneNumber) (l : ZoneLimits) : (s.setLimits z l).clock = s.clock := rfl
@[simp] theorem State.setLimits_supply (z : ZoneNumber) (l : ZoneLimits) : (s.setLimits z l).supply = s.supply := rfl
@[simp] theorem State.setLimits_slots (z : ZoneNumber) (l : ZoneLimits) : (s.setLimits z l).slots = s.slots := rfl
@[simp] theorem State.setLimits_wheels (z : ZoneNumber) (l : ZoneLimits) : (s.setLimits z l).wheels = s.wheels := rfl
@[simp] theorem State.setLimits_tags (z : ZoneNumber) (l : ZoneLimits) : (s.setLimits z l).tags = s.tags := rfl
@[simp] theorem State.setLimits_tasks (z : ZoneNumber) (l : ZoneLimits) : (s.setLimits z l).tasks = s.tasks := rfl
@[simp] theorem State.setLimits_discrepancies (z : ZoneNumber) (l : ZoneLimits) : (s.setLimits z l).discrepancies = s.discrepancies := rfl
@[simp] theorem State.setLimits_retainedGeometry (z : ZoneNumber) (l : ZoneLimits) : (s.setLimits z l).retainedGeometry = s.retainedGeometry := rfl
@[simp] theorem State.setLimits_retainedProfiles (z : ZoneNumber) (l : ZoneLimits) : (s.setLimits z l).retainedProfiles = s.retainedProfiles := rfl
@[simp] theorem State.setLimits_lastSurvey (z : ZoneNumber) (l : ZoneLimits) : (s.setLimits z l).lastSurvey = s.lastSurvey := rfl
@[simp] theorem State.setLimits_dispatch (z : ZoneNumber) (l : ZoneLimits) : (s.setLimits z l).dispatch = s.dispatch := rfl
@[simp] theorem State.setLimits_link (z : ZoneNumber) (l : ZoneLimits) : (s.setLimits z l).link = s.link := rfl
@[simp] theorem State.setLimits_sweep (z : ZoneNumber) (l : ZoneLimits) : (s.setLimits z l).sweep = s.sweep := rfl
@[simp] theorem State.setLimits_loop (z : ZoneNumber) (l : ZoneLimits) : (s.setLimits z l).loop = s.loop := rfl
@[simp] theorem State.setLimits_zones (z : ZoneNumber) (l : ZoneLimits) : (s.setLimits z l).zones = s.zones := rfl
@[simp] theorem State.setLimits_memory (z : ZoneNumber) (l : ZoneLimits) : (s.setLimits z l).memory = s.memory := rfl
@[simp] theorem State.setLimits_ports (z : ZoneNumber) (l : ZoneLimits) : (s.setLimits z l).ports = s.ports := rfl
@[simp] theorem State.setLimits_arbiter (z : ZoneNumber) (l : ZoneLimits) : (s.setLimits z l).arbiter = s.arbiter := rfl
@[simp] theorem State.setLimits_pending (z : ZoneNumber) (l : ZoneLimits) : (s.setLimits z l).pending = s.pending := rfl

@[simp] theorem State.stampIssue_clock (n : Fin 64) : (s.stampIssue n).clock = s.clock := rfl
@[simp] theorem State.stampIssue_supply (n : Fin 64) : (s.stampIssue n).supply = s.supply := rfl
@[simp] theorem State.stampIssue_slots (n : Fin 64) : (s.stampIssue n).slots = s.slots := rfl
@[simp] theorem State.stampIssue_wheels (n : Fin 64) : (s.stampIssue n).wheels = s.wheels := rfl
@[simp] theorem State.stampIssue_tags (n : Fin 64) : (s.stampIssue n).tags = s.tags := rfl
@[simp] theorem State.stampIssue_discrepancies (n : Fin 64) : (s.stampIssue n).discrepancies = s.discrepancies := rfl
@[simp] theorem State.stampIssue_retainedGeometry (n : Fin 64) : (s.stampIssue n).retainedGeometry = s.retainedGeometry := rfl
@[simp] theorem State.stampIssue_retainedProfiles (n : Fin 64) : (s.stampIssue n).retainedProfiles = s.retainedProfiles := rfl
@[simp] theorem State.stampIssue_lastSurvey (n : Fin 64) : (s.stampIssue n).lastSurvey = s.lastSurvey := rfl
@[simp] theorem State.stampIssue_link (n : Fin 64) : (s.stampIssue n).link = s.link := rfl
@[simp] theorem State.stampIssue_sweep (n : Fin 64) : (s.stampIssue n).sweep = s.sweep := rfl
@[simp] theorem State.stampIssue_loop (n : Fin 64) : (s.stampIssue n).loop = s.loop := rfl
@[simp] theorem State.stampIssue_zones (n : Fin 64) : (s.stampIssue n).zones = s.zones := rfl
@[simp] theorem State.stampIssue_config (n : Fin 64) : (s.stampIssue n).config = s.config := rfl
@[simp] theorem State.stampIssue_memory (n : Fin 64) : (s.stampIssue n).memory = s.memory := rfl
@[simp] theorem State.stampIssue_ports (n : Fin 64) : (s.stampIssue n).ports = s.ports := rfl
@[simp] theorem State.stampIssue_arbiter (n : Fin 64) : (s.stampIssue n).arbiter = s.arbiter := rfl
@[simp] theorem State.stampIssue_pending (n : Fin 64) : (s.stampIssue n).pending = s.pending := rfl

@[simp] theorem State.markZone_clock (z : ZoneNumber) : (s.markZone z).clock = s.clock := rfl
@[simp] theorem State.markZone_supply (z : ZoneNumber) : (s.markZone z).supply = s.supply := rfl
@[simp] theorem State.markZone_slots (z : ZoneNumber) : (s.markZone z).slots = s.slots := rfl
@[simp] theorem State.markZone_wheels (z : ZoneNumber) : (s.markZone z).wheels = s.wheels := rfl
@[simp] theorem State.markZone_tags (z : ZoneNumber) : (s.markZone z).tags = s.tags := rfl
@[simp] theorem State.markZone_tasks (z : ZoneNumber) : (s.markZone z).tasks = s.tasks := rfl
@[simp] theorem State.markZone_discrepancies (z : ZoneNumber) : (s.markZone z).discrepancies = s.discrepancies := rfl
@[simp] theorem State.markZone_retainedGeometry (z : ZoneNumber) : (s.markZone z).retainedGeometry = s.retainedGeometry := rfl
@[simp] theorem State.markZone_retainedProfiles (z : ZoneNumber) : (s.markZone z).retainedProfiles = s.retainedProfiles := rfl
@[simp] theorem State.markZone_lastSurvey (z : ZoneNumber) : (s.markZone z).lastSurvey = s.lastSurvey := rfl
@[simp] theorem State.markZone_dispatch (z : ZoneNumber) : (s.markZone z).dispatch = s.dispatch := rfl
@[simp] theorem State.markZone_link (z : ZoneNumber) : (s.markZone z).link = s.link := rfl
@[simp] theorem State.markZone_sweep (z : ZoneNumber) : (s.markZone z).sweep = s.sweep := rfl
@[simp] theorem State.markZone_loop (z : ZoneNumber) : (s.markZone z).loop = s.loop := rfl
@[simp] theorem State.markZone_config (z : ZoneNumber) : (s.markZone z).config = s.config := rfl
@[simp] theorem State.markZone_memory (z : ZoneNumber) : (s.markZone z).memory = s.memory := rfl
@[simp] theorem State.markZone_ports (z : ZoneNumber) : (s.markZone z).ports = s.ports := rfl
@[simp] theorem State.markZone_arbiter (z : ZoneNumber) : (s.markZone z).arbiter = s.arbiter := rfl
@[simp] theorem State.markZone_pending (z : ZoneNumber) : (s.markZone z).pending = s.pending := rfl

/-! ## Updates that choose -/

@[simp] theorem State.raiseIf_clock (c : Bool) (p : Port) (n : Notice) : (s.raiseIf c p n).clock = s.clock := by unfold State.raiseIf; split <;> rfl
@[simp] theorem State.raiseIf_supply (c : Bool) (p : Port) (n : Notice) : (s.raiseIf c p n).supply = s.supply := by unfold State.raiseIf; split <;> rfl
@[simp] theorem State.raiseIf_slots (c : Bool) (p : Port) (n : Notice) : (s.raiseIf c p n).slots = s.slots := by unfold State.raiseIf; split <;> rfl
@[simp] theorem State.raiseIf_wheels (c : Bool) (p : Port) (n : Notice) : (s.raiseIf c p n).wheels = s.wheels := by unfold State.raiseIf; split <;> rfl
@[simp] theorem State.raiseIf_tags (c : Bool) (p : Port) (n : Notice) : (s.raiseIf c p n).tags = s.tags := by unfold State.raiseIf; split <;> rfl
@[simp] theorem State.raiseIf_tasks (c : Bool) (p : Port) (n : Notice) : (s.raiseIf c p n).tasks = s.tasks := by unfold State.raiseIf; split <;> rfl
@[simp] theorem State.raiseIf_discrepancies (c : Bool) (p : Port) (n : Notice) : (s.raiseIf c p n).discrepancies = s.discrepancies := by unfold State.raiseIf; split <;> rfl
@[simp] theorem State.raiseIf_retainedGeometry (c : Bool) (p : Port) (n : Notice) : (s.raiseIf c p n).retainedGeometry = s.retainedGeometry := by unfold State.raiseIf; split <;> rfl
@[simp] theorem State.raiseIf_retainedProfiles (c : Bool) (p : Port) (n : Notice) : (s.raiseIf c p n).retainedProfiles = s.retainedProfiles := by unfold State.raiseIf; split <;> rfl
@[simp] theorem State.raiseIf_lastSurvey (c : Bool) (p : Port) (n : Notice) : (s.raiseIf c p n).lastSurvey = s.lastSurvey := by unfold State.raiseIf; split <;> rfl
@[simp] theorem State.raiseIf_dispatch (c : Bool) (p : Port) (n : Notice) : (s.raiseIf c p n).dispatch = s.dispatch := by unfold State.raiseIf; split <;> rfl
@[simp] theorem State.raiseIf_link (c : Bool) (p : Port) (n : Notice) : (s.raiseIf c p n).link = s.link := by unfold State.raiseIf; split <;> rfl
@[simp] theorem State.raiseIf_sweep (c : Bool) (p : Port) (n : Notice) : (s.raiseIf c p n).sweep = s.sweep := by unfold State.raiseIf; split <;> rfl
@[simp] theorem State.raiseIf_loop (c : Bool) (p : Port) (n : Notice) : (s.raiseIf c p n).loop = s.loop := by unfold State.raiseIf; split <;> rfl
@[simp] theorem State.raiseIf_zones (c : Bool) (p : Port) (n : Notice) : (s.raiseIf c p n).zones = s.zones := by unfold State.raiseIf; split <;> rfl
@[simp] theorem State.raiseIf_config (c : Bool) (p : Port) (n : Notice) : (s.raiseIf c p n).config = s.config := by unfold State.raiseIf; split <;> rfl
@[simp] theorem State.raiseIf_memory (c : Bool) (p : Port) (n : Notice) : (s.raiseIf c p n).memory = s.memory := by unfold State.raiseIf; split <;> rfl
@[simp] theorem State.raiseIf_arbiter (c : Bool) (p : Port) (n : Notice) : (s.raiseIf c p n).arbiter = s.arbiter := by unfold State.raiseIf; split <;> rfl
@[simp] theorem State.raiseIf_pending (c : Bool) (p : Port) (n : Notice) : (s.raiseIf c p n).pending = s.pending := by unfold State.raiseIf; split <;> rfl

@[simp] theorem State.askIf_clock (c : Bool) (i : InternalRequest) : (s.askIf c i).clock = s.clock := by unfold State.askIf; split <;> rfl
@[simp] theorem State.askIf_supply (c : Bool) (i : InternalRequest) : (s.askIf c i).supply = s.supply := by unfold State.askIf; split <;> rfl
@[simp] theorem State.askIf_slots (c : Bool) (i : InternalRequest) : (s.askIf c i).slots = s.slots := by unfold State.askIf; split <;> rfl
@[simp] theorem State.askIf_wheels (c : Bool) (i : InternalRequest) : (s.askIf c i).wheels = s.wheels := by unfold State.askIf; split <;> rfl
@[simp] theorem State.askIf_tags (c : Bool) (i : InternalRequest) : (s.askIf c i).tags = s.tags := by unfold State.askIf; split <;> rfl
@[simp] theorem State.askIf_tasks (c : Bool) (i : InternalRequest) : (s.askIf c i).tasks = s.tasks := by unfold State.askIf; split <;> rfl
@[simp] theorem State.askIf_discrepancies (c : Bool) (i : InternalRequest) : (s.askIf c i).discrepancies = s.discrepancies := by unfold State.askIf; split <;> rfl
@[simp] theorem State.askIf_retainedGeometry (c : Bool) (i : InternalRequest) : (s.askIf c i).retainedGeometry = s.retainedGeometry := by unfold State.askIf; split <;> rfl
@[simp] theorem State.askIf_retainedProfiles (c : Bool) (i : InternalRequest) : (s.askIf c i).retainedProfiles = s.retainedProfiles := by unfold State.askIf; split <;> rfl
@[simp] theorem State.askIf_lastSurvey (c : Bool) (i : InternalRequest) : (s.askIf c i).lastSurvey = s.lastSurvey := by unfold State.askIf; split <;> rfl
@[simp] theorem State.askIf_dispatch (c : Bool) (i : InternalRequest) : (s.askIf c i).dispatch = s.dispatch := by unfold State.askIf; split <;> rfl
@[simp] theorem State.askIf_link (c : Bool) (i : InternalRequest) : (s.askIf c i).link = s.link := by unfold State.askIf; split <;> rfl
@[simp] theorem State.askIf_sweep (c : Bool) (i : InternalRequest) : (s.askIf c i).sweep = s.sweep := by unfold State.askIf; split <;> rfl
@[simp] theorem State.askIf_loop (c : Bool) (i : InternalRequest) : (s.askIf c i).loop = s.loop := by unfold State.askIf; split <;> rfl
@[simp] theorem State.askIf_zones (c : Bool) (i : InternalRequest) : (s.askIf c i).zones = s.zones := by unfold State.askIf; split <;> rfl
@[simp] theorem State.askIf_config (c : Bool) (i : InternalRequest) : (s.askIf c i).config = s.config := by unfold State.askIf; split <;> rfl
@[simp] theorem State.askIf_memory (c : Bool) (i : InternalRequest) : (s.askIf c i).memory = s.memory := by unfold State.askIf; split <;> rfl
@[simp] theorem State.askIf_ports (c : Bool) (i : InternalRequest) : (s.askIf c i).ports = s.ports := by unfold State.askIf; split <;> rfl
@[simp] theorem State.askIf_pending (c : Bool) (i : InternalRequest) : (s.askIf c i).pending = s.pending := by unfold State.askIf; split <;> rfl

@[simp] theorem State.testAvailable_clock : (s.testAvailable).clock = s.clock := State.raiseIf_clock s _ _ _
@[simp] theorem State.testAvailable_supply : (s.testAvailable).supply = s.supply := State.raiseIf_supply s _ _ _
@[simp] theorem State.testAvailable_slots : (s.testAvailable).slots = s.slots := State.raiseIf_slots s _ _ _
@[simp] theorem State.testAvailable_wheels : (s.testAvailable).wheels = s.wheels := State.raiseIf_wheels s _ _ _
@[simp] theorem State.testAvailable_tags : (s.testAvailable).tags = s.tags := State.raiseIf_tags s _ _ _
@[simp] theorem State.testAvailable_tasks : (s.testAvailable).tasks = s.tasks := State.raiseIf_tasks s _ _ _
@[simp] theorem State.testAvailable_discrepancies : (s.testAvailable).discrepancies = s.discrepancies := State.raiseIf_discrepancies s _ _ _
@[simp] theorem State.testAvailable_retainedGeometry : (s.testAvailable).retainedGeometry = s.retainedGeometry := State.raiseIf_retainedGeometry s _ _ _
@[simp] theorem State.testAvailable_retainedProfiles : (s.testAvailable).retainedProfiles = s.retainedProfiles := State.raiseIf_retainedProfiles s _ _ _
@[simp] theorem State.testAvailable_lastSurvey : (s.testAvailable).lastSurvey = s.lastSurvey := State.raiseIf_lastSurvey s _ _ _
@[simp] theorem State.testAvailable_dispatch : (s.testAvailable).dispatch = s.dispatch := State.raiseIf_dispatch s _ _ _
@[simp] theorem State.testAvailable_link : (s.testAvailable).link = s.link := State.raiseIf_link s _ _ _
@[simp] theorem State.testAvailable_sweep : (s.testAvailable).sweep = s.sweep := State.raiseIf_sweep s _ _ _
@[simp] theorem State.testAvailable_loop : (s.testAvailable).loop = s.loop := State.raiseIf_loop s _ _ _
@[simp] theorem State.testAvailable_zones : (s.testAvailable).zones = s.zones := State.raiseIf_zones s _ _ _
@[simp] theorem State.testAvailable_config : (s.testAvailable).config = s.config := State.raiseIf_config s _ _ _
@[simp] theorem State.testAvailable_memory : (s.testAvailable).memory = s.memory := State.raiseIf_memory s _ _ _
@[simp] theorem State.testAvailable_arbiter : (s.testAvailable).arbiter = s.arbiter := State.raiseIf_arbiter s _ _ _
@[simp] theorem State.testAvailable_pending : (s.testAvailable).pending = s.pending := State.raiseIf_pending s _ _ _

@[simp] theorem State.testIf_clock (c : Bool) : (s.testIf c).clock = s.clock := by unfold State.testIf; split <;> simp
@[simp] theorem State.testIf_supply (c : Bool) : (s.testIf c).supply = s.supply := by unfold State.testIf; split <;> simp
@[simp] theorem State.testIf_slots (c : Bool) : (s.testIf c).slots = s.slots := by unfold State.testIf; split <;> simp
@[simp] theorem State.testIf_wheels (c : Bool) : (s.testIf c).wheels = s.wheels := by unfold State.testIf; split <;> simp
@[simp] theorem State.testIf_tags (c : Bool) : (s.testIf c).tags = s.tags := by unfold State.testIf; split <;> simp
@[simp] theorem State.testIf_tasks (c : Bool) : (s.testIf c).tasks = s.tasks := by unfold State.testIf; split <;> simp
@[simp] theorem State.testIf_discrepancies (c : Bool) : (s.testIf c).discrepancies = s.discrepancies := by unfold State.testIf; split <;> simp
@[simp] theorem State.testIf_retainedGeometry (c : Bool) : (s.testIf c).retainedGeometry = s.retainedGeometry := by unfold State.testIf; split <;> simp
@[simp] theorem State.testIf_retainedProfiles (c : Bool) : (s.testIf c).retainedProfiles = s.retainedProfiles := by unfold State.testIf; split <;> simp
@[simp] theorem State.testIf_lastSurvey (c : Bool) : (s.testIf c).lastSurvey = s.lastSurvey := by unfold State.testIf; split <;> simp
@[simp] theorem State.testIf_dispatch (c : Bool) : (s.testIf c).dispatch = s.dispatch := by unfold State.testIf; split <;> simp
@[simp] theorem State.testIf_link (c : Bool) : (s.testIf c).link = s.link := by unfold State.testIf; split <;> simp
@[simp] theorem State.testIf_sweep (c : Bool) : (s.testIf c).sweep = s.sweep := by unfold State.testIf; split <;> simp
@[simp] theorem State.testIf_loop (c : Bool) : (s.testIf c).loop = s.loop := by unfold State.testIf; split <;> simp
@[simp] theorem State.testIf_zones (c : Bool) : (s.testIf c).zones = s.zones := by unfold State.testIf; split <;> simp
@[simp] theorem State.testIf_config (c : Bool) : (s.testIf c).config = s.config := by unfold State.testIf; split <;> simp
@[simp] theorem State.testIf_memory (c : Bool) : (s.testIf c).memory = s.memory := by unfold State.testIf; split <;> simp
@[simp] theorem State.testIf_arbiter (c : Bool) : (s.testIf c).arbiter = s.arbiter := by unfold State.testIf; split <;> simp
@[simp] theorem State.testIf_pending (c : Bool) : (s.testIf c).pending = s.pending := by unfold State.testIf; split <;> simp

@[simp] theorem State.record_clock (k : DiscrepancyKind) (c : Option Coord) (h : Option Nat) (t : Option TagId) : (s.record k c h t).clock = s.clock := by unfold State.record; split <;> rfl
@[simp] theorem State.record_supply (k : DiscrepancyKind) (c : Option Coord) (h : Option Nat) (t : Option TagId) : (s.record k c h t).supply = s.supply := by unfold State.record; split <;> rfl
@[simp] theorem State.record_slots (k : DiscrepancyKind) (c : Option Coord) (h : Option Nat) (t : Option TagId) : (s.record k c h t).slots = s.slots := by unfold State.record; split <;> rfl
@[simp] theorem State.record_wheels (k : DiscrepancyKind) (c : Option Coord) (h : Option Nat) (t : Option TagId) : (s.record k c h t).wheels = s.wheels := by unfold State.record; split <;> rfl
@[simp] theorem State.record_tags (k : DiscrepancyKind) (c : Option Coord) (h : Option Nat) (t : Option TagId) : (s.record k c h t).tags = s.tags := by unfold State.record; split <;> rfl
@[simp] theorem State.record_tasks (k : DiscrepancyKind) (c : Option Coord) (h : Option Nat) (t : Option TagId) : (s.record k c h t).tasks = s.tasks := by unfold State.record; split <;> rfl
@[simp] theorem State.record_retainedGeometry (k : DiscrepancyKind) (c : Option Coord) (h : Option Nat) (t : Option TagId) : (s.record k c h t).retainedGeometry = s.retainedGeometry := by unfold State.record; split <;> rfl
@[simp] theorem State.record_retainedProfiles (k : DiscrepancyKind) (c : Option Coord) (h : Option Nat) (t : Option TagId) : (s.record k c h t).retainedProfiles = s.retainedProfiles := by unfold State.record; split <;> rfl
@[simp] theorem State.record_lastSurvey (k : DiscrepancyKind) (c : Option Coord) (h : Option Nat) (t : Option TagId) : (s.record k c h t).lastSurvey = s.lastSurvey := by unfold State.record; split <;> rfl
@[simp] theorem State.record_dispatch (k : DiscrepancyKind) (c : Option Coord) (h : Option Nat) (t : Option TagId) : (s.record k c h t).dispatch = s.dispatch := by unfold State.record; split <;> rfl
@[simp] theorem State.record_link (k : DiscrepancyKind) (c : Option Coord) (h : Option Nat) (t : Option TagId) : (s.record k c h t).link = s.link := by unfold State.record; split <;> rfl
@[simp] theorem State.record_sweep (k : DiscrepancyKind) (c : Option Coord) (h : Option Nat) (t : Option TagId) : (s.record k c h t).sweep = s.sweep := by unfold State.record; split <;> rfl
@[simp] theorem State.record_loop (k : DiscrepancyKind) (c : Option Coord) (h : Option Nat) (t : Option TagId) : (s.record k c h t).loop = s.loop := by unfold State.record; split <;> rfl
@[simp] theorem State.record_zones (k : DiscrepancyKind) (c : Option Coord) (h : Option Nat) (t : Option TagId) : (s.record k c h t).zones = s.zones := by unfold State.record; split <;> rfl
@[simp] theorem State.record_config (k : DiscrepancyKind) (c : Option Coord) (h : Option Nat) (t : Option TagId) : (s.record k c h t).config = s.config := by unfold State.record; split <;> rfl
@[simp] theorem State.record_memory (k : DiscrepancyKind) (c : Option Coord) (h : Option Nat) (t : Option TagId) : (s.record k c h t).memory = s.memory := by unfold State.record; split <;> rfl
@[simp] theorem State.record_arbiter (k : DiscrepancyKind) (c : Option Coord) (h : Option Nat) (t : Option TagId) : (s.record k c h t).arbiter = s.arbiter := by unfold State.record; split <;> rfl
@[simp] theorem State.record_pending (k : DiscrepancyKind) (c : Option Coord) (h : Option Nat) (t : Option TagId) : (s.record k c h t).pending = s.pending := by unfold State.record; split <;> rfl

@[simp] theorem State.freeReserved_clock (c : Coord) (r : Role) (w : Nat) : (s.freeReserved c r w).clock = s.clock := by unfold State.freeReserved; split <;> rfl
@[simp] theorem State.freeReserved_supply (c : Coord) (r : Role) (w : Nat) : (s.freeReserved c r w).supply = s.supply := by unfold State.freeReserved; split <;> rfl
@[simp] theorem State.freeReserved_wheels (c : Coord) (r : Role) (w : Nat) : (s.freeReserved c r w).wheels = s.wheels := by unfold State.freeReserved; split <;> rfl
@[simp] theorem State.freeReserved_tags (c : Coord) (r : Role) (w : Nat) : (s.freeReserved c r w).tags = s.tags := by unfold State.freeReserved; split <;> rfl
@[simp] theorem State.freeReserved_tasks (c : Coord) (r : Role) (w : Nat) : (s.freeReserved c r w).tasks = s.tasks := by unfold State.freeReserved; split <;> rfl
@[simp] theorem State.freeReserved_discrepancies (c : Coord) (r : Role) (w : Nat) : (s.freeReserved c r w).discrepancies = s.discrepancies := by unfold State.freeReserved; split <;> rfl
@[simp] theorem State.freeReserved_retainedGeometry (c : Coord) (r : Role) (w : Nat) : (s.freeReserved c r w).retainedGeometry = s.retainedGeometry := by unfold State.freeReserved; split <;> rfl
@[simp] theorem State.freeReserved_retainedProfiles (c : Coord) (r : Role) (w : Nat) : (s.freeReserved c r w).retainedProfiles = s.retainedProfiles := by unfold State.freeReserved; split <;> rfl
@[simp] theorem State.freeReserved_lastSurvey (c : Coord) (r : Role) (w : Nat) : (s.freeReserved c r w).lastSurvey = s.lastSurvey := by unfold State.freeReserved; split <;> rfl
@[simp] theorem State.freeReserved_dispatch (c : Coord) (r : Role) (w : Nat) : (s.freeReserved c r w).dispatch = s.dispatch := by unfold State.freeReserved; split <;> rfl
@[simp] theorem State.freeReserved_link (c : Coord) (r : Role) (w : Nat) : (s.freeReserved c r w).link = s.link := by unfold State.freeReserved; split <;> rfl
@[simp] theorem State.freeReserved_sweep (c : Coord) (r : Role) (w : Nat) : (s.freeReserved c r w).sweep = s.sweep := by unfold State.freeReserved; split <;> rfl
@[simp] theorem State.freeReserved_loop (c : Coord) (r : Role) (w : Nat) : (s.freeReserved c r w).loop = s.loop := by unfold State.freeReserved; split <;> rfl
@[simp] theorem State.freeReserved_zones (c : Coord) (r : Role) (w : Nat) : (s.freeReserved c r w).zones = s.zones := by unfold State.freeReserved; split <;> rfl
@[simp] theorem State.freeReserved_config (c : Coord) (r : Role) (w : Nat) : (s.freeReserved c r w).config = s.config := by unfold State.freeReserved; split <;> rfl
@[simp] theorem State.freeReserved_memory (c : Coord) (r : Role) (w : Nat) : (s.freeReserved c r w).memory = s.memory := by unfold State.freeReserved; split <;> rfl
@[simp] theorem State.freeReserved_ports (c : Coord) (r : Role) (w : Nat) : (s.freeReserved c r w).ports = s.ports := by unfold State.freeReserved; split <;> rfl
@[simp] theorem State.freeReserved_arbiter (c : Coord) (r : Role) (w : Nat) : (s.freeReserved c r w).arbiter = s.arbiter := by unfold State.freeReserved; split <;> rfl
@[simp] theorem State.freeReserved_pending (c : Coord) (r : Role) (w : Nat) : (s.freeReserved c r w).pending = s.pending := by unfold State.freeReserved; split <;> rfl

@[simp] theorem State.deleteWheel_clock (w : Nat) : (s.deleteWheel w).clock = s.clock := by unfold State.deleteWheel; split <;> rfl
@[simp] theorem State.deleteWheel_supply (w : Nat) : (s.deleteWheel w).supply = s.supply := by unfold State.deleteWheel; split <;> rfl
@[simp] theorem State.deleteWheel_slots (w : Nat) : (s.deleteWheel w).slots = s.slots := by unfold State.deleteWheel; split <;> rfl
@[simp] theorem State.deleteWheel_tasks (w : Nat) : (s.deleteWheel w).tasks = s.tasks := by unfold State.deleteWheel; split <;> rfl
@[simp] theorem State.deleteWheel_discrepancies (w : Nat) : (s.deleteWheel w).discrepancies = s.discrepancies := by unfold State.deleteWheel; split <;> rfl
@[simp] theorem State.deleteWheel_retainedGeometry (w : Nat) : (s.deleteWheel w).retainedGeometry = s.retainedGeometry := by unfold State.deleteWheel; split <;> rfl
@[simp] theorem State.deleteWheel_retainedProfiles (w : Nat) : (s.deleteWheel w).retainedProfiles = s.retainedProfiles := by unfold State.deleteWheel; split <;> rfl
@[simp] theorem State.deleteWheel_lastSurvey (w : Nat) : (s.deleteWheel w).lastSurvey = s.lastSurvey := by unfold State.deleteWheel; split <;> rfl
@[simp] theorem State.deleteWheel_dispatch (w : Nat) : (s.deleteWheel w).dispatch = s.dispatch := by unfold State.deleteWheel; split <;> rfl
@[simp] theorem State.deleteWheel_link (w : Nat) : (s.deleteWheel w).link = s.link := by unfold State.deleteWheel; split <;> rfl
@[simp] theorem State.deleteWheel_sweep (w : Nat) : (s.deleteWheel w).sweep = s.sweep := by unfold State.deleteWheel; split <;> rfl
@[simp] theorem State.deleteWheel_loop (w : Nat) : (s.deleteWheel w).loop = s.loop := by unfold State.deleteWheel; split <;> rfl
@[simp] theorem State.deleteWheel_zones (w : Nat) : (s.deleteWheel w).zones = s.zones := by unfold State.deleteWheel; split <;> rfl
@[simp] theorem State.deleteWheel_config (w : Nat) : (s.deleteWheel w).config = s.config := by unfold State.deleteWheel; split <;> rfl
@[simp] theorem State.deleteWheel_memory (w : Nat) : (s.deleteWheel w).memory = s.memory := by unfold State.deleteWheel; split <;> rfl
@[simp] theorem State.deleteWheel_ports (w : Nat) : (s.deleteWheel w).ports = s.ports := by unfold State.deleteWheel; split <;> rfl
@[simp] theorem State.deleteWheel_arbiter (w : Nat) : (s.deleteWheel w).arbiter = s.arbiter := by unfold State.deleteWheel; split <;> rfl
@[simp] theorem State.deleteWheel_pending (w : Nat) : (s.deleteWheel w).pending = s.pending := by unfold State.deleteWheel; split <;> rfl

@[simp] theorem State.markTask_clock (t : TaskRecord) (b : Bool) : (s.markTask t b).clock = s.clock := by unfold State.markTask; split <;> rfl
@[simp] theorem State.markTask_supply (t : TaskRecord) (b : Bool) : (s.markTask t b).supply = s.supply := by unfold State.markTask; split <;> rfl
@[simp] theorem State.markTask_slots (t : TaskRecord) (b : Bool) : (s.markTask t b).slots = s.slots := by unfold State.markTask; split <;> rfl
@[simp] theorem State.markTask_tags (t : TaskRecord) (b : Bool) : (s.markTask t b).tags = s.tags := by unfold State.markTask; split <;> rfl
@[simp] theorem State.markTask_tasks (t : TaskRecord) (b : Bool) : (s.markTask t b).tasks = s.tasks := by unfold State.markTask; split <;> rfl
@[simp] theorem State.markTask_discrepancies (t : TaskRecord) (b : Bool) : (s.markTask t b).discrepancies = s.discrepancies := by unfold State.markTask; split <;> rfl
@[simp] theorem State.markTask_retainedGeometry (t : TaskRecord) (b : Bool) : (s.markTask t b).retainedGeometry = s.retainedGeometry := by unfold State.markTask; split <;> rfl
@[simp] theorem State.markTask_retainedProfiles (t : TaskRecord) (b : Bool) : (s.markTask t b).retainedProfiles = s.retainedProfiles := by unfold State.markTask; split <;> rfl
@[simp] theorem State.markTask_lastSurvey (t : TaskRecord) (b : Bool) : (s.markTask t b).lastSurvey = s.lastSurvey := by unfold State.markTask; split <;> rfl
@[simp] theorem State.markTask_dispatch (t : TaskRecord) (b : Bool) : (s.markTask t b).dispatch = s.dispatch := by unfold State.markTask; split <;> rfl
@[simp] theorem State.markTask_link (t : TaskRecord) (b : Bool) : (s.markTask t b).link = s.link := by unfold State.markTask; split <;> rfl
@[simp] theorem State.markTask_sweep (t : TaskRecord) (b : Bool) : (s.markTask t b).sweep = s.sweep := by unfold State.markTask; split <;> rfl
@[simp] theorem State.markTask_loop (t : TaskRecord) (b : Bool) : (s.markTask t b).loop = s.loop := by unfold State.markTask; split <;> rfl
@[simp] theorem State.markTask_zones (t : TaskRecord) (b : Bool) : (s.markTask t b).zones = s.zones := by unfold State.markTask; split <;> rfl
@[simp] theorem State.markTask_config (t : TaskRecord) (b : Bool) : (s.markTask t b).config = s.config := by unfold State.markTask; split <;> rfl
@[simp] theorem State.markTask_memory (t : TaskRecord) (b : Bool) : (s.markTask t b).memory = s.memory := by unfold State.markTask; split <;> rfl
@[simp] theorem State.markTask_ports (t : TaskRecord) (b : Bool) : (s.markTask t b).ports = s.ports := by unfold State.markTask; split <;> rfl
@[simp] theorem State.markTask_arbiter (t : TaskRecord) (b : Bool) : (s.markTask t b).arbiter = s.arbiter := by unfold State.markTask; split <;> rfl
@[simp] theorem State.markTask_pending (t : TaskRecord) (b : Bool) : (s.markTask t b).pending = s.pending := by unfold State.markTask; split <;> rfl

theorem foldl_marks_clock (l : List TaskRecord) : (l.foldl (fun u t => u.markTask t false) s).clock = s.clock := by
  induction l generalizing s <;> simp_all
theorem foldl_marks_supply (l : List TaskRecord) : (l.foldl (fun u t => u.markTask t false) s).supply = s.supply := by
  induction l generalizing s <;> simp_all
theorem foldl_marks_slots (l : List TaskRecord) : (l.foldl (fun u t => u.markTask t false) s).slots = s.slots := by
  induction l generalizing s <;> simp_all
theorem foldl_marks_tags (l : List TaskRecord) : (l.foldl (fun u t => u.markTask t false) s).tags = s.tags := by
  induction l generalizing s <;> simp_all
theorem foldl_marks_discrepancies (l : List TaskRecord) : (l.foldl (fun u t => u.markTask t false) s).discrepancies = s.discrepancies := by
  induction l generalizing s <;> simp_all
theorem foldl_marks_retainedGeometry (l : List TaskRecord) : (l.foldl (fun u t => u.markTask t false) s).retainedGeometry = s.retainedGeometry := by
  induction l generalizing s <;> simp_all
theorem foldl_marks_retainedProfiles (l : List TaskRecord) : (l.foldl (fun u t => u.markTask t false) s).retainedProfiles = s.retainedProfiles := by
  induction l generalizing s <;> simp_all
theorem foldl_marks_lastSurvey (l : List TaskRecord) : (l.foldl (fun u t => u.markTask t false) s).lastSurvey = s.lastSurvey := by
  induction l generalizing s <;> simp_all
theorem foldl_marks_dispatch (l : List TaskRecord) : (l.foldl (fun u t => u.markTask t false) s).dispatch = s.dispatch := by
  induction l generalizing s <;> simp_all
theorem foldl_marks_link (l : List TaskRecord) : (l.foldl (fun u t => u.markTask t false) s).link = s.link := by
  induction l generalizing s <;> simp_all
theorem foldl_marks_sweep (l : List TaskRecord) : (l.foldl (fun u t => u.markTask t false) s).sweep = s.sweep := by
  induction l generalizing s <;> simp_all
theorem foldl_marks_loop (l : List TaskRecord) : (l.foldl (fun u t => u.markTask t false) s).loop = s.loop := by
  induction l generalizing s <;> simp_all
theorem foldl_marks_zones (l : List TaskRecord) : (l.foldl (fun u t => u.markTask t false) s).zones = s.zones := by
  induction l generalizing s <;> simp_all
theorem foldl_marks_config (l : List TaskRecord) : (l.foldl (fun u t => u.markTask t false) s).config = s.config := by
  induction l generalizing s <;> simp_all
theorem foldl_marks_memory (l : List TaskRecord) : (l.foldl (fun u t => u.markTask t false) s).memory = s.memory := by
  induction l generalizing s <;> simp_all
theorem foldl_marks_ports (l : List TaskRecord) : (l.foldl (fun u t => u.markTask t false) s).ports = s.ports := by
  induction l generalizing s <;> simp_all
theorem foldl_marks_arbiter (l : List TaskRecord) : (l.foldl (fun u t => u.markTask t false) s).arbiter = s.arbiter := by
  induction l generalizing s <;> simp_all
theorem foldl_marks_pending (l : List TaskRecord) : (l.foldl (fun u t => u.markTask t false) s).pending = s.pending := by
  induction l generalizing s <;> simp_all

@[simp] theorem State.withdrawWhere_clock (p : TaskRecord → Bool) : (s.withdrawWhere p).clock = s.clock := by unfold State.withdrawWhere; rw [foldl_marks_clock]
@[simp] theorem State.withdrawWhere_supply (p : TaskRecord → Bool) : (s.withdrawWhere p).supply = s.supply := by unfold State.withdrawWhere; rw [foldl_marks_supply]
@[simp] theorem State.withdrawWhere_slots (p : TaskRecord → Bool) : (s.withdrawWhere p).slots = s.slots := by unfold State.withdrawWhere; rw [foldl_marks_slots]
@[simp] theorem State.withdrawWhere_tags (p : TaskRecord → Bool) : (s.withdrawWhere p).tags = s.tags := by unfold State.withdrawWhere; rw [foldl_marks_tags]
@[simp] theorem State.withdrawWhere_discrepancies (p : TaskRecord → Bool) : (s.withdrawWhere p).discrepancies = s.discrepancies := by unfold State.withdrawWhere; rw [foldl_marks_discrepancies]
@[simp] theorem State.withdrawWhere_retainedGeometry (p : TaskRecord → Bool) : (s.withdrawWhere p).retainedGeometry = s.retainedGeometry := by unfold State.withdrawWhere; rw [foldl_marks_retainedGeometry]
@[simp] theorem State.withdrawWhere_retainedProfiles (p : TaskRecord → Bool) : (s.withdrawWhere p).retainedProfiles = s.retainedProfiles := by unfold State.withdrawWhere; rw [foldl_marks_retainedProfiles]
@[simp] theorem State.withdrawWhere_lastSurvey (p : TaskRecord → Bool) : (s.withdrawWhere p).lastSurvey = s.lastSurvey := by unfold State.withdrawWhere; rw [foldl_marks_lastSurvey]
@[simp] theorem State.withdrawWhere_dispatch (p : TaskRecord → Bool) : (s.withdrawWhere p).dispatch = s.dispatch := by unfold State.withdrawWhere; rw [foldl_marks_dispatch]
@[simp] theorem State.withdrawWhere_link (p : TaskRecord → Bool) : (s.withdrawWhere p).link = s.link := by unfold State.withdrawWhere; rw [foldl_marks_link]
@[simp] theorem State.withdrawWhere_sweep (p : TaskRecord → Bool) : (s.withdrawWhere p).sweep = s.sweep := by unfold State.withdrawWhere; rw [foldl_marks_sweep]
@[simp] theorem State.withdrawWhere_loop (p : TaskRecord → Bool) : (s.withdrawWhere p).loop = s.loop := by unfold State.withdrawWhere; rw [foldl_marks_loop]
@[simp] theorem State.withdrawWhere_zones (p : TaskRecord → Bool) : (s.withdrawWhere p).zones = s.zones := by unfold State.withdrawWhere; rw [foldl_marks_zones]
@[simp] theorem State.withdrawWhere_config (p : TaskRecord → Bool) : (s.withdrawWhere p).config = s.config := by unfold State.withdrawWhere; rw [foldl_marks_config]
@[simp] theorem State.withdrawWhere_memory (p : TaskRecord → Bool) : (s.withdrawWhere p).memory = s.memory := by unfold State.withdrawWhere; rw [foldl_marks_memory]
@[simp] theorem State.withdrawWhere_ports (p : TaskRecord → Bool) : (s.withdrawWhere p).ports = s.ports := by unfold State.withdrawWhere; rw [foldl_marks_ports]
@[simp] theorem State.withdrawWhere_arbiter (p : TaskRecord → Bool) : (s.withdrawWhere p).arbiter = s.arbiter := by unfold State.withdrawWhere; rw [foldl_marks_arbiter]
@[simp] theorem State.withdrawWhere_pending (p : TaskRecord → Bool) : (s.withdrawWhere p).pending = s.pending := by unfold State.withdrawWhere; rw [foldl_marks_pending]

@[simp] theorem State.makeSuspect_clock (c : Coord) (w : Option Nat) : (s.makeSuspect c w).clock = s.clock := by simp [State.makeSuspect]
@[simp] theorem State.makeSuspect_supply (c : Coord) (w : Option Nat) : (s.makeSuspect c w).supply = s.supply := by simp [State.makeSuspect]
@[simp] theorem State.makeSuspect_tags (c : Coord) (w : Option Nat) : (s.makeSuspect c w).tags = s.tags := by simp [State.makeSuspect]
@[simp] theorem State.makeSuspect_discrepancies (c : Coord) (w : Option Nat) : (s.makeSuspect c w).discrepancies = s.discrepancies := by simp [State.makeSuspect]
@[simp] theorem State.makeSuspect_retainedGeometry (c : Coord) (w : Option Nat) : (s.makeSuspect c w).retainedGeometry = s.retainedGeometry := by simp [State.makeSuspect]
@[simp] theorem State.makeSuspect_retainedProfiles (c : Coord) (w : Option Nat) : (s.makeSuspect c w).retainedProfiles = s.retainedProfiles := by simp [State.makeSuspect]
@[simp] theorem State.makeSuspect_lastSurvey (c : Coord) (w : Option Nat) : (s.makeSuspect c w).lastSurvey = s.lastSurvey := by simp [State.makeSuspect]
@[simp] theorem State.makeSuspect_dispatch (c : Coord) (w : Option Nat) : (s.makeSuspect c w).dispatch = s.dispatch := by simp [State.makeSuspect]
@[simp] theorem State.makeSuspect_link (c : Coord) (w : Option Nat) : (s.makeSuspect c w).link = s.link := by simp [State.makeSuspect]
@[simp] theorem State.makeSuspect_sweep (c : Coord) (w : Option Nat) : (s.makeSuspect c w).sweep = s.sweep := by simp [State.makeSuspect]
@[simp] theorem State.makeSuspect_loop (c : Coord) (w : Option Nat) : (s.makeSuspect c w).loop = s.loop := by simp [State.makeSuspect]
@[simp] theorem State.makeSuspect_zones (c : Coord) (w : Option Nat) : (s.makeSuspect c w).zones = s.zones := by simp [State.makeSuspect]
@[simp] theorem State.makeSuspect_config (c : Coord) (w : Option Nat) : (s.makeSuspect c w).config = s.config := by simp [State.makeSuspect]
@[simp] theorem State.makeSuspect_memory (c : Coord) (w : Option Nat) : (s.makeSuspect c w).memory = s.memory := by simp [State.makeSuspect]
@[simp] theorem State.makeSuspect_ports (c : Coord) (w : Option Nat) : (s.makeSuspect c w).ports = s.ports := by simp [State.makeSuspect]
@[simp] theorem State.makeSuspect_arbiter (c : Coord) (w : Option Nat) : (s.makeSuspect c w).arbiter = s.arbiter := by simp [State.makeSuspect]
@[simp] theorem State.makeSuspect_pending (c : Coord) (w : Option Nat) : (s.makeSuspect c w).pending = s.pending := by simp [State.makeSuspect]

@[simp] theorem State.suspectOccupied_clock (c : Coord) : (s.suspectOccupied c).clock = s.clock := by unfold State.suspectOccupied; split <;> simp
@[simp] theorem State.suspectOccupied_supply (c : Coord) : (s.suspectOccupied c).supply = s.supply := by unfold State.suspectOccupied; split <;> simp
@[simp] theorem State.suspectOccupied_tags (c : Coord) : (s.suspectOccupied c).tags = s.tags := by unfold State.suspectOccupied; split <;> simp
@[simp] theorem State.suspectOccupied_discrepancies (c : Coord) : (s.suspectOccupied c).discrepancies = s.discrepancies := by unfold State.suspectOccupied; split <;> simp
@[simp] theorem State.suspectOccupied_retainedGeometry (c : Coord) : (s.suspectOccupied c).retainedGeometry = s.retainedGeometry := by unfold State.suspectOccupied; split <;> simp
@[simp] theorem State.suspectOccupied_retainedProfiles (c : Coord) : (s.suspectOccupied c).retainedProfiles = s.retainedProfiles := by unfold State.suspectOccupied; split <;> simp
@[simp] theorem State.suspectOccupied_lastSurvey (c : Coord) : (s.suspectOccupied c).lastSurvey = s.lastSurvey := by unfold State.suspectOccupied; split <;> simp
@[simp] theorem State.suspectOccupied_dispatch (c : Coord) : (s.suspectOccupied c).dispatch = s.dispatch := by unfold State.suspectOccupied; split <;> simp
@[simp] theorem State.suspectOccupied_link (c : Coord) : (s.suspectOccupied c).link = s.link := by unfold State.suspectOccupied; split <;> simp
@[simp] theorem State.suspectOccupied_sweep (c : Coord) : (s.suspectOccupied c).sweep = s.sweep := by unfold State.suspectOccupied; split <;> simp
@[simp] theorem State.suspectOccupied_loop (c : Coord) : (s.suspectOccupied c).loop = s.loop := by unfold State.suspectOccupied; split <;> simp
@[simp] theorem State.suspectOccupied_zones (c : Coord) : (s.suspectOccupied c).zones = s.zones := by unfold State.suspectOccupied; split <;> simp
@[simp] theorem State.suspectOccupied_config (c : Coord) : (s.suspectOccupied c).config = s.config := by unfold State.suspectOccupied; split <;> simp
@[simp] theorem State.suspectOccupied_memory (c : Coord) : (s.suspectOccupied c).memory = s.memory := by unfold State.suspectOccupied; split <;> simp
@[simp] theorem State.suspectOccupied_ports (c : Coord) : (s.suspectOccupied c).ports = s.ports := by unfold State.suspectOccupied; split <;> simp
@[simp] theorem State.suspectOccupied_arbiter (c : Coord) : (s.suspectOccupied c).arbiter = s.arbiter := by unfold State.suspectOccupied; split <;> simp
@[simp] theorem State.suspectOccupied_pending (c : Coord) : (s.suspectOccupied c).pending = s.pending := by unfold State.suspectOccupied; split <;> simp

@[simp] theorem State.freeDestination_clock (w : Nat) (i : Intent) : (s.freeDestination w i).clock = s.clock := by unfold State.freeDestination; split <;> simp
@[simp] theorem State.freeDestination_supply (w : Nat) (i : Intent) : (s.freeDestination w i).supply = s.supply := by unfold State.freeDestination; split <;> simp
@[simp] theorem State.freeDestination_wheels (w : Nat) (i : Intent) : (s.freeDestination w i).wheels = s.wheels := by unfold State.freeDestination; split <;> simp
@[simp] theorem State.freeDestination_tags (w : Nat) (i : Intent) : (s.freeDestination w i).tags = s.tags := by unfold State.freeDestination; split <;> simp
@[simp] theorem State.freeDestination_tasks (w : Nat) (i : Intent) : (s.freeDestination w i).tasks = s.tasks := by unfold State.freeDestination; split <;> simp
@[simp] theorem State.freeDestination_discrepancies (w : Nat) (i : Intent) : (s.freeDestination w i).discrepancies = s.discrepancies := by unfold State.freeDestination; split <;> simp
@[simp] theorem State.freeDestination_retainedGeometry (w : Nat) (i : Intent) : (s.freeDestination w i).retainedGeometry = s.retainedGeometry := by unfold State.freeDestination; split <;> simp
@[simp] theorem State.freeDestination_retainedProfiles (w : Nat) (i : Intent) : (s.freeDestination w i).retainedProfiles = s.retainedProfiles := by unfold State.freeDestination; split <;> simp
@[simp] theorem State.freeDestination_lastSurvey (w : Nat) (i : Intent) : (s.freeDestination w i).lastSurvey = s.lastSurvey := by unfold State.freeDestination; split <;> simp
@[simp] theorem State.freeDestination_dispatch (w : Nat) (i : Intent) : (s.freeDestination w i).dispatch = s.dispatch := by unfold State.freeDestination; split <;> simp
@[simp] theorem State.freeDestination_link (w : Nat) (i : Intent) : (s.freeDestination w i).link = s.link := by unfold State.freeDestination; split <;> simp
@[simp] theorem State.freeDestination_sweep (w : Nat) (i : Intent) : (s.freeDestination w i).sweep = s.sweep := by unfold State.freeDestination; split <;> simp
@[simp] theorem State.freeDestination_loop (w : Nat) (i : Intent) : (s.freeDestination w i).loop = s.loop := by unfold State.freeDestination; split <;> simp
@[simp] theorem State.freeDestination_zones (w : Nat) (i : Intent) : (s.freeDestination w i).zones = s.zones := by unfold State.freeDestination; split <;> simp
@[simp] theorem State.freeDestination_config (w : Nat) (i : Intent) : (s.freeDestination w i).config = s.config := by unfold State.freeDestination; split <;> simp
@[simp] theorem State.freeDestination_memory (w : Nat) (i : Intent) : (s.freeDestination w i).memory = s.memory := by unfold State.freeDestination; split <;> simp
@[simp] theorem State.freeDestination_ports (w : Nat) (i : Intent) : (s.freeDestination w i).ports = s.ports := by unfold State.freeDestination; split <;> simp
@[simp] theorem State.freeDestination_arbiter (w : Nat) (i : Intent) : (s.freeDestination w i).arbiter = s.arbiter := by unfold State.freeDestination; split <;> simp
@[simp] theorem State.freeDestination_pending (w : Nat) (i : Intent) : (s.freeDestination w i).pending = s.pending := by unfold State.freeDestination; split <;> simp

@[simp] theorem State.freeReturn_clock (w : Nat) (i : Intent) : (s.freeReturn w i).clock = s.clock := by unfold State.freeReturn; split <;> simp
@[simp] theorem State.freeReturn_supply (w : Nat) (i : Intent) : (s.freeReturn w i).supply = s.supply := by unfold State.freeReturn; split <;> simp
@[simp] theorem State.freeReturn_wheels (w : Nat) (i : Intent) : (s.freeReturn w i).wheels = s.wheels := by unfold State.freeReturn; split <;> simp
@[simp] theorem State.freeReturn_tags (w : Nat) (i : Intent) : (s.freeReturn w i).tags = s.tags := by unfold State.freeReturn; split <;> simp
@[simp] theorem State.freeReturn_tasks (w : Nat) (i : Intent) : (s.freeReturn w i).tasks = s.tasks := by unfold State.freeReturn; split <;> simp
@[simp] theorem State.freeReturn_discrepancies (w : Nat) (i : Intent) : (s.freeReturn w i).discrepancies = s.discrepancies := by unfold State.freeReturn; split <;> simp
@[simp] theorem State.freeReturn_retainedGeometry (w : Nat) (i : Intent) : (s.freeReturn w i).retainedGeometry = s.retainedGeometry := by unfold State.freeReturn; split <;> simp
@[simp] theorem State.freeReturn_retainedProfiles (w : Nat) (i : Intent) : (s.freeReturn w i).retainedProfiles = s.retainedProfiles := by unfold State.freeReturn; split <;> simp
@[simp] theorem State.freeReturn_lastSurvey (w : Nat) (i : Intent) : (s.freeReturn w i).lastSurvey = s.lastSurvey := by unfold State.freeReturn; split <;> simp
@[simp] theorem State.freeReturn_dispatch (w : Nat) (i : Intent) : (s.freeReturn w i).dispatch = s.dispatch := by unfold State.freeReturn; split <;> simp
@[simp] theorem State.freeReturn_link (w : Nat) (i : Intent) : (s.freeReturn w i).link = s.link := by unfold State.freeReturn; split <;> simp
@[simp] theorem State.freeReturn_sweep (w : Nat) (i : Intent) : (s.freeReturn w i).sweep = s.sweep := by unfold State.freeReturn; split <;> simp
@[simp] theorem State.freeReturn_loop (w : Nat) (i : Intent) : (s.freeReturn w i).loop = s.loop := by unfold State.freeReturn; split <;> simp
@[simp] theorem State.freeReturn_zones (w : Nat) (i : Intent) : (s.freeReturn w i).zones = s.zones := by unfold State.freeReturn; split <;> simp
@[simp] theorem State.freeReturn_config (w : Nat) (i : Intent) : (s.freeReturn w i).config = s.config := by unfold State.freeReturn; split <;> simp
@[simp] theorem State.freeReturn_memory (w : Nat) (i : Intent) : (s.freeReturn w i).memory = s.memory := by unfold State.freeReturn; split <;> simp
@[simp] theorem State.freeReturn_ports (w : Nat) (i : Intent) : (s.freeReturn w i).ports = s.ports := by unfold State.freeReturn; split <;> simp
@[simp] theorem State.freeReturn_arbiter (w : Nat) (i : Intent) : (s.freeReturn w i).arbiter = s.arbiter := by unfold State.freeReturn; split <;> simp
@[simp] theorem State.freeReturn_pending (w : Nat) (i : Intent) : (s.freeReturn w i).pending = s.pending := by unfold State.freeReturn; split <;> simp

@[simp] theorem State.endIntent_clock (w : Nat) (e : Ending) : (s.endIntent w e).clock = s.clock := by unfold State.endIntent; split <;> simp
@[simp] theorem State.endIntent_supply (w : Nat) (e : Ending) : (s.endIntent w e).supply = s.supply := by unfold State.endIntent; split <;> simp
@[simp] theorem State.endIntent_tags (w : Nat) (e : Ending) : (s.endIntent w e).tags = s.tags := by unfold State.endIntent; split <;> simp
@[simp] theorem State.endIntent_tasks (w : Nat) (e : Ending) : (s.endIntent w e).tasks = s.tasks := by unfold State.endIntent; split <;> simp
@[simp] theorem State.endIntent_discrepancies (w : Nat) (e : Ending) : (s.endIntent w e).discrepancies = s.discrepancies := by unfold State.endIntent; split <;> simp
@[simp] theorem State.endIntent_retainedGeometry (w : Nat) (e : Ending) : (s.endIntent w e).retainedGeometry = s.retainedGeometry := by unfold State.endIntent; split <;> simp
@[simp] theorem State.endIntent_retainedProfiles (w : Nat) (e : Ending) : (s.endIntent w e).retainedProfiles = s.retainedProfiles := by unfold State.endIntent; split <;> simp
@[simp] theorem State.endIntent_lastSurvey (w : Nat) (e : Ending) : (s.endIntent w e).lastSurvey = s.lastSurvey := by unfold State.endIntent; split <;> simp
@[simp] theorem State.endIntent_dispatch (w : Nat) (e : Ending) : (s.endIntent w e).dispatch = s.dispatch := by unfold State.endIntent; split <;> simp
@[simp] theorem State.endIntent_link (w : Nat) (e : Ending) : (s.endIntent w e).link = s.link := by unfold State.endIntent; split <;> simp
@[simp] theorem State.endIntent_sweep (w : Nat) (e : Ending) : (s.endIntent w e).sweep = s.sweep := by unfold State.endIntent; split <;> simp
@[simp] theorem State.endIntent_loop (w : Nat) (e : Ending) : (s.endIntent w e).loop = s.loop := by unfold State.endIntent; split <;> simp
@[simp] theorem State.endIntent_zones (w : Nat) (e : Ending) : (s.endIntent w e).zones = s.zones := by unfold State.endIntent; split <;> simp
@[simp] theorem State.endIntent_config (w : Nat) (e : Ending) : (s.endIntent w e).config = s.config := by unfold State.endIntent; split <;> simp
@[simp] theorem State.endIntent_memory (w : Nat) (e : Ending) : (s.endIntent w e).memory = s.memory := by unfold State.endIntent; split <;> simp
@[simp] theorem State.endIntent_ports (w : Nat) (e : Ending) : (s.endIntent w e).ports = s.ports := by unfold State.endIntent; split <;> simp
@[simp] theorem State.endIntent_arbiter (w : Nat) (e : Ending) : (s.endIntent w e).arbiter = s.arbiter := by unfold State.endIntent; split <;> simp
@[simp] theorem State.endIntent_pending (w : Nat) (e : Ending) : (s.endIntent w e).pending = s.pending := by unfold State.endIntent; split <;> simp

@[simp] theorem State.placeIn_clock (w : Nat) (c : Coord) : (s.placeIn w c).clock = s.clock := by simp [State.placeIn]
@[simp] theorem State.placeIn_supply (w : Nat) (c : Coord) : (s.placeIn w c).supply = s.supply := by simp [State.placeIn]
@[simp] theorem State.placeIn_tags (w : Nat) (c : Coord) : (s.placeIn w c).tags = s.tags := by simp [State.placeIn]
@[simp] theorem State.placeIn_tasks (w : Nat) (c : Coord) : (s.placeIn w c).tasks = s.tasks := by simp [State.placeIn]
@[simp] theorem State.placeIn_discrepancies (w : Nat) (c : Coord) : (s.placeIn w c).discrepancies = s.discrepancies := by simp [State.placeIn]
@[simp] theorem State.placeIn_retainedGeometry (w : Nat) (c : Coord) : (s.placeIn w c).retainedGeometry = s.retainedGeometry := by simp [State.placeIn]
@[simp] theorem State.placeIn_retainedProfiles (w : Nat) (c : Coord) : (s.placeIn w c).retainedProfiles = s.retainedProfiles := by simp [State.placeIn]
@[simp] theorem State.placeIn_lastSurvey (w : Nat) (c : Coord) : (s.placeIn w c).lastSurvey = s.lastSurvey := by simp [State.placeIn]
@[simp] theorem State.placeIn_dispatch (w : Nat) (c : Coord) : (s.placeIn w c).dispatch = s.dispatch := by simp [State.placeIn]
@[simp] theorem State.placeIn_link (w : Nat) (c : Coord) : (s.placeIn w c).link = s.link := by simp [State.placeIn]
@[simp] theorem State.placeIn_sweep (w : Nat) (c : Coord) : (s.placeIn w c).sweep = s.sweep := by simp [State.placeIn]
@[simp] theorem State.placeIn_loop (w : Nat) (c : Coord) : (s.placeIn w c).loop = s.loop := by simp [State.placeIn]
@[simp] theorem State.placeIn_zones (w : Nat) (c : Coord) : (s.placeIn w c).zones = s.zones := by simp [State.placeIn]
@[simp] theorem State.placeIn_config (w : Nat) (c : Coord) : (s.placeIn w c).config = s.config := by simp [State.placeIn]
@[simp] theorem State.placeIn_memory (w : Nat) (c : Coord) : (s.placeIn w c).memory = s.memory := by simp [State.placeIn]
@[simp] theorem State.placeIn_ports (w : Nat) (c : Coord) : (s.placeIn w c).ports = s.ports := by simp [State.placeIn]
@[simp] theorem State.placeIn_arbiter (w : Nat) (c : Coord) : (s.placeIn w c).arbiter = s.arbiter := by simp [State.placeIn]
@[simp] theorem State.placeIn_pending (w : Nat) (c : Coord) : (s.placeIn w c).pending = s.pending := by simp [State.placeIn]

@[simp] theorem State.leaveZones_clock : (s.leaveZones).clock = s.clock := by simp [State.leaveZones]
@[simp] theorem State.leaveZones_supply : (s.leaveZones).supply = s.supply := by simp [State.leaveZones]
@[simp] theorem State.leaveZones_slots : (s.leaveZones).slots = s.slots := by simp [State.leaveZones]
@[simp] theorem State.leaveZones_wheels : (s.leaveZones).wheels = s.wheels := by simp [State.leaveZones]
@[simp] theorem State.leaveZones_tags : (s.leaveZones).tags = s.tags := by simp [State.leaveZones]
@[simp] theorem State.leaveZones_tasks : (s.leaveZones).tasks = s.tasks := by simp [State.leaveZones]
@[simp] theorem State.leaveZones_discrepancies : (s.leaveZones).discrepancies = s.discrepancies := by simp [State.leaveZones]
@[simp] theorem State.leaveZones_retainedGeometry : (s.leaveZones).retainedGeometry = s.retainedGeometry := by simp [State.leaveZones]
@[simp] theorem State.leaveZones_retainedProfiles : (s.leaveZones).retainedProfiles = s.retainedProfiles := by simp [State.leaveZones]
@[simp] theorem State.leaveZones_lastSurvey : (s.leaveZones).lastSurvey = s.lastSurvey := by simp [State.leaveZones]
@[simp] theorem State.leaveZones_dispatch : (s.leaveZones).dispatch = s.dispatch := by simp [State.leaveZones]
@[simp] theorem State.leaveZones_link : (s.leaveZones).link = s.link := by simp [State.leaveZones]
@[simp] theorem State.leaveZones_sweep : (s.leaveZones).sweep = s.sweep := by simp [State.leaveZones]
@[simp] theorem State.leaveZones_loop : (s.leaveZones).loop = s.loop := by simp [State.leaveZones]
@[simp] theorem State.leaveZones_config : (s.leaveZones).config = s.config := by simp [State.leaveZones]
@[simp] theorem State.leaveZones_memory : (s.leaveZones).memory = s.memory := by simp [State.leaveZones]
@[simp] theorem State.leaveZones_arbiter : (s.leaveZones).arbiter = s.arbiter := by simp [State.leaveZones]
@[simp] theorem State.leaveZones_pending : (s.leaveZones).pending = s.pending := by simp [State.leaveZones]

@[simp] theorem State.clearOut_clock : (s.clearOut).clock = s.clock := by simp [State.clearOut]
@[simp] theorem State.clearOut_supply : (s.clearOut).supply = s.supply := by simp [State.clearOut]
@[simp] theorem State.clearOut_slots : (s.clearOut).slots = s.slots := by simp [State.clearOut]
@[simp] theorem State.clearOut_wheels : (s.clearOut).wheels = s.wheels := by simp [State.clearOut]
@[simp] theorem State.clearOut_tags : (s.clearOut).tags = s.tags := by simp [State.clearOut]
@[simp] theorem State.clearOut_tasks : (s.clearOut).tasks = s.tasks := by simp [State.clearOut]
@[simp] theorem State.clearOut_discrepancies : (s.clearOut).discrepancies = s.discrepancies := by simp [State.clearOut]
@[simp] theorem State.clearOut_retainedGeometry : (s.clearOut).retainedGeometry = s.retainedGeometry := by simp [State.clearOut]
@[simp] theorem State.clearOut_retainedProfiles : (s.clearOut).retainedProfiles = s.retainedProfiles := by simp [State.clearOut]
@[simp] theorem State.clearOut_lastSurvey : (s.clearOut).lastSurvey = s.lastSurvey := by simp [State.clearOut]
@[simp] theorem State.clearOut_dispatch : (s.clearOut).dispatch = s.dispatch := by simp [State.clearOut]
@[simp] theorem State.clearOut_sweep : (s.clearOut).sweep = s.sweep := by simp [State.clearOut]
@[simp] theorem State.clearOut_loop : (s.clearOut).loop = s.loop := by simp [State.clearOut]
@[simp] theorem State.clearOut_config : (s.clearOut).config = s.config := by simp [State.clearOut]
@[simp] theorem State.clearOut_memory : (s.clearOut).memory = s.memory := by simp [State.clearOut]
@[simp] theorem State.clearOut_arbiter : (s.clearOut).arbiter = s.arbiter := by simp [State.clearOut]
@[simp] theorem State.clearOut_pending : (s.clearOut).pending = s.pending := by simp [State.clearOut]

@[simp] theorem State.grantInternal_clock (i : InternalRequest) : (s.grantInternal i).clock = s.clock := by unfold State.grantInternal; split <;> rfl
@[simp] theorem State.grantInternal_supply (i : InternalRequest) : (s.grantInternal i).supply = s.supply := by unfold State.grantInternal; split <;> rfl
@[simp] theorem State.grantInternal_slots (i : InternalRequest) : (s.grantInternal i).slots = s.slots := by unfold State.grantInternal; split <;> rfl
@[simp] theorem State.grantInternal_wheels (i : InternalRequest) : (s.grantInternal i).wheels = s.wheels := by unfold State.grantInternal; split <;> rfl
@[simp] theorem State.grantInternal_tags (i : InternalRequest) : (s.grantInternal i).tags = s.tags := by unfold State.grantInternal; split <;> rfl
@[simp] theorem State.grantInternal_tasks (i : InternalRequest) : (s.grantInternal i).tasks = s.tasks := by unfold State.grantInternal; split <;> rfl
@[simp] theorem State.grantInternal_discrepancies (i : InternalRequest) : (s.grantInternal i).discrepancies = s.discrepancies := by unfold State.grantInternal; split <;> rfl
@[simp] theorem State.grantInternal_retainedGeometry (i : InternalRequest) : (s.grantInternal i).retainedGeometry = s.retainedGeometry := by unfold State.grantInternal; split <;> rfl
@[simp] theorem State.grantInternal_retainedProfiles (i : InternalRequest) : (s.grantInternal i).retainedProfiles = s.retainedProfiles := by unfold State.grantInternal; split <;> rfl
@[simp] theorem State.grantInternal_lastSurvey (i : InternalRequest) : (s.grantInternal i).lastSurvey = s.lastSurvey := by unfold State.grantInternal; split <;> rfl
@[simp] theorem State.grantInternal_dispatch (i : InternalRequest) : (s.grantInternal i).dispatch = s.dispatch := by unfold State.grantInternal; split <;> rfl
@[simp] theorem State.grantInternal_link (i : InternalRequest) : (s.grantInternal i).link = s.link := by unfold State.grantInternal; split <;> rfl
@[simp] theorem State.grantInternal_sweep (i : InternalRequest) : (s.grantInternal i).sweep = s.sweep := by unfold State.grantInternal; split <;> rfl
@[simp] theorem State.grantInternal_loop (i : InternalRequest) : (s.grantInternal i).loop = s.loop := by unfold State.grantInternal; split <;> rfl
@[simp] theorem State.grantInternal_zones (i : InternalRequest) : (s.grantInternal i).zones = s.zones := by unfold State.grantInternal; split <;> rfl
@[simp] theorem State.grantInternal_config (i : InternalRequest) : (s.grantInternal i).config = s.config := by unfold State.grantInternal; split <;> rfl
@[simp] theorem State.grantInternal_memory (i : InternalRequest) : (s.grantInternal i).memory = s.memory := by unfold State.grantInternal; split <;> rfl
@[simp] theorem State.grantInternal_ports (i : InternalRequest) : (s.grantInternal i).ports = s.ports := by unfold State.grantInternal; split <;> rfl
@[simp] theorem State.grantInternal_pending (i : InternalRequest) : (s.grantInternal i).pending = s.pending := by unfold State.grantInternal; split <;> rfl

end Sys2Proof.Machine
end

