-- ==== Sys2Proof/Laws/Table.lean ====
section
/-! SUPPORT. The keyed stores: what a look-up gives after each operation, and that every operation keeps the canonical form. -/

namespace Sys2Proof.Machine

variable {α : Type}

/-! ## Look-ups -/

@[simp] theorem Table.find_put (t : Table α) (j k : Nat) (v : α) :
    Table.find j (t.put k v) = if j = k then some v else Table.find j t := by
  induction t with
  | nil => simp [put, find, eq_comm]
  | cons e t ih =>
    obtain ⟨i, w⟩ := e
    simp only [put]
    split
    · simp [find, eq_comm]
    · split
      · subst_vars
        by_cases h : i = j <;> simp [find, h, eq_comm]
        intro g; exact absurd g.symm h
      · by_cases h : i = j
        · subst h; simp [find]; omega
        · simp [find, h, ih]

@[simp] theorem Table.find_change (t : Table α) (j k : Nat) (f : α → α) :
    Table.find j (t.change k f) = if j = k then (Table.find j t).map f else Table.find j t := by
  induction t with
  | nil => simp [change, find]
  | cons e t ih =>
    obtain ⟨i, w⟩ := e
    simp only [change]
    by_cases h : i = k
    · subst h
      by_cases g : i = j
      · simp [find, g]
      · simp [find, g]; intro h; exact absurd h.symm g
    · by_cases g : i = j
      · subst g; simp [find, h]
      · simp [find, h, g, ih]

@[simp] theorem Table.find_drop (t : Table α) (j k : Nat) :
    Table.find j (t.drop k) = if j = k then none else Table.find j t := by
  induction t with
  | nil => simp [drop, find]
  | cons e t ih =>
    obtain ⟨i, w⟩ := e
    simp only [drop] at ih ⊢
    by_cases h : i = k
    · subst h
      simp [ih, find]
      split
      · rfl
      · rw [if_neg (Ne.symm ‹_›)]
    · simp [h, find, ih]
      by_cases g : i = j
      · simp [g, show j ≠ k by omega]
      · simp [g]

/-- A key found is listed with its entry. -/
theorem Table.mem_of_find {t : Table α} {k : Nat} {v : α} (h : t.find k = some v) : (k, v) ∈ t := by
  induction t with
  | nil => simp [find] at h
  | cons e t ih =>
    obtain ⟨i, w⟩ := e
    simp only [find] at h
    split at h
    · subst_vars; simp_all
    · simp [ih h]

/-! ## The canonical form -/

/-- The canonical form says that the keys rise strictly. -/
theorem Table.canonical_iff (t : Table α) : t.canonical = true ↔ (t.map Prod.fst).Pairwise (· < ·) := by
  induction t with
  | nil => simp [canonical]
  | cons e t ih =>
    cases t with
    | nil => simp [canonical]
    | cons e' t =>
      obtain ⟨i, w⟩ := e
      obtain ⟨j, x⟩ := e'
      simp only [canonical, Bool.and_eq_true, decide_eq_true_eq, ih, List.map_cons, List.pairwise_cons, List.mem_cons]
      constructor
      · rintro ⟨h, h1, h2⟩
        refine ⟨?_, h1, h2⟩
        rintro a (rfl | ha)
        · exact h
        · exact h.trans (h1 a ha)
      · rintro ⟨h, h1, h2⟩
        exact ⟨h j (.inl rfl), h1, h2⟩

theorem Table.keys_put (t : Table α) (k : Nat) (v : α) (j : Nat) :
    j ∈ (t.put k v).map Prod.fst ↔ j = k ∨ j ∈ t.map Prod.fst := by
  induction t with
  | nil => simp [put]
  | cons e t ih =>
    obtain ⟨i, w⟩ := e
    simp only [put]
    split
    · simp
    · split
      · subst_vars; simp
      · simp only [List.map_cons, List.mem_cons, ih]; tauto

theorem Table.put_canonical {t : Table α} (k : Nat) (v : α) (h : t.canonical = true) : (t.put k v).canonical = true := by
  rw [canonical_iff] at h ⊢
  induction t with
  | nil => simp [put]
  | cons e t ih =>
    obtain ⟨i, w⟩ := e
    simp only [put, List.map_cons, List.pairwise_cons] at h ⊢
    split
    · simp only [List.map_cons, List.pairwise_cons, List.mem_cons]
      exact ⟨by rintro a (rfl | ha); assumption; exact lt_trans ‹_› (h.1 a ha), h⟩
    · split
      · subst_vars; simpa using h
      · simp only [List.map_cons, List.pairwise_cons]
        refine ⟨fun a ha => ?_, ih h.2⟩
        rcases (keys_put t k v a).1 ha with rfl | ha
        · omega
        · exact h.1 a ha

@[simp] theorem Table.keys_change (t : Table α) (k : Nat) (f : α → α) : (t.change k f).map Prod.fst = t.map Prod.fst := by
  induction t with
  | nil => rfl
  | cons e t ih =>
    obtain ⟨i, w⟩ := e
    simp only [change]
    split <;> simp_all

@[simp] theorem Table.change_canonical (t : Table α) (k : Nat) (f : α → α) : (t.change k f).canonical = t.canonical := by
  rw [Bool.eq_iff_iff, canonical_iff, canonical_iff, keys_change]

theorem Table.drop_canonical {t : Table α} (k : Nat) (h : t.canonical = true) : (t.drop k).canonical = true := by
  rw [canonical_iff] at h ⊢
  exact h.sublist (List.filter_sublist.map _)

/-- In a canonical table every listed entry is the one a look-up gives. -/
theorem Table.find_of_mem {t : Table α} {k : Nat} {v : α} (c : t.canonical = true) (h : (k, v) ∈ t) : t.find k = some v := by
  rw [canonical_iff] at c
  induction t with
  | nil => simp at h
  | cons e t ih =>
    obtain ⟨i, w⟩ := e
    simp only [List.map_cons, List.pairwise_cons] at c
    rcases List.mem_cons.1 h with h | h
    · cases h; simp [find]
    · have := c.1 k (List.mem_map.2 ⟨_, h, rfl⟩)
      simp [find, show i ≠ k by omega, ih c.2 h]

/-! ## Slots and wheels -/

/-- Every slot address has a key of its own. -/
theorem Coord.key_injective {c d : Coord} (h : c.key = d.key) : c = d := by
  obtain ⟨⟨a, _⟩, ⟨b, _⟩, ⟨p, _⟩⟩ := c
  obtain ⟨⟨a', _⟩, ⟨b', _⟩, ⟨p', _⟩⟩ := d
  simp only [Coord.key] at h
  have h1 : p = p' := by omega
  have h2 : b = b' := by omega
  have h3 : a = a' := by omega
  subst h1 h2 h3
  rfl

/-- A slot written reads as written; every other slot reads as before. -/
@[simp] theorem State.slot_setSlot (s : State) (c d : Coord) (e : SlotEntry) :
    (s.setSlot c e).slot d = if d = c then e else s.slot d := by
  by_cases h : d = c
  · subst h
    by_cases g : e = .empty <;> simp [State.slot, State.setSlot, g]
  · have k : d.key ≠ c.key := fun k => h (Coord.key_injective k)
    by_cases g : e = .empty <;> simp [State.slot, State.setSlot, g, h, k]

/-- Writing a slot keeps the slot map canonical, with no EMPTY entry listed. -/
theorem State.setSlot_form {s : State} (c : Coord) (e : SlotEntry)
    (h : s.slots.canonical = true ∧ ∀ x ∈ s.slots, x.2 ≠ .empty) :
    (s.setSlot c e).slots.canonical = true ∧ ∀ x ∈ (s.setSlot c e).slots, x.2 ≠ .empty := by
  by_cases g : e = .empty
  · simp only [State.setSlot, g, if_true]
    exact ⟨Table.drop_canonical _ h.1, fun x hx => h.2 x (List.mem_of_mem_filter hx)⟩
  · simp only [State.setSlot, g, if_false]
    refine ⟨Table.put_canonical _ _ h.1, fun ⟨k, v⟩ hx => ?_⟩
    have f := Table.find_of_mem (Table.put_canonical c.key e h.1) hx
    rw [Table.find_put] at f
    split at f
    · cases f; exact g
    · exact h.2 _ (Table.mem_of_find f)

/-- A wheel record changed reads as changed; every other reads as before. -/
@[simp] theorem State.wheel_changeWheel (s : State) (w v : Nat) (f : Wheel → Wheel) :
    (s.changeWheel w f).wheel v = if v = w then (s.wheel v).map f else s.wheel v :=
  Table.find_change s.wheels v w f

@[simp] theorem State.wheel_createWheel (s : State) (w v : Nat) (x : Wheel) :
    (s.createWheel w x).wheel v = if v = w then some x else s.wheel v :=
  Table.find_put s.wheels v w x

@[simp] theorem State.wheel_deleteWheel (s : State) (w v : Nat) :
    (s.deleteWheel w).wheel v = if v = w then none else s.wheel v := by
  unfold State.deleteWheel
  split
  · by_cases h : v = w <;> simp_all
  · exact Table.find_drop s.wheels v w

@[simp] theorem State.zone_changeZone (s : State) (z y : ZoneNumber) (f : Zone → Zone) :
    (s.changeZone z f).zone y = if y = z then f (s.zone z) else s.zone y := by
  by_cases h : z = y
  · subst h; simp [State.zone, State.changeZone]
  · have : z.val ≠ y.val := fun k => h (Fin.ext k)
    simp [State.zone, State.changeZone, this, Ne.symm h]

end Sys2Proof.Machine
end

