-- ==== Sys2Proof/Laws/Requests.lean ====
section
/-! SUPPORT. What the Port Unit's operations do: ports, notices, answers, and a request from its frame to its answer. -/

namespace Sys2Proof.Machine

/-! ## Ports -/

@[simp] theorem State.port_setPort (s : State) (p q : Port) (r : PortRecord) :
    (s.setPort p r).port q = if q = p then r else s.port q := by
  cases p <;> cases q <;> rfl

@[simp] theorem State.port_raise (s : State) (p q : Port) (n : Notice) :
    (s.raise p n).port q = if q = p then { s.port p with notices := placeNotice p n (s.port p).notices } else s.port q := by
  simp [State.raise]

@[simp] theorem State.port_hunt (s : State) (p q : Port) :
    (s.hunt p).port q = if q = p then { s.port p with rx := [] } else s.port q := by
  simp [State.hunt]

@[simp] theorem State.port_received (s : State) (p q : Port) :
    (s.received p).port q = if q = p then (s.port p).received else s.port q := by
  simp [State.received]

@[simp] theorem State.port_answer (s : State) (p q : Port) (k : Nat) (r : Reply) :
    (s.answer p k r).port q = if q = p then (s.port p).answer k r else s.port q := by
  simp [State.answer]

@[simp] theorem State.port_answerBusy (s : State) (p q : Port) (k : Nat) :
    (s.answerBusy p k).port q = if q = p then (s.port p).answerBusy k else s.port q := by
  simp [State.answerBusy]

/-- An update that keeps the ports keeps each of them. -/
theorem State.port_congr {s t : State} (h : t.ports = s.ports) (q : Port) : t.port q = s.port q := by
  simp [State.port, h]

@[simp] theorem State.port_grantPort (s : State) (p q : Port) : (s.grantPort p).port q = s.port q := rfl

/-! ## Notices -/

/-- The kinds of a set after one is placed: those that belong to the port and were there, and the one placed. -/
theorem mem_placeNotice (p : Port) (n m : Notice) (set : List Notice) :
    m ∈ placeNotice p n set ↔ m ∈ portNotices p ∧ (m = n ∨ m ∈ set) := by
  simp [placeNotice]

/-- A set in the order of the port's table stays so. -/
theorem placeNotice_sublist (p : Port) (n : Notice) (set : List Notice) :
    (placeNotice p n set).Sublist (portNotices p) := List.filter_sublist

/-- What raising a notice does to the sets of kinds that belong to their ports. -/
theorem raised_raise {s t : State} {raised : List (Port × Notice)} (p : Port) (n : Notice) (h : Raised s t raised) :
    Raised s (t.raise p n) (raised ++ [(p, n)]) := by
  intro q m hm
  by_cases g : q = p
  · subst g
    simp only [State.port_raise, if_true, mem_placeNotice, List.mem_append, List.mem_singleton, Prod.mk.injEq, true_and,
      h q m hm, hm]
    tauto
  · simp [g, h q m hm]

/-- What a conditional raise does. -/
theorem raised_raiseIf {s t : State} {raised : List (Port × Notice)} (c : Bool) (p : Port) (n : Notice) (h : Raised s t raised) :
    Raised s (t.raiseIf c p n) (raised ++ if c then [(p, n)] else []) := by
  cases c
  · simpa [State.raiseIf] using h
  · exact raised_raise p n h

/-- Raising a notice changes nothing of a port but its set. -/
theorem sansNotices_raise (s : State) (p q : Port) (n : Notice) :
    ((s.raise p n).port q).sansNotices = (s.port q).sansNotices := by
  by_cases g : q = p
  · subst g; simp [PortRecord.sansNotices]
  · simp [g]

theorem sansNotices_raiseIf (s : State) (c : Bool) (p q : Port) (n : Notice) :
    ((s.raiseIf c p n).port q).sansNotices = (s.port q).sansNotices := by
  cases c
  · rfl
  · exact sansNotices_raise s p q n

/-! ## The state apart from the Port Unit and the arbiter -/

section
variable (s : State)

@[simp] theorem State.inside_setPort (p : Port) (r : PortRecord) : (s.setPort p r).inside = s.inside := rfl
@[simp] theorem State.inside_raise (p : Port) (n : Notice) : (s.raise p n).inside = s.inside := rfl
@[simp] theorem State.inside_hunt (p : Port) : (s.hunt p).inside = s.inside := rfl
@[simp] theorem State.inside_received (p : Port) : (s.received p).inside = s.inside := rfl
@[simp] theorem State.inside_answer (p : Port) (k : Nat) (r : Reply) : (s.answer p k r).inside = s.inside := rfl
@[simp] theorem State.inside_answerBusy (p : Port) (k : Nat) : (s.answerBusy p k).inside = s.inside := rfl
@[simp] theorem State.inside_passSweep : s.passSweep.inside = s.inside := rfl
@[simp] theorem State.inside_grantPort (p : Port) : (s.grantPort p).inside = s.inside := rfl
@[simp] theorem State.inside_grantSweep : s.grantSweep.inside = s.inside := rfl
@[simp] theorem State.inside_ask (i : InternalRequest) : (s.ask i).inside = s.inside := rfl

@[simp] theorem State.inside_raiseIf (c : Bool) (p : Port) (n : Notice) : (s.raiseIf c p n).inside = s.inside := by
  cases c <;> rfl

@[simp] theorem State.inside_testAvailable : s.testAvailable.inside = s.inside := by simp [State.testAvailable]

@[simp] theorem State.inside_testIf (c : Bool) : (s.testIf c).inside = s.inside := by cases c <;> simp [State.testIf]

@[simp] theorem State.inside_grantInternal (i : InternalRequest) : (s.grantInternal i).inside = s.inside := by
  unfold State.grantInternal; split <;> rfl

end

/-! ## Requests -/

/-- A port that serves turns no request command away. -/
theorem turnsAway_of_serves {s : State} {p : Port} (h : s.serves p) : (s.port p).turnsAway = false := by
  obtain e | ⟨e, g⟩ := h.2
  · simp [PortRecord.turnsAway, e]
  · simpa [PortRecord.turnsAway, e, PortRecord.busyWaits] using g

/-- What a request's command makes of its port's record before the grant: nothing but the receiver's bytes. -/
theorem received_eq (r : PortRecord) : r.received = { r with rx := r.rxAfter } := by
  unfold PortRecord.received PortRecord.rxAfter
  rcases h : r.outstanding with _ | (_ | _ | _) <;> simp only [← h]

/-- Nothing but the receiver's bytes changes as a frame comes in. -/
@[simp] theorem received_tx (r : PortRecord) : r.received.tx = r.tx := by simp [received_eq]
@[simp] theorem received_notices (r : PortRecord) : r.received.notices = r.notices := by simp [received_eq]

/-- An answer placed after a request's frame is in is what `PortRecord.after` says. -/
theorem answer_received (r : PortRecord) (code : Nat) (reply : Reply) : r.received.answer code reply = r.after code reply := by
  rw [received_eq]
  by_cases g : ∃ x ∈ r.tx, x.place = .answer
  · have e : (r.tx.any fun x => x.place == .answer) = true := by simpa using g
    simp only [PortRecord.answer, PortRecord.after, e, if_true, if_pos g]
  · have e : (r.tx.any fun x => x.place == .answer) = false := by simpa using g
    simp only [PortRecord.answer, PortRecord.after, e, if_neg g, Bool.false_eq_true, if_false]

/-- The notices of a port play no part in its answer. -/
theorem answer_sansNotices (r : PortRecord) (code : Nat) (reply : Reply) :
    (r.answer code reply).sansNotices = r.sansNotices.answer code reply := by
  unfold PortRecord.answer PortRecord.sansNotices
  split <;> rfl

/-- A proper request on a port that can serve it is granted. -/
theorem receive_served {s : State} {p : Port} (h : s.serves p) (code : Nat) (effect : State → State) :
    s.receive (proper p) code true effect = effect ((s.received p).grantPort p) := by
  simp [State.receive, State.admission, proper, h.1, turnsAway_of_serves h]

/-- A proper request of a permitted kind on a port that can serve it is served in one grant and answered. -/
theorem request_served {s : State} {p : Port} (h : s.serves p) {k : RequestKind} (hk : k.permitted p = true)
    (effect : State → State × Reply) :
    s.request (proper p) k effect =
      (effect ((s.received p).grantPort p)).1.answer p k.code (effect ((s.received p).grantPort p)).2 := by
  have hp : (proper p).port = p := rfl
  simp only [State.request, hp, hk, receive_served h]

/-- An effect that leaves the ports alone but for notices, and the arbiter alone, leaves a served request answered. -/
theorem served_answer {s v : State} {p : Port} (k : RequestKind) (r : Reply) {raised : List (Port × Notice)}
    (ha : v.arbiter = ((s.received p).grantPort p).arbiter)
    (hp : ∀ q, (v.port q).sansNotices = (((s.received p).grantPort p).port q).sansNotices)
    (hr : Raised s v raised) : Served s (v.answer p k.code r) p k r raised := by
  refine ⟨⟨?_, ?_, ?_⟩, ?_⟩
  · have e := hp p
    simp only [State.port_grantPort, State.port_received, if_true] at e
    rw [State.port_answer, if_pos rfl, answer_sansNotices, e, ← answer_sansNotices, answer_received]
  · intro q hq
    have e := hp q
    simpa [hq] using e
  · intro q n hn'
    have e := hr q n hn'
    by_cases g : q = p
    · subst g
      have m : ((v.port q).answer k.code r).notices = (v.port q).notices := by unfold PortRecord.answer; split <;> rfl
      simpa [m] using e
    · simpa [g] using e
  · exact ha.trans rfl

/-- Nothing raised: the sets after the start of a grant are those before. -/
theorem raised_granted (s : State) (p : Port) : Raised s ((s.received p).grantPort p) [] := by
  intro q n _
  by_cases g : q = p
  · subst g; simp
  · simp [g]

end Sys2Proof.Machine
end

