-- ==== Sys2Proof/Laws/Tasks.lean ====
section
/-! SUPPORT. What the operations of the task list do: look-ups, withdrawals, entries, the evictee, boards in doubt, discrepancies; and
that what the Dispatcher would do does not depend on the Port Unit or the arbiter. -/

namespace Sys2Proof.Machine

variable {s : State}

/-! ## Look-ups -/

/-- The task that is out is in the list and not QUEUED. -/
theorem State.out_some {v : TaskRecord} (h : s.out = some v) : v ∈ s.tasks ∧ v.queued = false :=
  ⟨List.mem_of_find?_eq_some h, by simpa using List.find?_some h⟩

/-- No task is out exactly when every task is QUEUED. -/
theorem State.out_none : s.out = none ↔ ∀ v ∈ s.tasks, v.queued = true := by simp [State.out]

/-- In a list that shares no number, a task of the list is the one under its number. -/
theorem State.task_of_mem (hn : (s.tasks.map TaskRecord.number).Nodup) {v : TaskRecord} (hv : v ∈ s.tasks) :
    s.task v.number = some v := by
  unfold State.task
  generalize s.tasks = l at *
  induction l with
  | nil => simp at hv
  | cons t l ih =>
    simp only [List.map_cons, List.nodup_cons, List.mem_map, not_exists, not_and] at hn
    rcases List.mem_cons.1 hv with rfl | hv
    · simp
    · rw [List.find?_cons, show (t.number == v.number) = false by simpa using fun h => hn.1 v hv h.symm]
      exact ih hn.2 hv

/-- With at most one task out, a task that is not QUEUED is the one that is out. -/
theorem State.out_of_mem (h1 : s.tasks.countP (fun t => !t.queued) ≤ 1) {v : TaskRecord} (hv : v ∈ s.tasks)
    (hq : v.queued = false) : s.out = some v := by
  unfold State.out
  generalize s.tasks = l at *
  induction l with
  | nil => simp at hv
  | cons t l ih =>
    rw [List.countP_cons] at h1
    rcases List.mem_cons.1 hv with rfl | hv
    · simp [hq]
    · have h2 : 0 < l.countP (fun t => !t.queued) := List.countP_pos_iff.2 ⟨v, hv, by simp [hq]⟩
      have ht : t.queued = true := by
        by_contra g
        rw [Bool.not_eq_true] at g
        simp only [g, Bool.not_false, if_true] at h1
        omega
      rw [List.find?_cons]
      simp only [ht, Bool.not_true]
      exact ih (by omega) hv

/-- A task changed by number: the tasks of a list after it. -/
theorem State.mem_changeTask (n : Fin 64) (f : TaskRecord → TaskRecord) (v : TaskRecord) :
    v ∈ (s.changeTask n f).tasks ↔ ∃ t ∈ s.tasks, v = if t.number = n then f t else t := by
  simp only [State.changeTask, List.mem_map, eq_comm]

/-! ## Marks and withdrawals -/

/-- A mark set or cleared for a task: the record of every wheel after it. -/
theorem State.wheel_markTask (t : TaskRecord) (b : Bool) (v : Nat) :
    (s.markTask t b).wheel v = if t.wheel = some v then (s.wheel v).map fun x => x.mark t.kind b else s.wheel v := by
  unfold State.markTask
  cases h : t.wheel with
  | none => simp
  | some w =>
    simp only [State.wheel_changeWheel, Option.some.injEq, eq_comm]

/-- Marks cleared for a list of tasks, one after the other: the record of every wheel after it. -/
theorem State.wheel_markAll (l : List TaskRecord) (v : Nat) :
    (l.foldl (fun u t => u.markTask t false) s).wheel v =
      (s.wheel v).map fun x => (l.filter fun t => t.wheel == some v).foldl (fun x t => x.mark t.kind false) x := by
  induction l generalizing s with
  | nil => simp
  | cons t l ih =>
    rw [List.foldl_cons, ih, State.wheel_markTask]
    by_cases h : t.wheel = some v <;> simp [h, Function.comp_def]

/-- A withdrawal leaves every task that is not picked or not QUEUED, in its order. -/
@[simp] theorem State.withdrawWhere_tasks (p : TaskRecord → Bool) :
    (s.withdrawWhere p).tasks = s.tasks.filter fun t => !(t.queued && p t) := by
  unfold State.withdrawWhere
  generalize s.tasks.filter (fun t => t.queued && p t) = l
  suffices h : ∀ u : State, (l.foldl (fun u t => u.markTask t false) u).tasks = u.tasks from h _
  induction l with
  | nil => intro u; rfl
  | cons t l ih => intro u; rw [List.foldl_cons, ih, State.markTask_tasks]

/-- A withdrawal that picks no QUEUED task changes nothing. -/
theorem State.withdrawWhere_eq_self {p : TaskRecord → Bool} (h : ∀ t ∈ s.tasks, t.queued = true → p t = false) :
    s.withdrawWhere p = s := by
  have h1 : s.tasks.filter (fun t => t.queued && p t) = [] := by
    simp only [List.filter_eq_nil_iff, Bool.and_eq_true, not_and, Bool.not_eq_true]
    exact h
  have h2 : s.tasks.filter (fun t => !(t.queued && p t)) = s.tasks := by
    rw [List.filter_eq_self]
    intro t ht
    cases hq : t.queued <;> simp [h t ht, hq]
  simp only [State.withdrawWhere, h1, h2, List.foldl_nil]

/-- A withdrawal deletes and makes no wheel record. -/
theorem State.wheel_withdrawWhere_isSome (p : TaskRecord → Bool) (v : Nat) :
    ((s.withdrawWhere p).wheel v).isSome = (s.wheel v).isSome := by
  rw [State.withdrawWhere, State.wheel_markAll, Option.isSome_map]
  rfl

/-! ## Boards and discrepancies -/

/-- A reservation released: the slot goes to EMPTY if it was RESERVED so, and no other slot changes. -/
theorem State.slot_freeReserved (c d : Coord) (r : Role) (w : Nat) :
    (s.freeReserved c r w).slot d = if d = c ∧ s.slot c = .reserved r w then .empty else s.slot d := by
  unfold State.freeReserved
  by_cases h : s.slot c = .reserved r w <;> by_cases g : d = c <;> simp [h, g]

/-- A board put in doubt reads SUSPECT; no other slot changes. -/
theorem State.slot_makeSuspect (c d : Coord) (w : Option Nat) :
    (s.makeSuspect c w).slot d = if d = c then .suspect w else s.slot d := by
  have h : (s.makeSuspect c w).slots = (s.setSlot c (.suspect w)).slots := by simp [State.makeSuspect]
  have g := State.slot_setSlot s c d (.suspect w)
  simpa [State.slot, h] using g

/-- The discrepancy list after a finding: the entry is last, or the list was full and is unchanged. -/
theorem State.record_discrepancies' (k : DiscrepancyKind) (c : Option Coord) (w : Option Nat) (t : Option TagId) :
    (s.record k c w t).discrepancies =
      if s.discrepancies.length < Config.discrepancyRoom then s.discrepancies ++ [⟨k, s.clock.minute, c, w, t⟩]
      else s.discrepancies := by
  unfold State.record
  split <;> rfl

/-- The notice a finding raises is the one its room decides. -/
theorem State.raised_record (k : DiscrepancyKind) (c : Option Coord) (w : Option Nat) (t : Option TagId) :
    Raised s (s.record k c w t) s.recordNotice := by
  unfold State.record State.recordNotice
  have h : Raised s s [] := by intro q n _; simp
  by_cases g : s.discrepancies.length < 32
  · simp only [Config.discrepancyRoom, g, if_true]
    exact raised_raise .management .discrepancy
      (s := s) (t := { s with discrepancies := s.discrepancies ++ [⟨k, s.clock.minute, c, w, t⟩] }) h
  · simp only [Config.discrepancyRoom, g, if_false]
    exact raised_raise .management .discrepancyFull h

/-! ## Entries and the evictee -/

/-- The number an entry takes is held by no task. -/
theorem State.freeNumber_free {n : Fin 64} (h : s.freeNumber = some n) : ∀ t ∈ s.tasks, t.number ≠ n := by
  have := List.find?_some h
  simpa using this

/-- Every number below the one an entry takes is held by a task. -/
theorem State.freeNumber_lowest {n m : Fin 64} (h : s.freeNumber = some n) (hm : m < n) : ∃ t ∈ s.tasks, t.number = m := by
  unfold State.freeNumber at h
  obtain ⟨_, as, bs, he, ha⟩ := List.find?_eq_some_iff_append.1 h
  have hp : (List.finRange 64).Pairwise (· < ·) := by decide
  have hmem : m ∈ as ++ n :: bs := he ▸ List.mem_finRange m
  rw [he, List.pairwise_append] at hp
  rcases List.mem_append.1 hmem with hmem | hmem
  · have := ha m hmem
    simpa using this
  · rcases List.mem_cons.1 hmem with rfl | hmem
    · exact absurd hm (lt_irrefl _)
    · exact absurd ((List.pairwise_cons.1 hp.2.1).1 m hmem) (by omega)

/-- The restamped list holds the same tasks in the same order, but for their enqueue sequences. -/
theorem restamp_eq (n : Nat) (l : List TaskRecord) : restamp n l = l.mapIdx fun i t => { t with sequence := n + i } := by
  induction l generalizing n with
  | nil => rfl
  | cons t l ih =>
    simp only [restamp, ih, List.mapIdx_cons, Nat.add_zero, List.cons.injEq, true_and]
    congr 1
    funext i t
    simp [Nat.add_comm, Nat.add_left_comm]

/-- The best of a list under a choice between two is in the list. -/
theorem foldl_choose_mem {α : Type} (f : α → α → α) (hf : ∀ a b, f a b = a ∨ f a b = b) (t : α) (l : List α) :
    l.foldl f t ∈ t :: l := by
  induction l generalizing t with
  | nil => simp
  | cons x l ih =>
    rw [List.foldl_cons]
    rcases List.mem_cons.1 (ih (f t x)) with h | h
    · rw [h]
      rcases hf t x with g | g <;> simp [g]
    · simp [h]

/-- The task that eviction takes is a QUEUED care task of the list. -/
theorem State.evictee_some {v : TaskRecord} (h : s.evictee = some v) : v ∈ s.tasks ∧ v.queued = true ∧ v.isCare = true := by
  unfold State.evictee at h
  split at h
  · cases h
  · rename_i t rest e
    cases h
    have hm := foldl_choose_mem s.weaker (fun a b => by unfold State.weaker; split <;> simp) t rest
    rw [← e] at hm
    simpa [and_assoc] using List.mem_filter.1 hm

/-- A task that a TAKE would issue is a QUEUED task of the list. -/
theorem State.choice_task {v : TaskRecord} (h : s.choice = .task v) : v ∈ s.tasks ∧ v.queued = true := by
  have hc : ∀ {t}, s.carriedFirst = some t → t ∈ s.tasks := by
    intro t ht
    unfold State.carriedFirst at ht
    split at ht
    · cases ht
    · rename_i a rest e
      cases ht
      have hm := foldl_choose_mem older (fun a b => by unfold older; split <;> simp) a rest
      rw [← e] at hm
      exact List.mem_of_mem_filter hm
  have hb : ∀ {t}, s.best (s.tasks.filter s.eligible) = some t → t ∈ s.tasks.filter s.eligible := by
    intro t ht
    generalize s.tasks.filter s.eligible = l at *
    cases l with
    | nil => cases ht
    | cons a rest =>
      cases ht
      exact foldl_choose_mem s.better (fun a b => by unfold State.better; split <;> simp) a rest
  have he : ∀ {t}, s.eligible t = true → t.queued = true := by
    intro t ht
    simp only [State.eligible, Bool.and_eq_true] at ht
    exact ht.1.1
  unfold State.choice at h
  split at h
  · cases h
  · split at h
    · rename_i t ht
      split at h
      · cases h; exact ⟨hc ht, he ‹_›⟩
      · cases h
    · split at h
      · rename_i t ht
        cases h
        have := List.mem_filter.1 (hb ht)
        exact ⟨this.1, he this.2⟩
      · cases h

/-! ## What does not depend on the Port Unit and the arbiter -/

/-- A withdrawal made on the state apart from the Port Unit and the arbiter. -/
theorem State.withdrawWhere_inside (p : TaskRecord → Bool) : s.inside.withdrawWhere p = (s.withdrawWhere p).inside := by
  have h : ∀ (l : List TaskRecord) (u : State),
      l.foldl (fun u t => u.markTask t false) u.inside = (l.foldl (fun u t => u.markTask t false) u).inside := by
    intro l
    induction l with
    | nil => intro u; rfl
    | cons t l ih =>
      intro u
      rw [List.foldl_cons, List.foldl_cons, ← ih]
      congr 1
      unfold State.markTask
      cases t.wheel <;> rfl
  exact h _ { s with tasks := s.tasks.filter fun t => !(t.queued && p t) }

/-- Whether a TAKE would issue a task depends on nothing of the Port Unit and the arbiter. -/
theorem State.wouldIssue_inside : s.inside.wouldIssue = s.wouldIssue := by
  have h1 : s.inside.checkList = s.checkList.inside := State.withdrawWhere_inside _
  have h2 : ∀ u : State, u.inside.choice = u.choice := fun _ => rfl
  unfold State.wouldIssue
  rw [h1, h2]

/-- What the TASK_AVAILABLE test raises depends on nothing of the Port Unit and the arbiter. -/
theorem State.availableNow_congr {t : State} (h : s.inside = t.inside) : s.availableNow = t.availableNow := by
  have hw : s.wouldIssue = t.wouldIssue := by rw [← State.wouldIssue_inside, h, State.wouldIssue_inside]
  have hl : s.inside.link = t.inside.link := by rw [h]
  replace hl : s.link = t.link := hl
  have hd : s.inside.dispatch = t.inside.dispatch := by rw [h]
  replace hd : s.dispatch = t.dispatch := hd
  simp only [State.availableNow, hw, hl, hd]

/-- The test raises what `availableNow` says. -/
theorem State.raised_testAvailable {t : State} {raised : List (Port × Notice)} (h : Raised s t raised) :
    Raised s t.testAvailable (raised ++ t.availableNow) := by
  have g := raised_raiseIf (t.link.state == .idle && !t.dispatch.paused && t.wouldIssue) .robot .taskAvailable h
  have e : t.availableNow =
      if (t.link.state == .idle && !t.dispatch.paused && t.wouldIssue) = true then [(.robot, .taskAvailable)] else [] := by
    simp [State.availableNow, and_assoc]
  rw [e]
  exact g

end Sys2Proof.Machine
end

