-- ==== Sys2Proof/Tests/Slice0.lean ====
section
/-! SUPPORT. Tests: ill-formed commands, the reference values and worked examples of the spec, one step of commands of every family,
and for each statement a state and operands that meet its hypotheses. -/

namespace Sys2Proof.Tests

set_option maxRecDepth 20000

open Sys2Proof.Machine

/-! ## Ill-formed commands: one for each check of `Instr.wellFormed` -/

/-- The ports' own commands: a result byte of two bytes, a name in a kind without names, arguments larger than their bytes. -/
theorem test_wellFormed_refuses_port_commands :
    ([.setWindow ⟨.robot, 256, .fits⟩ 0 0, .setWindow ⟨.robot, 0, .badName⟩ 0 0, .setWindow (proper .robot) 256 0,
      .setWindow (proper .robot) 0 256, .readNotices ⟨.robot, 0, .badName⟩, .setNoticeMask ⟨.robot, 256, .fits⟩ [],
      .listLevel ⟨.robot, 0, .badName⟩ 0, .listLevel (proper .robot) 256, .readHeads ⟨.climate, 0, .badName⟩,
      .readConfig ⟨.climate, 256, .fits⟩ .sensor, .readConfig (proper .climate) (.zone 256),
      .readConfig (proper .management) (.zoneMap 256), .readConfig (proper .management) (.careClass 256),
      .frameDiscard .robot 1#8 [0#8], .frameDiscard .robot 2#8 [1#8, 0#8], .frameDiscard .robot 2#8 [1#8, 0#8, 0x88#8, 0x2B#8],
      .requestBusy .robot 256, .unknownKindRequest ⟨.robot, 0, .badName⟩ 0x30, .unknownKindRequest (proper .robot) 1,
      .unknownKindRequest (proper .robot) 0x2F, .unknownKindRequest (proper .robot) 256] : List Instr).all
        (fun c => !c.wellFormed) = true := by decide

/-- The robot's commands. -/
theorem test_wellFormed_refuses_robot_commands :
    ([.ready ⟨.robot, 0, .badName⟩ false none none, .ready (proper .robot) true (some ⟨256, 0, 0⟩) none,
      .ready (proper .robot) true (some ⟨0, 256, 0⟩) none, .ready (proper .robot) true (some ⟨0, 0, 256⟩) none,
      .take ⟨.robot, 0, .badName⟩, .homed ⟨.robot, 256, .fits⟩, .arrived ⟨.robot, 256, .fits⟩ ⟨0, 0⟩ none,
      .arrived (proper .robot) ⟨256, 0⟩ none, .arrived (proper .robot) ⟨0, 256⟩ none, .picked ⟨.robot, 0, .badName⟩ ⟨0, 0⟩,
      .picked (proper .robot) ⟨256, 0⟩, .slotRead ⟨.robot, 0, .badName⟩ ⟨0, 0⟩ 0 none, .slotRead (proper .robot) ⟨0, 256⟩ 0 none,
      .slotRead (proper .robot) ⟨0, 0⟩ 256 none, .doneReport ⟨.robot, 0, .badName⟩ ⟨0, 0⟩ true true,
      .doneReport (proper .robot) ⟨256, 0⟩ true true, .faultReport ⟨.robot, 256, .fits⟩ .tool none,
      .faultReport (proper .robot) .slotBlocked none, .faultReport (proper .robot) .grip (some ⟨256, 0⟩),
      .slotBlocked ⟨.robot, 0, .badName⟩ none, .slotBlocked (proper .robot) (some ⟨0, 256⟩)] : List Instr).all
        (fun c => !c.wellFormed) = true := by decide

/-- The climate commands. -/
theorem test_wellFormed_refuses_climate_commands :
    ([.setZoneLimits (proper .climate) 256 ⟨0, 0, 0, 0, 0, 0, 0⟩, .setZoneLimits ⟨.climate, 0, .badName⟩ 0 ⟨0, 0, 0, 0, 0, 0, 0⟩,
      .setZoneLimits (proper .climate) 0 ⟨65536, 0, 0, 0, 0, 0, 0⟩, .setZoneLimits (proper .climate) 0 ⟨0, 65536, 0, 0, 0, 0, 0⟩,
      .setZoneLimits (proper .climate) 0 ⟨0, 0, 256, 0, 0, 0, 0⟩, .setZoneLimits (proper .climate) 0 ⟨0, 0, 0, 256, 0, 0, 0⟩,
      .setZoneLimits (proper .climate) 0 ⟨0, 0, 0, 0, 65536, 0, 0⟩, .setZoneLimits (proper .climate) 0 ⟨0, 0, 0, 0, 0, 65536, 0⟩,
      .setZoneLimits (proper .climate) 0 ⟨0, 0, 0, 0, 0, 0, 256⟩, .ackZone (proper .climate) 256, .ackZone ⟨.climate, 0, .badName⟩ 0,
      .readZone (proper .climate) 256, .readZone ⟨.climate, 0, .badName⟩ 0, .startCapture (proper .climate) 256 0,
      .startCapture (proper .climate) 0 65536, .startCapture ⟨.climate, 0, .badName⟩ 0 0, .stopCapture (proper .climate) 256,
      .stopCapture ⟨.climate, 0, .badName⟩ 0, .readCapture (proper .climate) 256 1, .readCapture (proper .climate) 0 256,
      .readCapture ⟨.climate, 0, .badName⟩ 0 1, .endExclusion (proper .climate) 256, .endExclusion ⟨.climate, 0, .badName⟩ 0,
      .requestExclusion (proper .climate) 256 1, .requestExclusion (proper .climate) 0 65536,
      .requestExclusion ⟨.climate, 0, .badName⟩ 0 1] : List Instr).all (fun c => !c.wellFormed) = true := by decide

/-- The management commands on slots, wheels, tasks and the clock. -/
theorem test_wellFormed_refuses_management_commands :
    ([.setSlotFault (proper .management) 256 0, .setSlotFault (proper .management) 0 256,
      .setSlotFault ⟨.management, 0, .badName⟩ 0 0, .clearSlotFault (proper .management) 256 0,
      .clearSlotFault (proper .management) 0 256, .clearSlotFault ⟨.management, 0, .badName⟩ 0 0,
      .setClock (proper .management) (Config.maxMinute + 1), .setClock ⟨.management, 0, .badName⟩ 0,
      .readStatus ⟨.management, 0, .badName⟩, .readWheel (proper .management) 65536, .readWheel ⟨.management, 0, .badName⟩ 0,
      .findWheel ⟨.management, 0, .badName⟩ 1#48, .setClass (proper .management) 65536 0, .setClass (proper .management) 0 256,
      .setClass ⟨.management, 0, .badName⟩ 0 0, .holdWheel (proper .management) 65536 .inspect,
      .holdWheel ⟨.management, 256, .fits⟩ 0 .inspect, .release (proper .management) 65536, .release ⟨.management, 0, .badName⟩ 0,
      .clearCareFault (proper .management) 65536, .clearCareFault ⟨.management, 0, .badName⟩ 0,
      .bookIn (proper .management) 1#48 65536 0 0 .auto false, .bookIn (proper .management) 1#48 0 (Config.maxMinute + 1) 0 .auto false,
      .bookIn (proper .management) 1#48 0 0 256 .auto false, .bookIn (proper .management) 1#48 0 0 0 (.explicit 256 0) false,
      .bookIn (proper .management) 1#48 0 0 0 (.explicit 0 256) false, .bookIn ⟨.management, 0, .badName⟩ 1#48 0 0 0 .auto false,
      .relocate (proper .management) 256 0 0 0, .relocate (proper .management) 0 256 0 0, .relocate (proper .management) 0 0 256 0,
      .relocate (proper .management) 0 0 0 256, .relocate ⟨.management, 0, .badName⟩ 0 0 0 0, .bookOut (proper .management) 65536,
      .bookOut ⟨.management, 0, .badName⟩ 0, .cancelMove (proper .management) 65536, .cancelMove ⟨.management, 0, .badName⟩ 0,
      .abortTask (proper .management) 256, .abortTask ⟨.management, 0, .badName⟩ 0, .pauseDispatch ⟨.management, 0, .badName⟩,
      .resumeDispatch ⟨.management, 0, .badName⟩, .readTasks (proper .management) 256, .readTasks ⟨.management, 0, .badName⟩ 0,
      .clearRobotHalt ⟨.management, 0, .badName⟩, .requestSurvey (proper .management) 256 0 0,
      .requestSurvey (proper .management) 0 256 0, .requestSurvey (proper .management) 0 0 256,
      .requestSurvey ⟨.management, 0, .badName⟩ 0 0 0, .readDiscrepancy ⟨.management, 0, .badName⟩,
      .saveConfig ⟨.management, 0, .badName⟩] : List Instr).all (fun c => !c.wellFormed) = true := by decide

/-- The resolving commands. -/
theorem test_wellFormed_refuses_resolving_commands :
    ([.resolveSlotConfirm ⟨.management, 256, .fits⟩ 0 0, .resolveSlotConfirm (proper .management) 256 0,
      .resolveSlotConfirm (proper .management) 0 256, .resolveSlotClear (proper .management) 256 0,
      .resolveSlotClear (proper .management) 0 256, .resolveSlotClear ⟨.management, 256, .fits⟩ 0 0,
      .resolveSlotAssign (proper .management) 256 0 1#48, .resolveSlotAssign (proper .management) 0 256 1#48,
      .resolveSlotAssign ⟨.management, 256, .fits⟩ 0 0 1#48, .resolveWheelPlaceAt (proper .management) 65536 0 0,
      .resolveWheelPlaceAt (proper .management) 0 256 0, .resolveWheelPlaceAt (proper .management) 0 0 256,
      .resolveWheelPlaceAt ⟨.management, 256, .fits⟩ 0 0 0, .resolveWheelDelete (proper .management) 65536,
      .resolveWheelDelete ⟨.management, 256, .fits⟩ 0] : List Instr).all (fun c => !c.wellFormed) = true := by decide

/-- A class record that fits its bytes. -/
def someClass : RawClass := ⟨true, 900, 14, 60, 180, #v[1440, 2880, 5760, 10080], #v[0, 4320, 8640, 10080], 20, 35, 16, 120⟩

/-- A ROBOT section that fits its bytes. -/
def someRobot : RawRobot := ⟨⟨0, 0, 0⟩, ⟨0, 0, 47⟩, ⟨0, 0, 0⟩, Vector.replicate 8 5, 40, 6, 1000⟩

/-- The sections. -/
theorem test_wellFormed_refuses_sections :
    ([.writeConfigGeometry (proper .management) 256 1 1 (Vector.replicate 16 false),
      .writeConfigGeometry (proper .management) 1 256 1 (Vector.replicate 16 false),
      .writeConfigGeometry (proper .management) 1 1 256 (Vector.replicate 16 false),
      .writeConfigGeometry ⟨.management, 256, .fits⟩ 1 1 1 (Vector.replicate 16 false),
      .writeConfigZoneMap (proper .management) 256 (Vector.replicate 12 0),
      .writeConfigZoneMap (proper .management) 0 (Vector.replicate 12 256),
      .writeConfigZoneMap ⟨.management, 256, .fits⟩ 0 (Vector.replicate 12 0),
      .writeConfigCareClass (proper .management) 256 someClass, .writeConfigCareClass ⟨.management, 256, .fits⟩ 0 someClass,
      .writeConfigCareClass (proper .management) 0 { someClass with setpoint := 65536 },
      .writeConfigCareClass (proper .management) 0 { someClass with d1 := 65536 },
      .writeConfigCareClass (proper .management) 0 { someClass with d2 := 65536 },
      .writeConfigCareClass (proper .management) 0 { someClass with d3 := 65536 },
      .writeConfigCareClass (proper .management) 0 { someClass with flipBase := #v[30, 30, 30, 65536] },
      .writeConfigCareClass (proper .management) 0 { someClass with brushBase := #v[65536, 0, 0, 0] },
      .writeConfigCareClass (proper .management) 0 { someClass with kf := 256 },
      .writeConfigCareClass (proper .management) 0 { someClass with kb := 256 },
      .writeConfigCareClass (proper .management) 0 { someClass with weight := 256 },
      .writeConfigCareClass (proper .management) 0 { someClass with merge := 256 },
      .writeConfigRobot ⟨.management, 256, .fits⟩ someRobot,
      .writeConfigRobot (proper .management) { someRobot with infeed := ⟨256, 0, 0⟩ },
      .writeConfigRobot (proper .management) { someRobot with outfeed := ⟨0, 256, 0⟩ },
      .writeConfigRobot (proper .management) { someRobot with home := ⟨0, 0, 256⟩ },
      .writeConfigRobot (proper .management) { someRobot with allowances := Vector.replicate 8 256 },
      .writeConfigRobot (proper .management) { someRobot with ca := 256 },
      .writeConfigRobot (proper .management) { someRobot with cl := 256 },
      .writeConfigRobot (proper .management) { someRobot with boost := 65536 },
      .writeConfigSweep (proper .management) 256, .writeConfigSweep ⟨.management, 256, .fits⟩ 10,
      .writeConfigSensor (proper .management) 65536 (Vector.replicate 24 none),
      .writeConfigSensor (proper .management) 60 (Vector.replicate 24 (some 256)),
      .writeConfigSensor ⟨.management, 256, .fits⟩ 60 (Vector.replicate 24 none),
      .writeConfigZone (proper .management) 256 ⟨0, 0, 0, 0, 0, 0, 0⟩, .writeConfigZone ⟨.management, 256, .fits⟩ 0 ⟨0, 0, 0, 0, 0, 0, 0⟩,
      .writeConfigZone (proper .management) 0 ⟨65536, 0, 0, 0, 0, 0, 0⟩] : List Instr).all (fun c => !c.wellFormed) = true := by
  decide

/-- Proper commands pass, among them one with every argument at the top of its bytes. -/
theorem test_wellFormed_takes_proper_commands :
    ([.setWindow ⟨.robot, 255, .badLength⟩ 255 255, .readCapture (proper .climate) 7 6, .writeConfigCareClass (proper .management) 3 someClass,
      .writeConfigRobot (proper .management) someRobot, .setClock (proper .management) Config.maxMinute,
      .holdWheel ⟨.management, 0, .badName⟩ 65535 .none, .faultReport ⟨.robot, 0, .badName⟩ .tool none,
      .unknownKindRequest (proper .robot) 0, .unknownKindRequest (proper .robot) 0x30, .frameDiscard .robot 1#8 [],
      .frameDiscard .robot 2#8 [1#8, 0#8, 0#8, 0#8]] : List Instr).all Instr.wellFormed = true := by decide

/-! ## Reference values and worked examples of the spec -/

/-- 02 R24: the CRC-16 of tag content over 31h to 39h is FEE8h; six bytes of zero match their check but name no wheel. -/
theorem test_tag_check :
    crc16 0x0000#16 [0x31#8, 0x32#8, 0x33#8, 0x34#8, 0x35#8, 0x36#8, 0x37#8, 0x38#8, 0x39#8] = 0xFEE8#16 ∧
      classify (some 0#64) = .unreadable := by decide

/-- 09 R154: the CRC-8 over 31h to 39h is F7h, and the poll to head 1 is 01h with check 9Dh. -/
theorem test_loop_check :
    crc8 [0x31#8, 0x32#8, 0x33#8, 0x34#8, 0x35#8, 0x36#8, 0x37#8, 0x38#8, 0x39#8] = 0xF7#8 ∧ crc8 [0x01#8] = 0x9D#8 := by decide

/-- Class 3 of the worked example of chapter 3, which chapters 4 and 5 give the same weight and merge window. -/
def class3 : CareClass := ⟨true, 900, 14, 60, 180, #v[1440, 2880, 5760, 10080], #v[0, 4320, 8640, 10080], 20, 35, 16, 120⟩

/-- The lines of "the computation at its limits" (03): band 2 at 934 and at 780, then the truncations and the clamps. -/
theorem test_interval_examples :
    class3.flipInterval 69 934 = 5368 ∧ class3.brushInterval 69 934 = some 7611 ∧
      class3.flipInterval 69 780 = 7142 ∧ class3.brushInterval 69 780 = some 12268 ∧ class3.brushInterval 13 934 = none ∧
      careInterval 1440 (careFactor (adjustment (-7) 15)) = 1454 ∧ careInterval 1440 (careFactor (adjustment 7 15)) = 1425 ∧
      careInterval 43200 (careFactor (adjustment (-990) 100)) = 43200 ∧ careInterval 30 (careFactor (adjustment 300 100)) = 30 := by
  decide

/-- 03 "Band boundary": minute 1,020,159 is day 13 and band 0, minute 1,020,160 day 14 and band 1. -/
theorem test_band_boundary :
    class3.band (ageDays 1020159 1000000) = 0 ∧ class3.band (ageDays 1020160 1000000) = 1 := by decide

/-- 09's zone through a head failure, passes 2, 3, 4, 7 and 9: first sample, two steps toward the mean, LOST, and first sample again;
and the hold time of 60, which filters on. -/
theorem test_filter_example :
    let l : ZoneLimits := { ZoneLimits.default with hold := 3, shift := 2 }
    let live (h : Nat) : Zone := { Zone.initial with humidity := .live, filtered := some h }
    (Zone.initial.update l 0 ⟨1, 912⟩).filtered = some 912 ∧ ((live 912).update l 0 ⟨2, 1879⟩).filtered = some 919 ∧
      ((live 919).update l 0 ⟨1, 900⟩).filtered = some 915 ∧
      (Zone.update { live 915 with humidity := .holding, holdCount := 3 } l 0 ⟨0, 0⟩).humidity = .lost ∧
      (Zone.update { live 915 with humidity := .lost } l 0 ⟨2, 1857⟩).filtered = some 929 ∧
      (Zone.update { live 915 with humidity := .holding } l 0 ⟨2, 1857⟩).filtered = some 918 := by decide

/-- 10's alarm in zone 4, passes 2, 4, 5 and 6 (filter shift 0). -/
theorem test_alarm_example :
    let l : ZoneLimits := { ZoneLimits.default with shift := 0 }
    let watch (n : Nat) : Zone := { Zone.initial with humidity := .live, alarm := .highWatch, dwell := n }
    let alarm : Zone := { Zone.initial with humidity := .live, alarm := .highAlarm, dwell := 3 }
    (Zone.initial.update l 2 ⟨1, 974⟩).alarm = .highWatch ∧ ((watch 2).update l 4 ⟨1, 983⟩).alarm = .highAlarm ∧
      ((watch 2).update l 4 ⟨1, 983⟩).unacked = true ∧ (alarm.update l 7 ⟨1, 961⟩).alarm = .highAlarm ∧
      (alarm.update l 8 ⟨1, 950⟩).alarm = .normal := by decide

/-! ## Sample states -/

/-- The tag content of the wheel of chapter 6's example: ID 00B2D4010A33h and its check. -/
def content : TagContent := 0x00B2D4010A3318EA#64

/-- A tag that names no wheel of the samples: ID 00C40A77120Eh and its check. -/
def stranger : TagContent := 0x00C40A77120EC168#64

/-- A board of the samples. -/
def board : Coord := ⟨5, 3, 12⟩

/-- A second board, in the same zone. -/
def other : Coord := ⟨5, 1, 30⟩

/-- Classes with class 3 valid. -/
def classes : Vector CareClass 16 := (Vector.replicate 16 CareClass.default).set 3 class3

/-- A RUNNING part at minute 2,400,000 with class 3 valid, both halves of the management window on aisle 5, and no wheel. -/
def hall : State :=
  { State.reset with
    clock := ⟨2400000, false⟩
    config := { Configuration.default with classes := classes }
    retainedProfiles := classes
    ports := { State.reset.ports with management := { State.reset.ports.management with window := ⟨5, 5⟩ } } }

/-- A wheel of class 3. -/
def wheelAt (l : Location) (i : Option Intent) : Wheel :=
  { tag := 0x00B2D4010A33#48, batch := 7, cls := 3, entry := 2300000, location := l, faceUp := .a, lastFlip := some 2396000
    lastBrush := some 2395000, flipDue := some 2399000, brushDue := some 2399500, flipCount := 0, brushCount := 0, hold := .none
    careFault := none, intent := i, lastOutcome := none, lastSeen := none, flipMark := false, brushMark := false, moveMark := false }

/-- The hall with wheel 1500, a slot map, a link state and a task list. -/
def sample (x : Wheel) (slots : Table SlotEntry) (l : LinkState) (tasks : List TaskRecord) : State :=
  { hall with
    wheels := [(1500, x)]
    tags := [(x.tag.toNat, 1500)]
    slots := slots
    tasks := tasks
    dispatch := { Dispatcher.initial with sequence := 10 }
    link := { RobotLink.initial with
      state := l, position := some ⟨5, 0, 3⟩, deadline := if l = .working then some 12 else none
      issuedTag := if l = .working then some x.tag else none } }

/-- The same with the verify flag set. -/
def State.verify (s : State) : State := { s with link := { s.link with verified := true } }

/-- A task of wheel 1500 under number 6. -/
def taskOf (k : TaskKind) (p : TaskPlace) (st : TaskState) : TaskRecord :=
  { TaskRecord.offered k (some 1500) p 2399000 with number := 6, issue := 1, state := st, sequence := 3 }

/-- A MOVE intent to the second board, or a REMOVE, before the pick. -/
def intentOf (k : MoveKind) : Intent :=
  { kind := k, destination := if k = .remove then .outfeed else .slot other, retargeted := false, returnSlot := none
    phase := .beforePick, status := .active }

/-- The same CARRIED, a MOVE or REMOVE with its return slot. -/
def carriedOf (k : MoveKind) : Intent :=
  { intentOf k with phase := .carried, returnSlot := if k = .place then none else some board }

/-- The movement task of an intent. -/
def moveTask (i : Intent) (st : TaskState) : TaskRecord :=
  { taskOf (.movement i.kind) (if i.kind = .place then .infeed else .board board) st with
    destination := some i.destination, phase := some i.phase }

/-- A SURVEY of positions 12 to 13 of the board's level with a next position. -/
def surveyTask (next : Option (Fin 48)) (st : TaskState) : TaskRecord :=
  { taskOf .survey (.level 5 3) st with wheel := none, range := some ⟨12, 13, next⟩ }

/-- On a board, with nothing to do. -/
def atRest : State := sample (wheelAt (.inSlot board) none) [(board.key, .occupied 1500)] .idle []

/-- On a board with a care task. -/
def caring (k : TaskKind) (st : TaskState) (l : LinkState) : State :=
  sample { wheelAt (.inSlot board) none with flipMark := k != .brush, brushMark := k != .flip } [(board.key, .occupied 1500)] l
    [taskOf k (.board board) st]

/-- The slot map of a movement to the second board. -/
def bound (e : SlotEntry) (k : MoveKind) : Table SlotEntry :=
  (if k = .remove then [] else [(other.key, .reserved .destination 1500)]) ++ [(board.key, e)]

/-- On a board with a MOVE or a REMOVE task, BEFORE_PICK. -/
def moving (k : MoveKind) (st : TaskState) (l : LinkState) : State :=
  sample { wheelAt (.inSlot board) (some (intentOf k)) with moveMark := true } (bound (.occupied 1500) k) l [moveTask (intentOf k) st]

/-- AT_INFEED with a PLACE task, BEFORE_PICK. -/
def placing (st : TaskState) (l : LinkState) : State :=
  sample { wheelAt .atInfeed (some (intentOf .place)) with moveMark := true } [(other.key, .reserved .destination 1500)] l
    [moveTask (intentOf .place) st]

/-- IN_GRIPPER with a CARRIED task. -/
def carrying (k : MoveKind) (st : TaskState) (l : LinkState) : State :=
  sample { wheelAt .inGripper (some (carriedOf k)) with moveMark := true }
    (if k = .place then [(other.key, .reserved .destination 1500)] else bound (.reserved .putBack 1500) k) l
    [moveTask (carriedOf k) st]

/-- The intent and task of a PARK. -/
def parking : State :=
  sample { wheelAt .inGripper (some parkIntent) with moveMark := true } [] .working
    [{ taskOf (.movement .park) .infeed .issued with destination := some .infeed, phase := some .carried }]

/-- A SURVEY out over the board, which holds an entry. -/
def surveying (e : SlotEntry) (next : Option (Fin 48)) (st : TaskState) : State :=
  sample (match e with
    | .occupied _ | .suspect (some _) => wheelAt (.inSlot board) none
    | _ => wheelAt .unknown none) (if e = .empty then [] else [(board.key, e)]) .working [surveyTask next st]

/-- A wheel of unknown location. -/
def lost : State := sample (wheelAt .unknown none) [] .idle []

/-- No wheel and no task, IDLE. -/
def quiet : State := { hall with link := { RobotLink.initial with state := .idle, position := some ⟨5, 0, 3⟩ } }

/-- A port record with a request outstanding. -/
def busyPort : PortRecord := { PortRecord.initial .management .b57600 with outstanding := some .saving }

/-- The hall with a request outstanding on the management port. -/
def busy : State := hall.setPort .management busyPort

/-- The hall with a served save's answer and a BUSY behind it in the management port's transmitter, and nothing outstanding. -/
def unsent : State :=
  hall.setPort .management { PortRecord.initial .management .b57600 with
    tx := [⟨0x2F, ⟨.ok, .empty⟩, .answer⟩, ⟨0x1A, ⟨.busy, .empty⟩, .busy⟩] }

/-- Changed in its supply to RETENTION. -/
def asleep : State := { atRest with supply := ⟨.retention, true, false⟩ }

/-! ### The laws of the samples -/

/-- A sample keeps the Table Store's law when its slot map does. -/
theorem sample_store (x : Wheel) (slots : Table SlotEntry) (l : LinkState) (tasks : List TaskRecord)
    (hx : tagIdValid x.tag = true) (hs : slots.canonical = true ∧ ∀ e ∈ slots, e.2 ≠ .empty) :
    (sample x slots l tasks).StoreLaw where
  slots := hs
  wheels := ⟨rfl, by simpa [sample, Config.handles] using hx⟩
  tags := rfl
  index := by
    intro k w
    by_cases h : x.tag.toNat = k <;> by_cases g : w = 1500 <;>
      (simp [sample, State.wheel, Table.find, h, g, eq_comm]; try grind)
  discrepancies := by simp [sample, hall, State.reset]

/-- The hall keeps the Table Store's law. -/
theorem hall_store : hall.StoreLaw where
  slots := by decide
  wheels := by decide
  tags := rfl
  index := by intro k w; simp [hall, State.reset, State.wheel, Table.find]
  discrepancies := by decide

/-- The configuration of the samples lies in its ranges. -/
theorem hall_fits : hall.config.Fits where
  aisles := by decide
  boards := by decide
  quarantine := by decide
  classes := by
    have h3 : class3.Fits := by constructor <;> decide
    have hd : CareClass.default.Fits := by constructor <;> decide
    intro n
    by_cases h : n = 3
    · subst h; exact h3
    · have : (hall.config.classes[n]) = CareClass.default := by
        revert h; revert n; decide
      rw [this]; exact hd
  allowances := by decide
  scores := by decide
  periods := by decide
  zones := by
    have hd : ZoneLimits.default.Fits := by constructor <;> decide
    intro z
    have : (hall.config.zones[z]) = ZoneLimits.default := by revert z; decide
    rw [this]; exact hd

/-- The default configuration lies in its ranges. -/
theorem default_fits : Configuration.default.Fits where
  aisles := by decide
  boards := by decide
  quarantine := by decide
  classes := by
    have hd : CareClass.default.Fits := by constructor <;> decide
    intro n
    have : (Configuration.default.classes[n]) = CareClass.default := by revert n; decide
    rw [this]; exact hd
  allowances := by decide
  scores := by decide
  periods := by decide
  zones := by
    have hd : ZoneLimits.default.Fits := by constructor <;> decide
    intro z
    have : (Configuration.default.zones[z]) = ZoneLimits.default := by revert z; decide
    rw [this]; exact hd

/-- The wheel on a board keeps the law of the configuration. -/
theorem atRest_config : atRest.ConfigLaw where
  working := hall_fits
  image := default_fits
  saving := by intro c h; cases h
  geometry := rfl
  profiles := rfl
  valid := by decide

theorem hall_config : hall.ConfigLaw where
  working := hall_fits
  image := default_fits
  saving := by intro c h; cases h
  geometry := rfl
  profiles := rfl
  valid := by decide

/-- A sample with one task keeps the task list's law when the task is shaped by its kind, and the link is WORKING exactly when it is
out. -/
theorem sample_tasks (x : Wheel) (slots : Table SlotEntry) (l : LinkState) (t : TaskRecord) (ht : t.Shaped) (hs : t.sequence < 10)
    (hl : l = .working ↔ t.queued = false) : (sample x slots l [t]).TaskLaw where
  numbers := by simp [sample]
  shapes := by simpa [sample] using ht
  order := by simpa [sample] using hs
  room := by cases h : t.isCare <;> simp [sample, State.careCount, State.nonCareCount, Config.listRoom, Config.careRoom,
    Config.nonCareRoom, h]
  oneOut := by cases h : t.queued <;> simp [sample, h]
  working := by simpa [sample] using hl
  idle := by
    intro h
    have g : l ≠ .working := h
    refine ⟨?_, rfl, ?_, ?_⟩
    · simp [sample, g]
    · simp [sample, g]
    · show ∀ z : ZoneNumber, (hall.zone z).presence = false
      decide

/-- A sample without a task keeps it when the link is not WORKING. -/
theorem sample_empty (x : Wheel) (slots : Table SlotEntry) (l : LinkState) (hl : l ≠ .working) : (sample x slots l []).TaskLaw where
  numbers := by simp [sample]
  shapes := by simp [sample]
  order := by simp [sample]
  room := by simp [sample, State.careCount, State.nonCareCount]
  oneOut := by simp [sample]
  working := by simpa [sample] using hl
  idle := by
    intro _
    refine ⟨?_, rfl, ?_, ?_⟩
    · simp [sample, hl]
    · simp [sample, hl]
    · show ∀ z : ZoneNumber, (hall.zone z).presence = false
      decide

/-- The verify flag of a task that is out does not matter to the law. -/
theorem verify_tasks {s : State} (h : s.TaskLaw) (hl : s.link.state = .working) : (State.verify s).TaskLaw where
  numbers := h.numbers
  shapes := h.shapes
  order := h.order
  room := h.room
  oneOut := h.oneOut
  working := h.working
  idle := fun g => absurd hl g

theorem atRest_store : atRest.StoreLaw := sample_store _ _ _ _ (by decide) (by decide)
theorem atRest_tasks : atRest.TaskLaw := sample_empty _ _ _ (by decide)
theorem caring_tasks (k : TaskKind) (st : TaskState) (l : LinkState) (hk : k = .flip ∨ k = .brush ∨ k = .flipBrush)
    (hl : l = .working ↔ st ≠ .queued) : (caring k st l).TaskLaw := by
  refine sample_tasks _ _ _ _ ?_ (by simp [taskOf]) ?_
  · rcases hk with rfl | rfl | rfl <;> exact ⟨rfl, ⟨board, rfl⟩, rfl, rfl, rfl⟩
  · cases st <;> simpa [taskOf, TaskRecord.offered, TaskRecord.queued] using hl
theorem moving_tasks (k : MoveKind) (st : TaskState) (l : LinkState) (hl : l = .working ↔ st ≠ .queued) :
    (moving k st l).TaskLaw := by
  refine sample_tasks _ _ _ _ ⟨rfl, rfl, rfl, rfl⟩ (by simp [moveTask, taskOf]) ?_
  cases st <;> simpa [moveTask, taskOf, TaskRecord.offered, TaskRecord.queued] using hl
theorem placing_tasks (st : TaskState) (l : LinkState) (hl : l = .working ↔ st ≠ .queued) : (placing st l).TaskLaw := by
  refine sample_tasks _ _ _ _ ⟨rfl, rfl, rfl, rfl⟩ (by simp [moveTask, taskOf]) ?_
  cases st <;> simpa [moveTask, taskOf, TaskRecord.offered, TaskRecord.queued] using hl
theorem carrying_tasks (k : MoveKind) (st : TaskState) (l : LinkState) (hl : l = .working ↔ st ≠ .queued) :
    (carrying k st l).TaskLaw := by
  refine sample_tasks _ _ _ _ ⟨rfl, rfl, rfl, rfl⟩ (by simp [moveTask, taskOf]) ?_
  cases st <;> simpa [moveTask, taskOf, TaskRecord.offered, TaskRecord.queued] using hl
theorem surveying_tasks (e : SlotEntry) (next : Option (Fin 48)) (st : TaskState) (hs : st ≠ .queued) :
    (surveying e next st).TaskLaw := by
  refine sample_tasks _ _ _ _ ⟨rfl, ⟨5, 3, rfl⟩, rfl, rfl, rfl⟩ (by simp [surveyTask, taskOf]) ?_
  cases st <;> simp_all [surveyTask, taskOf, TaskRecord.offered, TaskRecord.queued]

/-! ## Witnesses: for each statement with hypotheses, a state and operands that meet them, clause by clause -/

theorem test_witness_RequestsAreAdmittedInOrder :
    ((Instr.readStatus (proper .management)).request = some (.readStatus, proper .management) ∧ busy.supply.state = .running ∧
      (busy.port .management).outstanding = some .saving) ∧
    (hall.supply.state = .running ∧ (hall.port .robot).outstanding = none ∧ (busy.port .management).outstanding ≠ none) ∧
    ((Instr.readStatus ⟨.management, 1, .fits⟩).request = some (.readStatus, ⟨.management, 1, .fits⟩) ∧ hall.serves .management ∧
      (1 : Nat) ≠ 0) ∧
    ((Instr.take ⟨.robot, 0, .badLength⟩).request = some (.take, ⟨.robot, 0, .badLength⟩) ∧ hall.serves .robot ∧
      RequestKind.take.permitted .robot = true ∧ Port.robot ≠ .climate) ∧
    ((Instr.take (proper .management)).request = some (.take, proper .management) ∧
      RequestKind.take.permitted .management = false) ∧
    (hall.serves .climate ∧ (∀ n, SectionName.sweep ≠ .zone n) ∧ SectionName.sweep ≠ .sensor) ∧
    (unsent.supply.state = .running ∧ (unsent.port .management).outstanding = none ∧
      ∃ x ∈ (unsent.port .management).tx, x.place = .busy) ∧ SectionName.zone 7 = .zone 7 :=
  ⟨by decide, by decide, by decide, by decide, by decide, ⟨by decide, (nofun), by decide⟩, by decide, rfl⟩

theorem test_witness_RetentionHoldsStill :
    (asleep.supply.state = .retention ∧ Instr.zoneUpdate ≠ .minuteEvent ∧ (∀ b, Instr.zoneUpdate ≠ .batteryThreshold b) ∧
      ∀ i, Instr.zoneUpdate ≠ .mainSupplyReturn i) ∧ hall.supply.state = .running :=
  ⟨⟨by decide, by decide, (nofun), (nofun)⟩, by decide⟩

theorem test_witness_OnlyTheirCommandsChangeClockAndConfiguration :
    (∃ t, exec .secondEvent hall = .next t) ∧ (∀ i, Instr.secondEvent ≠ .mainSupplyReturn i) ∧
      (∀ f m, Instr.secondEvent ≠ .setClock f m) ∧ Instr.secondEvent ≠ .minuteEvent ∧ (∀ f, Instr.secondEvent ≠ .saveConfig f) ∧
      (∀ b, Instr.secondEvent ≠ .saveComplete b) ∧ Instr.secondEvent ≠ .mainSupplyFail ∧
      (∀ i, Instr.secondEvent ≠ .resetLine i) ∧ (∀ f, Instr.secondEvent.request ≠ some (.writeConfig, f)) ∧
      ∀ f, Instr.secondEvent.request ≠ some (.setZoneLimits, f) :=
  ⟨⟨_, rfl⟩, (nofun), (nofun), by decide, (nofun), (nofun), by decide, (nofun), (nofun), (nofun)⟩

/-- After a grant to the sweep the turn is the management port's: the robot waits one place on, the sweep three. -/
theorem test_witness_ArbiterGrantsByTheRule :
    let turn : List Requester := [.port .management, .port .robot, .port .climate, .sweep]
    let s (passedOver : Nat) (running : Bool) : State :=
      { hall with sweep := { hall.sweep with running := running }, arbiter := ⟨.sweep, passedOver, []⟩ }
    ((s 4 true).sweep.running = true ∧ 4 ≤ (s 4 true).arbiter.passedOver) ∧
    (hall.arbiter.passedOver < 4 ∧ hall.arbiter.asked = [.zoneUpdate]) ∧
    ((s 3 true).arbiter.passedOver < 4 ∧ (s 3 true).arbiter.asked = [] ∧ Requester.port .robot ∈ turn ∧
      (∃ p ∈ [Port.robot], Requester.port .robot = .port p) ∧
      ∀ q ∈ turn, (∃ p ∈ [Port.robot], q = .port p) ∨ (q = .sweep ∧ (s 3 true).sweep.running = true) →
        (turn.idxOf (.port .robot) + 3 - turn.idxOf .sweep) % 4 ≤ (turn.idxOf q + 3 - turn.idxOf .sweep) % 4) ∧
    ((s 0 false).sweep.running = false ∧ (s 0 false).arbiter.asked = [] ∧
      ∀ r ∈ turn, ¬ ((∃ p ∈ ([] : List Port), r = .port p) ∨ (r = .sweep ∧ (s 0 false).sweep.running = true))) := by decide

/-- A port whose answer waits behind an earlier one. -/
def waitingPort : PortRecord :=
  { PortRecord.initial .robot .b57600 with
    outstanding := some (.answered 6 ⟨.ok, .empty⟩), tx := [⟨6, ⟨.ok, .empty⟩, .answer⟩] }

theorem test_witness_FramesAndResponsesLeaveTheirPlaces :
    (hall.supply.state = .running ∧ frameSurvives 1#8 [] = false) ∧
    (busy.supply.state = .running ∧ (busy.port .management).outstanding = some .saving) ∧
    (let s := hall.setPort .robot waitingPort
     s.supply.state = .running ∧ (s.port .robot).outstanding = some (.answered 6 ⟨.ok, .empty⟩) ∧
       ∀ x ∈ (s.port .robot).tx.tail, x.place ≠ .answer) ∧
    (List.replicate 253 (0#8 : Byte)).length ≤ 253 := by decide

theorem test_witness_SetWindowReplacesBothHalves :
    hall.serves .robot ∧ (15 : Fin 16).val < hall.config.geometry.aisles ∧ hall.config.geometry.aisles ≤ 16 := by decide

theorem test_witness_NoticesAreRaisedReadAndMasked :
    hall.serves .management ∧ ∃ e ∈ [(Notice.taskAvailable, true)], e.1 ∉ portNotices .management := by decide

theorem test_witness_ReadsChangeNothing :
    (Port.robot ≠ .climate ∧ hall.serves .robot ∧ (11 : Fin 12).val < hall.config.geometry.levels ∧
      hall.config.geometry.positions ≤ 48 ∧ (47 : Fin 48).val < hall.config.geometry.positions ∧ hall.config.geometry.levels ≤ 12) ∧
    (atRest.serves .management ∧ atRest.wheel 1500 = some (wheelAt (.inSlot board) none) ∧ 1500 < Config.handles ∧
      8191 < Config.handles ∧ atRest.wheel 8191 = none ∧ Config.handles ≤ 8192) ∧
    ((caring .flip .queued .idle).serves .management ∧ (caring .flip .queued .idle).TaskLaw ∧ 63 < 64) ∧
    (Port.climate ≠ .robot ∧ hall.serves .climate) :=
  ⟨by decide, by decide, ⟨by decide, caring_tasks _ _ _ (.inl rfl) (by decide), by decide⟩, by decide⟩

theorem test_witness_SlotFaultsAreSetAndCleared :
    (hall.serves .management ∧ hall.reaches board ∧ hall.slot board = .empty) ∧
    (atRest.serves .management ∧ atRest.reaches board ∧ atRest.slot board ≠ .empty ∧ atRest.slot board ≠ .faulted) ∧
    (let s := hall.setSlot ⟨5, 11, 47⟩ .faulted
     s.serves .management ∧ s.reaches ⟨5, 11, 47⟩ ∧ s.slot ⟨5, 11, 47⟩ = .faulted) ∧ hall.outside 12 0 ∧ hall.outside 0 48 := by decide

theorem test_witness_TimeBaseAndClock :
    hall.supply.state = .running ∧ hall.serves .management ∧ Config.maxMinute ≤ Config.maxMinute := by decide

theorem test_witness_HallSectionsAreWritten :
    let none16 : Vector Bool 16 := Vector.replicate 16 false
    (hall.serves .management ∧ hall.wheels = [] ∧ hall.tasks = [] ∧ 1 ≤ 16 ∧ 16 ≤ 16 ∧ 12 ≤ 12 ∧ 48 ≤ 48 ∧
      ∀ i : Fin 16, (none16.set 15 true)[i] = true → i.val < 16) ∧
    (atRest.serves .management ∧ atRest.wheels ≠ []) ∧ ¬ (1 ≤ 0) ∧ ¬ (17 ≤ 16) ∧
    (16 ≤ 16 ∨ ∃ i : Fin 12, 8 ≤ ((Vector.replicate 12 0).set 11 8 : Vector Nat 12)[i]) := by decide

theorem test_witness_FindWheelLooksTheTagUp :
    (atRest.serves .management ∧ atRest.tags.find (0x00B2D4010A33#48).toNat = some 1500) ∧
    atRest.tags.find (0x00C40A77120E#48).toNat = none ∧ atRest.StoreLaw ∧ (Port.climate ≠ .management ∧ atRest.serves .climate) :=
  ⟨by decide, by decide, atRest_store, by decide⟩

/-- A hall whose aisle 5 is a quarantine aisle, with a wheel of QUARANTINE hold on its board. -/
def walled : State :=
  { sample { wheelAt (.inSlot board) none with hold := .quarantine, careFault := some .attempts } [(board.key, .occupied 1500)] .idle []
    with config := { hall.config with geometry := { Geometry.default with quarantine := (Vector.replicate 16 false).set 5 true } } }

theorem test_witness_WheelSettingsAreJudged :
    (atRest.serves .management ∧ 1500 < Config.handles ∧ atRest.wheel 1500 = some (wheelAt (.inSlot board) none) ∧
      (atRest.config.classes[(3 : Fin 16)]).valid = true ∧ (atRest.config.classes[(15 : Fin 16)]).valid = false ∧
      (wheelAt (.inSlot board) none).hold ≠ .quarantine ∧ atRest.boundToQuarantine (wheelAt (.inSlot board) none) = false ∧
      (wheelAt (.inSlot board) none).careFault = none) ∧
    (walled.serves .management ∧ ∃ x ∈ walled.wheel 1500, x.hold = .quarantine ∧ walled.boundToQuarantine x = true ∧
      x.careFault ≠ none) ∧
    (hall.serves .management ∧ 8191 < 8192 ∧ hall.wheel 8191 = none ∧ 8192 ≤ 8192) := by decide

/-- A class record in range at both ends of its fields. -/
def edgeClass (valid : Bool) : RawClass := ⟨valid, 990, 1, 2, 999, #v[30, 30, 43200, 43200], #v[0, 30, 43200, 0], 100, 0, 255, 240⟩

theorem test_witness_CareClassWriteIsTakenWhole :
    let f := edgeClass false
    (atRest.serves .management ∧ (700 ≤ f.setpoint ∧ f.setpoint ≤ 990) ∧ (1 ≤ f.d1 ∧ f.d1 < f.d2 ∧ f.d2 < f.d3 ∧ f.d3 ≤ 999) ∧
      (∀ b : Fin 4, 30 ≤ f.flipBase[b] ∧ f.flipBase[b] ≤ 43200) ∧
      (∀ b : Fin 4, f.brushBase[b] = 0 ∨ (30 ≤ f.brushBase[b] ∧ f.brushBase[b] ≤ 43200)) ∧
      f.kf ≤ 100 ∧ f.kb ≤ 100 ∧ (1 ≤ f.weight ∧ f.weight ≤ 255) ∧ f.merge ≤ 240) ∧
    (f.valid = false ∧ ∃ e ∈ atRest.wheels, e.2.cls = 3) ∧ ((edgeClass true).valid = true ∧ ∀ e ∈ atRest.wheels, e.2.cls ≠ 15) ∧
    ¬ (700 ≤ ({ f with setpoint := 699 } : RawClass).setpoint) := by decide

theorem test_witness_DuesFollowTheProfile :
    (atRest.wheel 1500 = some (wheelAt (.inSlot board) none) ∧ (wheelAt (.inSlot board) none).location = .inSlot board) ∧
    lost.wheel 1500 = some (wheelAt .unknown none) ∧ ∀ c, (wheelAt .unknown none).location ≠ .inSlot c :=
  ⟨by decide, by decide, (nofun)⟩

theorem test_witness_HumidityArithmeticStaysInBounds :
    (0 ≤ 1000 ∧ class3.brushInterval 14 0 = some 8640 ∧ class3.brushInterval 14 1000 = some 2808) ∧
      (0 < (⟨1, 912⟩ : ZoneReadings).count) := by decide

theorem test_witness_SectionWritesAreJudgedWhole :
    (hall.serves .management ∧ (1 ≤ 1 ∧ 60 ≤ 60) ∧ (0 = 0 ∨ 60 < 61)) ∧
    ((∀ k : Fin 8, 1 ≤ (Vector.replicate 8 60 : Vector Nat 8)[k] ∧ (Vector.replicate 8 60 : Vector Nat 8)[k] ≤ 60) ∧ 255 ≤ 255 ∧
      63 ≤ 63 ∧ 4095 ≤ 4095) ∧
    ((¬ (47 < 48 ∧ 12 < 12)) ∧ ∃ k : Fin 8, ((Vector.replicate 8 60).set 7 61 : Vector Nat 8)[k] = 0 ∨
      60 < ((Vector.replicate 8 60).set 7 61 : Vector Nat 8)[k]) ∧
    (10 ≤ 10 ∧ 600 ≤ 600) ∧ (9 < 10 ∧ 600 < 601) ∧
    ∃ (h : Fin 24) (z : Fin 9), ((Vector.replicate 24 none).set 23 (some 8) : Vector (Option Nat) 24)[h] = some z.val ∧ 8 ≤ z.val := by
  decide

/-- A hall whose only wheel has the highest handle. -/
def topmost : State := { hall with wheels := [(8191, wheelAt .unknown none)], sweep := { hall.sweep with cursor := 8191 } }

theorem test_witness_SweepWalksTheTable :
    (let s : State := { hall with sweep := { hall.sweep with boundaries := 1 } }
     s.supply.state = .running ∧ s.sweep.boundaries = 0 + 1) ∧
    (hall.wheels.canonical = true ∧ hall.sweep.running = true ∧ ∀ w, hall.sweep.cursor ≤ w → hall.wheel w = none) ∧
    (atRest.wheels.canonical = true ∧ atRest.sweep.running = true ∧ atRest.wheel 1500 = some (wheelAt (.inSlot board) none) ∧
      atRest.sweep.cursor ≤ 1500 ∧ 1500 < Config.handles ∧ (∀ v, atRest.sweep.cursor ≤ v → v < 1500 → atRest.wheel v = none) ∧
      ∃ y, (State.computeDues { atRest with arbiter := { atRest.arbiter with cycleLast := .sweep, passedOver := 0 } } 1500).wheel 1500 =
        some y) ∧
    (topmost.wheels.canonical = true ∧ topmost.wheel 8191 = some (wheelAt .unknown none) ∧ topmost.sweep.cursor ≤ 8191 ∧
      8191 < Config.handles ∧ (∀ v, topmost.sweep.cursor ≤ v → v < 8191 → topmost.wheel v = none) ∧
      (State.computeDues { topmost with arbiter := { topmost.arbiter with cycleLast := .sweep, passedOver := 0 } } 8191).wheel 8191 =
        some (wheelAt .unknown none)) := by
  refine ⟨by decide, ⟨by decide, by decide, fun _ _ => rfl⟩, ⟨by decide, by decide, by decide, by decide, by decide, ?_, ⟨_, rfl⟩⟩,
    by decide, by decide, by decide, by decide, ?_, by decide⟩
  · intro v _ h; simp [atRest, sample, State.wheel, Table.find]; omega
  · intro v h g; simp [topmost, State.wheel, Table.find]; omega

theorem test_witness_VisitsOfferAndWriteLittleElse :
    let x := wheelAt (.inSlot board) (some (intentOf .move))
    let s := sample x (bound (.occupied 1500) .move) .idle []
    (s.wheel 1500 = some x ∧ x.intent = some (intentOf .move) ∧ x.moveMark = false ∧ s.Agrees x (intentOf .move)) ∧
    (State.wheel (moving .move .queued .idle) 1500 = some { x with moveMark := true }) ∧
    (s.CareIsOpen 1500 x board ∧ x.location = .inSlot board ∧ x.flipMark = false ∧ x.brushMark = false ∧
      (s.zone (s.zoneOf board)).alarm ≠ .lowAlarm ∧ x.hold ≠ .quarantine ∧ x.flipDue = some 2399000 ∧ x.brushDue = some 2399500 ∧
      2399500 ≤ s.clock.minute ∧ ¬ s.IsDue none ∧ s.IsDue x.flipDue) ∧
    (atRest.CareIsOpen 1500 (wheelAt (.inSlot board) none) board ∧
      ¬ State.CareIsOpen { atRest with clock := ⟨0, true⟩ } 1500 (wheelAt (.inSlot board) none) board) ∧
    ∀ c, (wheelAt .unknown none).location ≠ .inSlot c := by
  refine ⟨⟨by decide, by decide, by decide, .inr (.inl ⟨rfl, .inl rfl, board, 1500, rfl, by decide⟩)⟩, by decide,
    ⟨⟨by decide, ⟨1500, by decide⟩, by decide, by decide, by decide⟩, by decide, by decide, by decide, by decide, by decide, by decide,
      by decide, by decide, nofun, ⟨2399000, by decide, by decide⟩⟩, ⟨⟨by decide, ⟨1500, by decide⟩, by decide, by decide, by decide⟩,
      fun h => absurd h.1 (by decide)⟩, nofun⟩

/-- 56 QUEUED FLIPs of no wheel and 8 SURVEYs, entered in the order of their numbers. -/
def fullList : List TaskRecord := (List.finRange 64).map fun n =>
  { TaskRecord.offered (if n.val < 56 then .flip else .survey) none (if n.val < 56 then .board board else .level 5 3) 2399000 with
    number := n, sequence := n.val }

/-- A full task list. -/
def full : State := { hall with tasks := fullList, dispatch := { hall.dispatch with sequence := 64 } }

/-- The last FLIP of the full list, which is the one that eviction takes. -/
def lastFlip : TaskRecord :=
  { TaskRecord.offered .flip none (.board board) 2399000 with number := 55, sequence := 55 }

theorem test_witness_EntriesMakeTheirRoomAndStamp :
    (∃ s : State, s.TaskLaw ∧ s.tasks.length < 64 ∧ s.dispatch.sequence < Config.maxMinute) ∧
    (∃ s : State, s.TaskLaw ∧ s.tasks.length < 64 ∧ s.dispatch.sequence = Config.maxMinute) ∧
    (hall.careCount < 56 ∧ hall.tasks.length < 64 ∧ hall.nonCareCount < 24) ∧
    (56 ≤ full.careCount ∧ 64 ≤ full.tasks.length ∧ full.nonCareCount < 24 ∧ lastFlip ∈ full.tasks ∧ lastFlip.queued = true ∧
      lastFlip.isCare = true ∧ ∀ v ∈ full.tasks, v.queued = true → v.isCare = true → v ≠ lastFlip →
        full.standing lastFlip < full.standing v ∨
          (full.standing lastFlip = full.standing v ∧ v.sequence < lastFlip.sequence)) ∧
    (let s : State := { hall with tasks := List.replicate 64 (surveyTask (some 12) .queued) }
     64 ≤ s.tasks.length ∧ 24 ≤ s.nonCareCount ∧ ∀ v ∈ s.tasks, v.queued = true → v.isCare = false) := by
  have h := caring_tasks .flip .queued .idle (.inl rfl) (by decide)
  refine ⟨⟨_, h, by decide, by decide⟩, ⟨{ caring .flip .queued .idle with
    dispatch := { Dispatcher.initial with sequence := Config.maxMinute } },
    ⟨h.numbers, h.shapes, by decide, h.room, h.oneOut, h.working, h.idle⟩, by decide, rfl⟩, by decide, by decide, by decide⟩

theorem test_witness_ScoresAreComputedByTheRules :
    atRest.link.position = some ⟨5, 0, 3⟩ ∧ hall.link.position = none := by decide

/-- A zone with an exclusion. -/
def State.exclude (s : State) (e : Exclusion) : State := s.changeZone 0 fun z => { z with exclusion := e }

theorem exclude_tasks {s : State} (h : s.TaskLaw) (e : Exclusion) : (State.exclude s e).TaskLaw where
  numbers := h.numbers
  shapes := h.shapes
  order := h.order
  room := h.room
  oneOut := h.oneOut
  working := h.working
  idle := by
    intro g
    obtain ⟨a, b, c, d⟩ := h.idle g
    refine ⟨a, b, c, fun z => ?_⟩
    have := d z
    unfold State.exclude
    rw [State.zone_changeZone]
    split <;> simp_all

theorem test_witness_ChoiceFollowsPrecedenceAndScore :
    (atRest.TaskLaw ∧ atRest.tasks = []) ∧
    ((carrying .move .queued .idle).TaskLaw ∧ ∃ t ∈ (carrying .move .queued .idle).tasks, t.queued = true ∧ t.phase = some .carried) ∧
    ((caring .flip .queued .idle).TaskLaw ∧ (caring .flip .queued .idle).tasks ≠ [] ∧
      ∀ t ∈ (caring .flip .queued .idle).tasks, t.phase ≠ some .carried ∧ t.queued = true ∧
        (∀ z ∈ t.zones (caring .flip .queued .idle), (State.zone (caring .flip .queued .idle) z).exclusion = .none) ∧
        ¬ (t.kind = .brush ∧ (caring .flip .queued .idle).inLowAlarm t = true)) ∧
    (let s := State.exclude (caring .flip .queued .idle) (.active 1)
     s.TaskLaw ∧ s.tasks ≠ [] ∧ ∀ t ∈ s.tasks, t.phase ≠ some .carried ∧ ¬ ∀ z ∈ t.zones s, (s.zone z).exclusion = .none) :=
  ⟨⟨atRest_tasks, rfl⟩, ⟨carrying_tasks _ _ _ (by decide), by decide⟩,
    ⟨caring_tasks _ _ _ (.inl rfl) (by decide), by decide, by decide⟩,
    exclude_tasks (caring_tasks _ _ _ (.inl rfl) (by decide)) _, by decide, by decide⟩

/-- The hall with a link state. -/
def linked (l : LinkState) : State := { hall with link := { RobotLink.initial with state := l } }

theorem test_witness_TakesThatIssueNothing :
    ((caring .flip .issued .working).serves .robot ∧ (caring .flip .issued .working).TaskLaw ∧
      taskOf .flip (.board board) .issued ∈ (caring .flip .issued .working).tasks ∧
      (taskOf .flip (.board board) .issued).queued = false) ∧
    ((linked .unhomed).serves .robot ∧ (linked .unhomed).link.state = .unhomed) ∧
    ((linked .halted).serves .robot ∧ (linked .halted).link.state = .halted) ∧
    (let s := State.setPaused atRest true
     s.serves .robot ∧ s.link.state = .idle ∧ s.dispatch.paused = true) ∧
    (atRest.serves .robot ∧ atRest.link.state = .idle ∧ atRest.dispatch.paused = false ∧
      State.choice (atRest.withdrawWhere fun t => atRest.disagrees t) = .empty) ∧
    (let s := State.exclude (caring .flip .queued .idle) (.active 1)
     s.serves .robot ∧ s.link.state = .idle ∧ s.dispatch.paused = false ∧
       State.choice (s.withdrawWhere fun t => s.disagrees t) = .blocked) :=
  ⟨⟨by decide, caring_tasks _ _ _ (.inl rfl) (by decide), by decide, by decide⟩, by decide, by decide, by decide, by decide, by decide⟩

/-- A FLIP issued alone, and a FLIP of the wheel whose brush due lies in the merge window: the sample's does. -/
theorem test_witness_TakeIssuesTheChosenTask :
    (let s := caring .flip .queued .idle
     let x := taskOf .flip (.board board) .queued
     s.serves .robot ∧ s.TaskLaw ∧ s.link.state = .idle ∧ s.dispatch.paused = false ∧ s.checkList.choice = .task x ∧
       s.checkList.Merges x { wheelAt (.inSlot board) none with flipMark := true }) ∧
    (let s := moving .move .queued .idle
     let x := moveTask (intentOf .move) .queued
     s.serves .robot ∧ s.TaskLaw ∧ s.link.state = .idle ∧ s.dispatch.paused = false ∧ s.checkList.choice = .task x ∧
       x.kind.clearsCare = true) :=
  ⟨⟨by decide, caring_tasks _ _ _ (.inl rfl) (by decide), by decide, by decide, by decide,
      .inl ⟨by decide, ⟨2399500, by decide, by decide⟩, by decide, by decide⟩⟩,
    by decide, moving_tasks _ _ _ (by decide), by decide, by decide, by decide, by decide⟩

theorem test_witness_ManagementSteersTheRobot :
    (atRest.serves .management ∧ atRest.TaskLaw ∧ (∀ v ∈ atRest.tasks, v.number ≠ 63) ∧ 1500 < Config.handles ∧
      (∃ x ∈ atRest.wheel 1500, x.intent = none)) ∧
    ((carrying .move .issued .working).serves .management ∧ (carrying .move .issued .working).TaskLaw ∧
      (∃ v ∈ (carrying .move .issued .working).tasks, v.state ≠ .aborting ∧ v.phase = some .carried) ∧
      ∃ x ∈ (carrying .move .issued .working).wheel 1500, ∃ i ∈ x.intent, i.phase = .carried) ∧
    ((moving .move .aborting .working).TaskLaw ∧ ∃ v ∈ (moving .move .aborting .working).tasks, v.state = .aborting ∧
      v.isMovement = true ∧ v.wheel = some 1500) ∧
    ((moving .move .issued .working).TaskLaw ∧ ∃ v ∈ (moving .move .issued .working).tasks, v.state = .issued ∧
      v.phase ≠ some .carried ∧ v.isMovement = true ∧ v.wheel = some 1500) ∧
    ((caring .flip .queued .idle).TaskLaw ∧ ∃ v ∈ (caring .flip .queued .idle).tasks, v.state = .queued ∧ v.isMovement = false ∧
      v.phase ≠ some .carried) ∧
    ((moving .move .queued .idle).serves .management ∧ (moving .move .queued .idle).TaskLaw ∧
      (∃ v ∈ (moving .move .queued .idle).tasks, v.state = .queued ∧ v.isMovement = true ∧ v.phase ≠ some .carried ∧
        v.wheel = some 1500) ∧
      (∃ x ∈ (moving .move .queued .idle).wheel 1500, ∃ i ∈ x.intent, i.phase = .beforePick) ∧
      ∀ v ∈ (moving .move .queued .idle).tasks, v.isMovement = true → v.wheel = some 1500 → v.queued = true) ∧
    ((linked .halted).serves .management ∧ (linked .halted).link.state = .halted ∧ (linked .idle).link.state ≠ .halted) ∧
    (hall.serves .management ∧ 8191 < 8192 ∧ hall.wheel 8191 = none ∧ 8192 ≤ 8192) :=
  ⟨⟨by decide, atRest_tasks, by decide, by decide, by decide⟩,
    ⟨by decide, carrying_tasks _ _ _ (by decide), by decide, by decide⟩, ⟨moving_tasks _ _ _ (by decide), by decide⟩,
    ⟨moving_tasks _ _ _ (by decide), by decide⟩, ⟨caring_tasks _ _ _ (.inl rfl) (by decide), by decide⟩,
    ⟨by decide, moving_tasks _ _ _ (by decide), by decide, by decide, by decide⟩, by decide, by decide⟩

theorem test_witness_HomedStandsAtHome :
    ∀ l ∈ [LinkState.unhomed, .recovery, .idle, .offline, .halted, .lost],
      (linked l).serves .robot ∧ (linked l).link.state = l := by decide

theorem test_witness_ReportsAreJudgedInOrder :
    (atRest.serves .robot ∧ atRest.TaskLaw ∧
      (Instr.picked (proper .robot) ⟨64, 0⟩).request = some (.picked, proper .robot) ∧
      (Instr.picked (proper .robot) ⟨64, 0⟩).report = some ⟨64, 0⟩ ∧ (63 : Fin 64).val = 63) ∧
    (∃ v ∈ (caring .flip .issued .working).tasks, v.number = 6 ∧ v.queued = false ∧ v.issue ≠ 2) ∧
    (∀ v ∈ (caring .flip .queued .idle).tasks, v.number = 6 → v.queued = true) ∧
    (let s := caring .flip .issued .working
     let v := taskOf .flip (.board board) .issued
     s.serves .robot ∧ s.TaskLaw ∧ v ∈ s.tasks ∧ v.state = .issued ∧ (v.isCare = true ∧ s.link.verified = false) ∧
       (∀ k, v.kind ≠ .movement k) ∧ v.kind ≠ .survey) ∧
    ((State.verify (caring .flip .issued .working)).link.verified = true) ∧
    (∃ v ∈ (moving .move .issued .working).tasks, v.isMovement = true ∧ v.phase ≠ some .carried) :=
  ⟨⟨by decide, atRest_tasks, by decide⟩, by decide, by decide,
    ⟨by decide, caring_tasks _ _ _ (.inl rfl) (by decide), by decide, by decide, by decide, nofun, by decide⟩, by decide, by decide⟩

theorem test_witness_ArrivedJudgesTheTag :
    (let s := caring .flip .issued .working
     let v := taskOf .flip (.board board) .issued
     s.serves .robot ∧ s.TaskLaw ∧ v ∈ s.tasks ∧ v.state = .issued ∧ s.link.verified = false ∧ v.isCare = true ∧
       classify (some content) = .readable 0x00B2D4010A33#48 ∧ s.link.issuedTag = some 0x00B2D4010A33#48 ∧ v.wheel = some 1500 ∧
       classify (some stranger) = .readable 0x00C40A77120E#48 ∧ s.link.issuedTag ≠ some 0x00C40A77120E#48 ∧
       classify none = .nothing ∧ v.rereads < 2) ∧
    (let v := { taskOf .flip (.board board) .issued with rereads := 2 }
     (sample (wheelAt (.inSlot board) none) [] .working [v]).TaskLaw ∧ 2 ≤ v.rereads ∧ classify (some 0#64) = .unreadable) ∧
    (let s := placing .issued .working
     let v := moveTask (intentOf .place) .issued
     s.serves .robot ∧ s.TaskLaw ∧ v ∈ s.tasks ∧ v.state = .issued ∧ s.link.verified = false ∧ v.kind = .movement .place ∧
       v.phase = some .beforePick ∧ v.place = .infeed) :=
  ⟨⟨by decide, caring_tasks _ _ _ (.inl rfl) (by decide), by decide⟩,
    ⟨sample_tasks _ _ _ _ ⟨rfl, ⟨board, rfl⟩, rfl, rfl, rfl⟩ (by decide) (by decide), by decide⟩,
    ⟨by decide, placing_tasks _ _ (by decide), by decide⟩⟩

theorem test_witness_PickedPutsTheWheelInTheGripper :
    (let s := State.verify (moving .move .issued .working)
     let v := moveTask (intentOf .move) .issued
     s.serves .robot ∧ s.TaskLaw ∧ v ∈ s.tasks ∧ v.state = .issued ∧ s.link.verified = true ∧ v.kind = .movement .move ∧
       v.phase = some .beforePick ∧ v.wheel = some 1500 ∧ v.place = .board board) ∧
    (let s := State.verify (placing .issued .working)
     let v := moveTask (intentOf .place) .issued
     s.serves .robot ∧ s.TaskLaw ∧ v ∈ s.tasks ∧ v.state = .issued ∧ s.link.verified = true ∧ v.kind = .movement .place ∧
       v.phase = some .beforePick ∧ v.wheel = some 1500) :=
  ⟨⟨by decide, verify_tasks (moving_tasks _ _ _ (by decide)) rfl, by decide⟩,
    ⟨by decide, verify_tasks (placing_tasks _ _ (by decide)) rfl, by decide⟩⟩

theorem test_witness_DoneEndsCareAndSurveys :
    (let s := State.verify (caring .flipBrush .issued .working)
     let v := taskOf .flipBrush (.board board) .issued
     s.serves .robot ∧ s.TaskLaw ∧ v ∈ s.tasks ∧ v.queued = false ∧ v.isCare = true ∧ v.wheel = some 1500 ∧
       s.link.verified = true) ∧
    (∀ next ∈ [none, some (12 : Fin 48), some 13], ∀ st ∈ [TaskState.issued, .aborting],
     let s := surveying (.occupied 1500) next st
     let v := surveyTask next st
     s.serves .robot ∧ v ∈ s.tasks ∧ v.queued = false ∧ v.kind = .survey ∧ v.range = some ⟨12, 13, next⟩) ∧
    (surveying (.occupied 1500) none .issued).TaskLaw :=
  ⟨⟨by decide, verify_tasks (caring_tasks _ _ _ (.inr (.inr rfl)) (by decide)) rfl, by decide⟩, by decide,
    surveying_tasks _ _ _ (by decide)⟩

theorem test_witness_AbortingTasksEndAborted :
    (let s := caring .flip .aborting .working
     let v := taskOf .flip (.board board) .aborting
     s.serves .robot ∧ s.TaskLaw ∧ v ∈ s.tasks ∧ v.state = .aborting ∧ v.kind ≠ .survey ∧ v.isCare = true ∧
       s.link.verified = false) ∧
    (let s := surveying .empty (some 12) .aborting
     let v := surveyTask (some 12) .aborting
     s.serves .robot ∧ s.TaskLaw ∧ v ∈ s.tasks ∧ v.state = .aborting ∧ v.kind = .survey) ∧
    (let s := moving .remove .aborting .working
     let v := moveTask (intentOf .remove) .aborting
     s.serves .robot ∧ s.TaskLaw ∧ v ∈ s.tasks ∧ v.state = .aborting ∧ v.isMovement = true ∧ v.phase ≠ some .carried) :=
  ⟨⟨by decide, caring_tasks _ _ _ (.inl rfl) (by decide), by decide⟩, ⟨by decide, surveying_tasks _ _ _ (by decide), by decide⟩,
    ⟨by decide, moving_tasks _ _ _ (by decide), by decide⟩⟩

theorem test_witness_TasksLeaveTheRobot :
    (let s := caring .flip .issued .working
     let v := taskOf .flip (.board board) .issued
     s.TaskLaw ∧ v ∈ s.tasks ∧ v.queued = false ∧ v.isCare = true ∧ v.wheel = some 1500 ∧ v.state = .issued ∧
       v.attempts + 1 < 3 ∧ v.kind ≠ .survey) ∧
    (let s := moving .move .issued .working
     let v := moveTask (intentOf .move) .issued
     s.TaskLaw ∧ v ∈ s.tasks ∧ v.queued = false ∧ v.isMovement = true ∧ v.phase = some .beforePick ∧ v.wheel = some 1500 ∧
       ∃ x ∈ s.wheel 1500, x.intent = some (intentOf .move)) ∧
    (let s := surveying .empty (some 12) .issued
     let v := surveyTask (some 12) .issued
     s.TaskLaw ∧ v ∈ s.tasks ∧ v.queued = false ∧ v.kind = .survey ∧ v.place = .level 5 3 ∧ v.range = some ⟨12, 13, some 12⟩) ∧
    (let v := { taskOf .flip (.board board) .issued with attempts := 2 }
     (sample (wheelAt (.inSlot board) none) [] .working [v]).TaskLaw ∧ v.state = .issued ∧ 3 ≤ v.attempts + 1 ∧
       v.phase ≠ some .carried) ∧
    (let s := carrying .move .issued .working
     let v := moveTask (carriedOf .move) .issued
     s.TaskLaw ∧ v ∈ s.tasks ∧ v.state = .issued ∧ v.phase = some .carried) ∧
    ((moving .move .aborting .working).TaskLaw ∧ (moveTask (intentOf .move) .aborting).state = .aborting) :=
  ⟨⟨caring_tasks _ _ _ (.inl rfl) (by decide), by decide⟩, ⟨moving_tasks _ _ _ (by decide), by decide⟩,
    ⟨surveying_tasks _ _ _ (by decide), by decide⟩,
    ⟨sample_tasks _ _ _ _ ⟨rfl, ⟨board, rfl⟩, rfl, rfl, rfl⟩ (by decide) (by decide), by decide⟩,
    ⟨carrying_tasks _ _ _ (by decide), by decide⟩, moving_tasks _ _ _ (by decide), by decide⟩

theorem test_witness_RobotFaultsCountAndHalt :
    (let s := caring .flip .issued .working
     s.serves .robot ∧ s.TaskLaw ∧ s.link.state = .working ∧ FaultKind.grip ≠ .slotBlocked ∧
       taskOf .flip (.board board) .issued ∈ s.tasks ∧ (taskOf .flip (.board board) .issued).queued = false) ∧
    (atRest.serves .robot ∧ atRest.TaskLaw ∧ atRest.link.state = .idle ∧ atRest.link.state ≠ .working) ∧
    (let s := sample (wheelAt (.inSlot board) none) [(board.key, .occupied 1500)] .halted []
     s.serves .robot ∧ s.TaskLaw ∧ s.link.state = .halted) ∧
    (let s := placing .issued .working
     s.serves .robot ∧ s.TaskLaw ∧ ∃ v ∈ s.tasks, v.queued = false ∧ v.kind = .movement .place ∧ v.phase = some .beforePick) ∧
    (let s := carrying .remove .issued .working
     s.serves .robot ∧ s.TaskLaw ∧ ∃ v ∈ s.tasks, v.queued = false ∧ v.isMovement = true ∧ v.phase = some .carried ∧
       v.destination = some .outfeed) ∧
    (parking.serves .robot ∧ parking.TaskLaw ∧ ∃ v ∈ parking.tasks, v.queued = false ∧ v.isMovement = true ∧
      v.phase = some .carried ∧ v.destination = some .infeed) ∧
    (let s := surveying .empty none .issued
     s.serves .robot ∧ s.TaskLaw ∧ ∃ v ∈ s.tasks, v.queued = false ∧ v.kind = .survey ∧ v.range = some ⟨12, 13, none⟩) :=
  ⟨⟨by decide, caring_tasks _ _ _ (.inl rfl) (by decide), by decide⟩, ⟨by decide, atRest_tasks, by decide⟩,
    ⟨by decide, sample_empty _ _ _ (by decide), by decide⟩, ⟨by decide, placing_tasks _ _ (by decide), by decide⟩,
    ⟨by decide, carrying_tasks _ _ _ (by decide), by decide⟩,
    ⟨by decide, sample_tasks _ _ _ _ ⟨rfl, rfl, rfl, rfl⟩ (by decide) (by decide), by decide⟩,
    by decide, surveying_tasks _ _ _ (by decide), by decide⟩

theorem test_witness_BlockedBoardsAreAnswered :
    (let s := caring .flip .issued .working
     let v := taskOf .flip (.board board) .issued
     s.serves .robot ∧ s.TaskLaw ∧ v ∈ s.tasks ∧ v.queued = false ∧ v.isCare = true ∧ v.place = .board board) ∧
    (let s := moving .remove .aborting .working
     let v := moveTask (intentOf .remove) .aborting
     s.serves .robot ∧ s.TaskLaw ∧ v ∈ s.tasks ∧ v.queued = false ∧ v.kind = .movement .remove ∧ v.phase = some .beforePick ∧
       v.place = .board board) ∧
    (let s := surveying .empty (some 12) .issued
     let v := surveyTask (some 12) .issued
     s.serves .robot ∧ s.TaskLaw ∧ v ∈ s.tasks ∧ v.queued = false ∧ v.kind = .survey ∧ v.range = some ⟨12, 13, some 12⟩ ∧
       board = { v.place.coord s with position := 12 }) ∧
    (let s := carrying .move .issued .working
     let v := moveTask (carriedOf .move) .issued
     s.serves .robot ∧ s.TaskLaw ∧ v ∈ s.tasks ∧ v.state = .issued ∧ v.isMovement = true ∧ v.phase = some .carried ∧
       v.destination = some (.slot other) ∧ v.wheel = some 1500 ∧
       (∃ x ∈ s.wheel 1500, x.intent = some (carriedOf .move)) ∧ (carriedOf .move).phase = .carried ∧
       (carriedOf .move).kind = .move ∧ (carriedOf .move).returnSlot = some board ∧ board ≠ other) ∧
    (let s := carrying .place .issued .working
     let v := moveTask (carriedOf .place) .issued
     s.serves .robot ∧ s.TaskLaw ∧ v ∈ s.tasks ∧ v.destination = some (.slot other) ∧
       (∃ x ∈ s.wheel 1500, x.intent = some (carriedOf .place)) ∧ (carriedOf .place).kind = .place) :=
  ⟨⟨by decide, caring_tasks _ _ _ (.inl rfl) (by decide), by decide⟩, ⟨by decide, moving_tasks _ _ _ (by decide), by decide⟩,
    ⟨by decide, surveying_tasks _ _ _ (by decide), by decide⟩, ⟨by decide, carrying_tasks _ _ _ (by decide), by decide⟩,
    by decide, carrying_tasks _ _ _ (by decide), by decide⟩

theorem test_witness_ExpiriesLoseTheRobot :
    (let c := caring .flip .issued .working
     let s : State := { c with link := { c.link with deadline := some 0 } }
     s.supply.state = .running ∧ s.TaskLaw ∧ s.link.deadline = some 0 ∧ s.link.state = .working) ∧
    (let s : State := { atRest with link := { atRest.link with state := .unhomed, homeOrder := some 0 } }
     s.supply.state = .running ∧ s.TaskLaw ∧ s.link.homeOrder = some 0 ∧ s.link.state = .unhomed ∧ s.link.deadline ≠ some 0) ∧
    (atRest.supply.state = .running ∧ atRest.TaskLaw ∧ atRest.link.homeOrder ≠ some 0) := by
  have h := caring_tasks .flip .issued .working (.inl rfl) (by decide)
  have g := atRest_tasks
  exact ⟨⟨by decide, ⟨h.numbers, h.shapes, h.order, h.room, h.oneOut, h.working, fun k => absurd rfl k⟩, by decide⟩,
    ⟨by decide, ⟨g.numbers, g.shapes, g.order, g.room, g.oneOut, by decide, fun _ => g.idle (by decide)⟩, by decide⟩,
    by decide, g, by decide⟩

theorem test_witness_ReadyAnnouncesTheRobot :
    (atRest.serves .robot ∧ 16 ≤ (⟨16, 0, 0⟩ : RawCoord).aisle ∧ 48 ≤ (⟨0, 0, 48⟩ : RawCoord).position) ∧
    ((linked .halted).serves .robot ∧ (linked .halted).link.state = .halted) ∧
    (atRest.link.state ≠ .halted ∧ (⟨15, 11, 47⟩ : RawCoord).aisle < 16 ∧ (⟨15, 11, 47⟩ : RawCoord).level < 12 ∧
      (⟨15, 11, 47⟩ : RawCoord).position < 48) ∧
    (tagReadable 0#64 = false ∧ tagReadable content = true ∧ atRest.tags.find (tagIdOf content).toNat = some 1500 ∧
      tagReadable stranger = true ∧ atRest.tags.find (tagIdOf stranger).toNat = none) := by decide

/-- The first clause's refusals one by one: a tag of zero, class 16, an invalid class, a tag that is held, a quarantine aisle, a board
that is not EMPTY. No handle is free in a table that holds a wheel under each of them. -/
theorem test_witness_BookInIsJudgedAndMade :
    (atRest.serves .management ∧ atRest.StoreLaw ∧ atRest.ConfigLaw ∧ atRest.outside 12 0 ∧ 16 ≤ 16 ∧
      (atRest.config.classes[(0 : Fin 16)]).valid = false ∧ atRest.tags.find (0x00B2D4010A33#48).toNat ≠ none ∧
      atRest.reaches board ∧ atRest.slot board ≠ .empty) ∧
    (walled.config.geometry.quarantine[(walled.port .management).window.source] = true) ∧
    (let s : State := { hall with wheels := (List.range 8192).map fun w => (w, wheelAt .unknown none) }
     s.serves .management ∧ ∀ w < Config.handles, s.wheel w ≠ none) ∧
    (let s : State := { hall with
       config := { hall.config with geometry := { Geometry.default with levels := 1, positions := 1 } }
       slots := [((⟨5, 0, 0⟩ : Coord).key, .faulted)] }
     s.serves .management ∧ ∀ c : Coord, s.reaches c → s.slot c ≠ .empty) ∧
    (hall.serves .management ∧ hall.StoreLaw ∧ (0x00C40A77120E#48 : TagId) ≠ 0#48 ∧ (0x00C40A77120E#48 : TagId) ≠ BitVec.allOnes 48 ∧
      (hall.config.classes[(3 : Fin 16)]).valid = true ∧ hall.tags.find (0x00C40A77120E#48).toNat = none ∧ 0 < Config.handles ∧
      hall.wheel 0 = none ∧ (∀ v < 0, hall.wheel v ≠ none) ∧
      hall.config.geometry.quarantine[(hall.port .management).window.source] = false ∧ hall.reaches ⟨5, 0, 0⟩ ∧
      hall.slot ⟨5, 0, 0⟩ = .empty ∧ ∀ d : Coord, hall.reaches d → 0 < d.level ∨ (0 = d.level ∧ 0 ≤ d.position)) := by
  refine ⟨⟨by decide, atRest_store, atRest_config, by decide⟩, by decide, ⟨by decide, ?_⟩, ⟨by decide, ?_⟩,
    ⟨by decide, hall_store, by decide, by decide, by decide, by decide, by decide, by decide, nofun, by decide, by decide, by decide, ?_⟩⟩
  · intro w hw
    suffices h : ∀ (n k : Nat), w < k + n → k ≤ w →
        Table.find w ((List.range' k n).map fun w => (w, wheelAt .unknown none)) = some (wheelAt .unknown none) by
      have := h 8192 0 (by simpa [Config.handles] using hw) (Nat.zero_le w)
      simp [State.wheel, List.range_eq_range', this]
    intro n
    induction n with
    | zero => intro k h g; omega
    | succ n ih =>
      intro k h g
      rw [List.range'_succ]
      by_cases e : k = w
      · simp [Table.find, e]
      · simpa [Table.find, e] using ih (k + 1) (by omega) (by omega)
  · rintro ⟨a, l, p⟩ ⟨h1, h2, h3⟩
    have e1 : l = 0 := Fin.ext (by have : l.val < 1 := h2; simpa using this)
    have e2 : p = 0 := Fin.ext (by have : p.val < 1 := h3; simpa using this)
    have e3 : a = 5 := h1
    subst e1 e2 e3
    decide
  · rintro ⟨a, l, p⟩ _
    by_cases h : l = 0
    · exact .inr ⟨h.symm, Fin.zero_le p⟩
    · exact .inl (Fin.pos_of_ne_zero h)

theorem test_witness_RelocateAndBookOut :
    (atRest.serves .management ∧ atRest.reaches board ∧ other.aisle = (atRest.port .management).window.destination ∧
      other.level.val < atRest.config.geometry.levels ∧ other.position.val < atRest.config.geometry.positions ∧
      atRest.outside 12 0 ∧ atRest.slot board = .occupied 1500 ∧ atRest.wheel 1500 = some (wheelAt (.inSlot board) none) ∧
      (wheelAt (.inSlot board) none).intent = none ∧ atRest.slot other = .empty ∧
      atRest.config.geometry.quarantine[other.aisle] = false ∧ (wheelAt (.inSlot board) none).location = .inSlot board) ∧
    ((moving .move .queued .idle).slot other ≠ .empty ∧ walled.config.geometry.quarantine[other.aisle] = true) ∧
    (∀ w, hall.slot board ≠ .occupied w) ∧ (Config.handles ≤ 8192 ∧ 8191 < Config.handles ∧ hall.wheel 8191 = none) ∧
    (let s := placing .queued .idle
     s.serves .management ∧ ∃ x ∈ s.wheel 1500, x.location = .atInfeed ∧ (∃ i ∈ x.intent, i.kind = .place) ∧
       ∀ v ∈ s.tasks, v.wheel = some 1500 → v.queued = true) ∧
    (let s := placing .issued .working
     s.serves .management ∧ ∃ v ∈ s.tasks, v.wheel = some 1500 ∧ v.queued = false) ∧
    (lost.serves .management ∧ ∃ x ∈ lost.wheel 1500, x.location = .unknown) := by
  refine ⟨by decide, by decide, ?_, by decide, by decide, by decide, by decide⟩
  intro w; rw [show hall.slot board = .empty by decide]; nofun

theorem test_witness_DoneCompletesMovements :
    (∀ k ∈ [MoveKind.place, .move, .remove],
     let s := carrying k .issued .working
     let v := moveTask (carriedOf k) .issued
     s.serves .robot ∧ v ∈ s.tasks ∧ v.queued = false ∧ v.isMovement = true ∧ v.phase = some .carried ∧ v.wheel = some 1500 ∧
       (∃ x ∈ s.wheel 1500, x.intent = some (carriedOf k)) ∧ (carriedOf k).kind = k ∧
       (k ≠ .remove → (carriedOf k).destination = .slot other)) ∧
    (∀ k, (carrying k .issued .working).TaskLaw) ∧
    (parking.serves .robot ∧ parking.TaskLaw ∧ (∃ v ∈ parking.tasks, v.queued = false ∧ v.isMovement = true ∧
      v.phase = some .carried ∧ v.wheel = some 1500) ∧ ∃ x ∈ parking.wheel 1500, x.intent = some parkIntent) :=
  ⟨by decide, fun _ => carrying_tasks _ _ _ (by decide), by decide,
    sample_tasks _ _ _ _ ⟨rfl, rfl, rfl, rfl⟩ (by decide) (by decide), by decide, by decide⟩

theorem carrying_store : (carrying .move .queued .idle).StoreLaw := sample_store _ _ _ _ (by decide) (by decide)

/-- In a sample the only wheel is wheel 1500. -/
theorem sample_only {x : Wheel} {slots : Table SlotEntry} {l : LinkState} {tasks : List TaskRecord} {v : Nat} {y : Wheel}
    (h : (sample x slots l tasks).wheel v = some y) : v = 1500 ∧ y = x := by
  simp only [sample, State.wheel, Table.find] at h
  split at h
  · cases h; exact ⟨by omega, rfl⟩
  · cases h

/-- Wheel 1500 in the gripper, and wheel 1501 somewhere. -/
def pair (l : Location) : State :=
  { hall with
    wheels := [(1500, wheelAt .inGripper (some (carriedOf .move))), (1501, { wheelAt l none with tag := 0x00C40A77120E#48 })]
    tags := [(0x00B2D4010A33, 1500), (0x00C40A77120E, 1501)] }

theorem pair_store (l : Location) : (pair l).StoreLaw where
  slots := by simp [pair, hall, State.reset, Table.canonical]
  wheels := by
    refine ⟨rfl, ?_⟩
    simp [pair, wheelAt, Config.handles]
    decide
  tags := rfl
  index := by
    intro k w
    by_cases h : k = 0x00B2D4010A33 <;> by_cases g : k = 0x00C40A77120E <;> by_cases a : w = 1500 <;> by_cases b : w = 1501 <;>
      (simp [pair, wheelAt, State.wheel, Table.find, h, g, a, b, eq_comm]; try omega)
  discrepancies := by simp [pair, hall, State.reset]

theorem test_witness_ReconciliationFollowsTheLoad :
    (atRest.StoreLaw ∧ ∀ v x, atRest.wheel v = some x → x.location ≠ .inGripper) ∧
    ((carrying .move .queued .idle).StoreLaw ∧
      (∃ x, (carrying .move .queued .idle).wheel 1500 = some x ∧ x.location = .inGripper ∧ x.intent = some (carriedOf .move)) ∧
      ∀ v y, (carrying .move .queued .idle).wheel v = some y → y.location = .inGripper → v = 1500) ∧
    (atRest.wheel 1500 = some (wheelAt (.inSlot board) none) ∧ (wheelAt (.inSlot board) none).location = .inSlot board ∧
      (wheelAt (.inSlot board) none).intent = none) ∧
    (let s := placing .queued .idle
     s.StoreLaw ∧ (∃ x ∈ s.wheel 1500, x.location = .atInfeed ∧ x.intent = some (intentOf .place)) ∧
       ∀ v y, s.wheel v = some y → y.location ≠ .inGripper) ∧
    (lost.StoreLaw ∧ ∃ x ∈ lost.wheel 1500, x.location = .unknown ∧ x.intent = none) ∧
    ((pair .inGripper).StoreLaw ∧ (∃ x ∈ (pair .inGripper).wheel 1500, x.location = .inGripper) ∧
      (∃ y ∈ (pair .inGripper).wheel 1501, y.location = .inGripper) ∧ 1501 ≠ 1500 ∧
      ∀ r z, (pair .inGripper).wheel r = some z → z.location = .inGripper → r = 1501 ∨ r = 1500) ∧
    ((pair .atInfeed).StoreLaw ∧ (∃ x ∈ (pair .atInfeed).wheel 1501, x.location ≠ .inGripper) ∧
      ∃ y ∈ (pair .atInfeed).wheel 1500, y.location = .inGripper) := by
  refine ⟨⟨atRest_store, ?_⟩, ⟨carrying_store, ⟨_, rfl, rfl, rfl⟩, fun v y h _ => (sample_only h).1⟩, by decide,
    ⟨sample_store _ _ _ _ (by decide) (by decide), by decide, ?_⟩, ⟨sample_store _ _ _ _ (by decide) (by decide), by decide⟩,
    ⟨pair_store _, by decide, by decide, by decide, ?_⟩, pair_store _, by decide, by decide⟩
  · intro v x h; rw [(sample_only h).2]; nofun
  · intro v x h; rw [(sample_only h).2]; nofun
  · intro r z h _
    simp only [pair, State.wheel, Table.find] at h
    split at h
    · omega
    · split at h
      · omega
      · cases h

/-- A finding. -/
def finding : Discrepancy := ⟨.missing, 2400000, some board, some 1500, none⟩

theorem test_witness_SurveysAndDiscrepanciesAreKept :
    (hall.serves .management ∧ (11 : Fin 12).val < hall.config.geometry.levels ∧ (47 : Fin 48).val < hall.config.geometry.positions ∧
      (47 : Fin 48) ≤ 47 ∧ hall.config.geometry.levels ≤ 12 ∧ hall.config.geometry.positions ≤ 48 ∧ 3 < 4) ∧
    (let s : State := { hall with discrepancies := List.replicate 31 finding }
     s.discrepancies.length < 32) ∧
    (let s : State := { hall with discrepancies := List.replicate 32 finding }
     s.serves .management ∧ 32 ≤ s.discrepancies.length ∧ s.discrepancies = finding :: List.replicate 31 finding) ∧
    (hall.serves .management ∧ hall.discrepancies = []) := by decide

theorem test_witness_SlotReadsAreComparedInOrder :
    (∀ e ∈ [SlotEntry.occupied 1500, .empty, .suspect (some 1500), .suspect none, .reserved .destination 1500, .faulted],
     ∀ n ∈ [(12 : Fin 48), 13],
     let s := surveying e (some n) .issued
     let v := surveyTask (some n) .issued
     s.serves .robot ∧ v ∈ s.tasks ∧ v.state = .issued ∧ v.kind = .survey ∧ v.range = some ⟨12, 13, some n⟩ ∧
       s.slot { v.place.coord s with position := 12 } = e) ∧
    (∀ e n, (surveying e (some n) .issued).TaskLaw) ∧
    (classify (some content) = .readable 0x00B2D4010A33#48 ∧ classify (some stranger) = .readable 0x00C40A77120E#48 ∧
      classify (some 0#64) = .unreadable ∧ classify none = .nothing ∧
      ∃ x ∈ (surveying (.occupied 1500) (some 12) .issued).wheel 1500, x.tag = 0x00B2D4010A33#48) :=
  ⟨by decide, fun _ _ => surveying_tasks _ _ _ (by decide), by decide⟩

theorem test_witness_ResolutionSettlesBoardsAndWheels :
    (hall.serves .management ∧ hall.reaches board ∧ hall.outside 12 48 ∧ hall.slot board = .empty ∧
      hall.tags.find (0x00C40A77120E#48).toNat = none) ∧
    (let s := sample (wheelAt (.inSlot board) none) [(board.key, .suspect (some 1500))] .idle []
     s.serves .management ∧ s.reaches board ∧ s.slot board = .suspect (some 1500) ∧ s.reaches other ∧ s.slot other = .empty ∧
       s.tags.find (0x00B2D4010A33#48).toNat = some 1500 ∧ s.wheel 1500 = some (wheelAt (.inSlot board) none) ∧
       (wheelAt (.inSlot board) none).intent = none ∧ (∀ v ∈ s.tasks, v.wheel = some 1500 → v.queued = true) ∧
       s.config.geometry.quarantine[board.aisle] = false) ∧
    (let s := sample (wheelAt .unknown none) [(board.key, .suspect none)] .idle []
     s.serves .management ∧ s.reaches board ∧ s.slot board = .suspect none ∧ 1500 < Config.handles ∧
       s.wheel 1500 = some (wheelAt .unknown none) ∧ (wheelAt .unknown none).location = .unknown ∧ s.slot other = .empty) ∧
    ((moving .move .queued .idle).serves .management ∧ ∃ x ∈ (moving .move .queued .idle).wheel 1500, x.intent ≠ none) ∧
    (walled.config.geometry.quarantine[other.aisle] = true ∧ (wheelAt .unknown none).hold ≠ .quarantine) ∧
    (atRest.slot board = .occupied 1500 ∧ atRest.slot board ≠ .empty ∧ ∀ w, atRest.slot board ≠ .suspect w) := by
  refine ⟨by decide, by decide, by decide, by decide, by decide, by decide, by decide, ?_⟩
  intro w; rw [show atRest.slot board = .occupied 1500 by decide]; nofun

/-- The hall with a head of zone 2 in a state, and a pass that polls it. -/
def looped (h : HeadState) (due : Nat) (p : Option LoopPass) : State :=
  { hall with
    config := { hall.config with sensor := { period := 60, assignment := (Vector.replicate 24 none).set 4 (some 2) } }
    loop := { hall.loop with startsDue := due, heads := hall.loop.heads.set 4 ⟨h, 2, none⟩, pass := p } }

/-- A reply of head 5: OK, 912 in tenths. -/
def okReply : Vector Byte 5 := #v[0x05#8, 0x00#8, 0x03#8, 0x90#8, crc8 [0x05#8, 0x00#8, 0x03#8, 0x90#8]]

theorem test_witness_LoopPassesPollAndJudge :
    (hall.supply.state = .running ∧ hall.loop.startsDue = 0 ∧ hall.loop.pass = none) ∧
    (let s := looped .probing 1 none
     s.supply.state = .running ∧ s.loop.startsDue = 0 + 1 ∧
       ((List.finRange 24).filter fun h => (s.config.sensor.assignment[h]).isSome) = [] ++ (4 : Fin 24) :: [] ∧
       ((s.loop.heads[(4 : Fin 24)]).state ≠ .off)) ∧
    (let s := looped .off 1 none
     ∀ h ∈ (List.finRange 24).filter fun h => (s.config.sensor.assignment[h]).isSome, (s.loop.heads[h]).state = .off) ∧
    (let s := looped .active 0 (some ⟨4, none, []⟩)
     s.supply.state = .running ∧ s.loop.pass = some ⟨4, none, []⟩ ∧ (s.loop.heads[(4 : Fin 24)]).state ≠ .off ∧
       (s.loop.heads[(4 : Fin 24)]).misses + 1 = 3) ∧
    (let s := looped .active 0 (some ⟨4, some okReply, []⟩)
     s.loop.pass = some ⟨4, some okReply, []⟩ ∧ crc8 [okReply[0], okReply[1], okReply[2], okReply[3]] = okReply[4] ∧
       okReply[0] = BitVec.ofNat 8 ((4 : Fin 24).val + 1) ∧ okReply[1] = 0x00#8 ∧
       912 = min 1000 ((okReply[2]).toNat * 256 + (okReply[3]).toNat)) := by decide

/-- Each edge of the alarm table: one tenth below Lo, at Lo, at Hi, one above, and at the two bands. -/
theorem test_witness_ZonesAreUpdatedByTheRules :
    let l : ZoneLimits := { ZoneLimits.default with shift := 0 }
    ((⟨0, 0⟩ : ZoneReadings).count = 0 ∧ (HumidityState.live = .live ∧ l.hold ≤ 60) ∧ ¬ l.hold ≤ 59) ∧
    0 < (⟨1, 849⟩ : ZoneReadings).count ∧ ((849 + 1 / 2) / 1 < l.lo) ∧ (l.lo ≤ 850 ∧ l.hi < 971) ∧ (l.lo ≤ 850 ∧ 970 ≤ l.hi) ∧
    (l.lo + l.hy ≤ 865 ∧ 864 < l.lo + l.hy) ∧ ((955 : Int) ≤ (l.hi : Int) - l.hy ∧ (l.hi : Int) - l.hy < 956) := by decide

theorem test_witness_ZoneUpdateIsOneGrant :
    (let s : State := { hall with loop := { hall.loop with handed := [] } }
     s.supply.state = .running ∧ s.loop.handed = []) ∧
    (let s : State := { atRest with loop := { atRest.loop with handed := [Vector.replicate 8 ⟨1, 912⟩] } }
     s.supply.state = .running ∧ s.TaskLaw ∧ s.loop.handed = Vector.replicate 8 ⟨1, 912⟩ :: []) := by
  have g := atRest_tasks
  exact ⟨by decide, by decide, ⟨g.numbers, g.shapes, g.order, g.room, g.oneOut, g.working, g.idle⟩, by decide⟩

theorem test_witness_LimitsCapturesAndAcknowledgements :
    (Port.climate ≠ .robot ∧ hall.serves .climate ∧ hall.memory.saving = none) ∧
    (let s : State := { hall with memory := { hall.memory with saving := some Configuration.default } }
     s.serves .climate ∧ s.memory.saving ≠ none) ∧
    (let l : RawLimits := ⟨900, 1000, 255, 0, 4095, 720, 4⟩
     l.lo ≤ 1000 ∧ l.hi ≤ 1000 ∧ l.boost ≤ 4095 ∧ l.hold ≤ 720 ∧ l.shift ≤ 4 ∧
       (l.lo : Int) + (min 50 l.hy : Nat) ≤ (l.hi : Int) - (min 50 l.hy : Nat)) ∧
    ((8 : Nat) ≤ 8 ∧ ¬ (1001 : Nat) ≤ 1000) ∧ ((1 : Nat) ≤ 255 ∧ (255 : Nat) ≤ 255 ∧ (255 : Nat) < 256) ∧
    ((1 : Nat) ≤ 6 ∧ (6 : Nat) ≤ 6 ∧ (6 : Nat) < 7) := by decide

theorem test_witness_ExclusionsAreGrantedAndEnded :
    (hall.serves .climate ∧ (hall.zone 0).exclusion = .none ∧ (hall.zone 0).presence = false ∧ 8 ≤ 8 ∧ Port.climate ≠ .robot) ∧
    (let s := hall.changeZone 0 fun z => { z with presence := true }
     s.serves .climate ∧ (s.zone 0).exclusion = .none ∧ (s.zone 0).presence = true) ∧
    (let s := hall.changeZone 0 fun z => { z with presence := true, exclusion := .pending 30 }
     s.serves .climate ∧ (s.zone 0).exclusion = .pending 30 ∧ (s.zone 0).presence = true) ∧
    (let s := State.exclude hall (.active 0)
     s.serves .climate ∧ s.supply.state = .running ∧ (s.zone 0).exclusion = .active 0 ∧ (s.zone 0).exclusion ≠ .none) ∧
    (let s := State.exclude hall (.active 1)
     s.supply.state = .running ∧ (s.zone 0).exclusion ≠ .active 0) := by decide

theorem test_witness_SavesCopyAndComplete :
    (hall.serves .management ∧ hall.supply.state = .running ∧ hall.memory.saving = none) ∧
    (let s : State := { busy with memory := { busy.memory with saving := some hall.config } }
     s.supply.state = .running ∧ s.memory.saving = some hall.config ∧ ∀ x ∈ (s.port .management).tx, x.place ≠ .answer) ∧
    (let s : State := { unsent with memory := { unsent.memory with saving := some hall.config } }
     s.supply.state = .running ∧ s.memory.saving = some hall.config ∧ ∃ x ∈ (s.port .management).tx, x.place = .answer) := by
  decide

theorem test_witness_StartsClassifyLoadAndReset :
    (asleep.supply.state = .retention ∧ false = !asleep.supply.intact) ∧
    (let s : State := { atRest with supply := ⟨.retention, false, true⟩ }
     s.supply.state = .retention ∧ true = !s.supply.intact) ∧
    atRest.supply.state = .running ∧
    (let assigned (s : State) (h : Fin 24) : Bool := (s.memory.image.sensor.assignment[h]).isSome
     (∀ h, assigned atRest h = false) ∧
       let s : State := { atRest with memory := { atRest.memory with
         valid := true, image := (looped .off 0 none).config } }
       s.memory.valid = true ∧ (List.finRange 24).filter (assigned s) = (4 : Fin 24) :: []) := by decide

theorem test_witness_ResetIsTheFirstStart :
    let s : State := { State.reset with supply := ⟨.retention, false, false⟩ }
    s.supply = ⟨.retention, false, false⟩ ∧ s.memory = State.reset.memory ∧ s.pending = [] := by decide

/-! ### The laws: a state with a wheel on a board that keeps them all, and a step from it -/

/-- The slot map of the wheel at rest. -/
theorem atRest_slot (c : Coord) : atRest.slot c = if c = board then .occupied 1500 else .empty := by
  have h := State.slot_setSlot quiet board c (.occupied 1500)
  have e : (quiet.setSlot board (.occupied 1500)).slot c = atRest.slot c := by simp [State.slot, State.setSlot, quiet, atRest, sample,
    hall, State.reset, Table.put]
  have q : quiet.slot c = .empty := by simp [State.slot, quiet, hall, State.reset, Table.find]
  rw [← e, h, q]

theorem atRest_inventory : atRest.InventoryLaw where
  held := by
    intro c w h
    rw [atRest_slot] at h
    split at h
    · subst c; rcases h with h | h <;> cases h
      exact ⟨_, rfl, rfl⟩
    · rcases h with h | h <;> cases h
  bound := by intro c w h; rw [atRest_slot] at h; split at h <;> cases h
  kept := by intro c w h; rw [atRest_slot] at h; split at h <;> cases h
  located := by
    intro w x c h hl
    obtain ⟨rfl, rfl⟩ := sample_only h
    cases hl
    exact .inl (by decide)
  intents := by intro w x i h hi; obtain ⟨rfl, rfl⟩ := sample_only h; cases hi
  gripper := by intro w x h; obtain ⟨rfl, rfl⟩ := sample_only h; simp [wheelAt]
  marks := by intro w x h; obtain ⟨rfl, rfl⟩ := sample_only h; simp [wheelAt, atRest, sample]
  once := by simp [atRest, sample]
  tasks := by simp [atRest, sample]

theorem atRest_quarantine : atRest.QuarantineLaw := by
  intro w x h hb
  obtain ⟨rfl, rfl⟩ := sample_only h
  exact absurd hb (by decide)

theorem atRest_ports : atRest.PortLaw := by intro p; cases p <;> constructor <;> decide

theorem atRest_humidity : atRest.HumidityLaw where
  zones := by
    intro z
    have : atRest.zone z = Zone.initial := by revert z; decide
    rw [this]
    constructor <;> first | decide | trivial
  heads := by
    intro h
    have : atRest.loop.heads[h] = ⟨.off, 0, none⟩ := by revert h; decide
    rw [this]
    constructor <;> decide
  handed := by decide

/-- The same state with a command waiting: a law of the state does not look at the queue. -/
theorem test_witness_StepsKeepTheLaws :
    let s : State := { atRest with pending := [.bookOut (proper .management) 1500] }
    s.StoreLaw ∧ s.TaskLaw ∧ s.ConfigLaw ∧ s.InventoryLaw ∧ s.QuarantineLaw ∧ s.PortLaw ∧ s.HumidityLaw ∧
      ∃ t, step s = .next t := by
  have a := atRest_store
  have b := atRest_tasks
  have c := atRest_config
  have d := atRest_inventory
  have e := atRest_humidity
  exact ⟨⟨a.slots, a.wheels, a.tags, a.index, a.discrepancies⟩,
    ⟨b.numbers, b.shapes, b.order, b.room, b.oneOut, b.working, b.idle⟩,
    ⟨c.working, c.image, c.saving, c.geometry, c.profiles, c.valid⟩,
    ⟨d.held, d.bound, d.kept, d.located, d.intents, d.gripper, d.marks, d.once, d.tasks⟩, atRest_quarantine, atRest_ports,
    ⟨e.zones, e.heads, e.handed⟩, _, rfl⟩

/-! ## One step of some commands, against the worked examples and the tables -/

/-- The state a command leaves. -/
def after (c : Instr) (s : State) : State :=
  match exec c s with
  | .next t => t
  | _ => s

/-- The last response of a port's transmitter. -/
def lastReply (s : State) (p : Port) : Option Reply := (s.port p).tx.getLast?.map Response.reply

/-- 11 R180, R181, R193: the frames of TAKE (06h), of ARRIVED(6, 1) with tag content (08h), of an ARRIVED cut short, of an unknown kind
30h, and one whose check differs. -/
theorem test_frames_are_read :
    frameCommand .robot 2#8 [0x06#8, 0x00#8, 0x1A#8, 0x28#8] = .take (proper .robot) ∧
      frameCommand .robot 13#8 [0x08#8, 0x00#8, 0x06#8, 0x01#8, 0x01#8, 0x00#8, 0xB2#8, 0xD4#8, 0x01#8, 0x0A#8, 0x33#8, 0x18#8, 0xEA#8, 0x3D#8, 0x73#8] =
        .arrived (proper .robot) ⟨6, 1⟩ (some content) ∧
      (frameCommand .robot 3#8 [0x08#8, 0x00#8, 0x06#8, 0xBC#8, 0x93#8]).request = some (.arrived, ⟨.robot, 0, .badLength⟩) ∧
      frameCommand .climate 2#8 [0x30#8, 0x00#8, 0xAE#8, 0x28#8] = .unknownKindRequest (proper .climate) 0x30 ∧
      frameCommand .robot 2#8 [0x06#8, 0x00#8, 0x00#8, 0x00#8] = .frameDiscard .robot 2#8 [0x06#8, 0x00#8, 0x00#8, 0x00#8] := by decide

/-- 11 R183: on the climate port a READ_CONFIG (15h) of SENSOR or of ZONE 7 with a byte too many is refused for its length, one of SWEEP
for its section. -/
theorem test_long_config_reads :
    let sensor := frameCommand .climate 4#8 [0x15#8, 0x00#8, 0x05#8, 0x00#8, 0xBF#8, 0xE5#8]
    let zone := frameCommand .climate 5#8 [0x15#8, 0x00#8, 0x06#8, 0x07#8, 0x00#8, 0x0C#8, 0xBD#8]
    let sweep := frameCommand .climate 4#8 [0x15#8, 0x00#8, 0x04#8, 0x00#8, 0x39#8, 0xE6#8]
    lastReply (after sensor hall) .climate = some ⟨.badField, .empty⟩ ∧
      lastReply (after zone hall) .climate = some ⟨.badField, .empty⟩ ∧
      lastReply (after sweep hall) .climate = some ⟨.notPermitted, .empty⟩ := by decide

/-- 11 R182: a request accepted while a BUSY waits is discarded, though nothing is outstanding. -/
theorem test_request_behind_a_busy_is_discarded : after (.pauseDispatch (proper .management)) unsent = unsent := by decide

/-- 11 R182: a TAKE that is outstanding as another request of its port is answered BUSY is answered in its own grant, behind the BUSY,
and the receiver keeps the frame begun since. -/
theorem test_outstanding_request_is_answered_behind_the_busy :
    let u := after (.interByteGap .robot syncByte) (after (.requestBusy .robot 0x05) quiet)
    let t := after (.take (proper .robot)) u
    u.serves .robot ∧ (t.port .robot).outstanding = none ∧ (t.port .robot).rx = [syncByte] ∧
      (t.port .robot).tx = [⟨0x05, ⟨.busy, .empty⟩, .busy⟩, ⟨0x06, ⟨.none, .noWork .empty⟩, .answer⟩] := by decide

/-- 06 R114, 07 R131: a blocked drop leaves the verify flag set, also where the task was issued again with it clear. -/
theorem test_blocked_drop_leaves_the_flag_set :
    let s := carrying .move .issued .working
    s.link.verified = false ∧
      (after (.slotBlocked (proper .robot) (some ⟨6, 1⟩)) s).link.verified = true := by decide

/-- 04 R57: the care offers of a visit look at the record after step 1: a mark that stands there, cleared since, still bars the offer. -/
theorem test_offers_look_at_the_record_after_step_1 :
    let x := wheelAt (.inSlot board) none
    (atRest.visitFlip 1500 { x with flipMark := true }).2 = false ∧ (atRest.visitFlip 1500 x).2 = true := by decide

/-- 08 R143, 06 R112: a survey of positions 12 to 13 has applied position 12, been taken back and been issued again; DONE with no new
report leaves the register at the slot of that report, not where the robot took the task up again. -/
theorem test_partial_survey_position :
    let s := surveying (.occupied 1500) (some 13) .issued
    let homed : State := { s with link := { s.link with position := some ⟨0, 0, 0⟩ } }
    (after (.doneReport (proper .robot) ⟨6, 1⟩ false false) homed).link.position = some board := by decide

/-- 11 R193: the answer to TAKE with the HOME order 0-0-0. -/
theorem test_home_order_bytes :
    (⟨6, ⟨.ok, .homeOrder ⟨0, 0, 0⟩⟩, .answer⟩ : Response).frame =
      [0xA9#8, 0x06#8, 0x06#8, 0x00#8, 0x01#8, 0x00#8, 0x00#8, 0x00#8, 0xDA#8, 0x66#8] := by decide

/-- 11 R181: the codes of the reasons PARTIAL (4) and LOST_LOAD (5) behind the outcome FAILED, the second value of R18 and R143; an
absent and a present optional item; a slot address and a handle in an answer to BOOK_IN. -/
theorem test_response_bytes :
    Ending.bytes (.failed .lostLoad) = [1#8, 5#8] ∧ surveyEndingBytes (.failed .incomplete) = [1#8, 4#8] ∧
      Body.bytes (.assigned 1500 none) = [0x05#8, 0xDC#8, 0x00#8] ∧
      Body.bytes (.assigned 1500 (some 8191)) = [0x05#8, 0xDC#8, 0x01#8, 0x1F#8, 0xFF#8] ∧
      Body.bytes (.booked 1500 board true) = [0x05#8, 0xDC#8, 0x05#8, 0x03#8, 0x0C#8, 0x01#8] := by decide

/-- 11 R181, R193: the task state ABORTING is 2 wherever it is answered: by ABORT_TASK (a MOVE of wheel 1500, 05 R88) and by CANCEL_MOVE
(07 R127). -/
theorem test_aborting_is_coded_as_in_the_answer_to_take :
    Body.bytes (.aborted (.movement .move) (some 1500) .aborting) = [0x05#8, 0x01#8, 0x05#8, 0xDC#8, 0x02#8] ∧
      Body.bytes .moveAborting = [0x02#8] := by decide

/-- 11 R180: the longest bodies stay within 253 bytes: four tasks, 24 heads with every item present. -/
theorem test_longest_bodies_fit :
    (Body.bytes (.tasks 64 40 24 (List.replicate 4 ⟨{ surveyTask none .issued with wheel := some 1500 }, 0, 0⟩))).length ≤ 253 ∧
      (Body.bytes (.heads (Vector.replicate 24 ⟨some 7, ⟨.active, 3, some 1000⟩⟩) 600 600)).length ≤ 253 := by decide

/-- 11 R190, R191: right after the first start the notice set of the management port holds the four start notices, and every mask all
kinds of its port. -/
theorem test_reset_notices :
    (State.reset.port .management).notices = [.restarted, .inventoryLost, .configDefaulted, .clockUnset] ∧
      ∀ p ∈ [Port.management, .robot, .climate], (State.reset.port p).mask = portNotices p := by decide

/-- 01's level of aisle 4: SET_SLOT_FAULT of an OCCUPIED slot is refused with STATE, CLEAR_SLOT_FAULT of a FAULTED one empties it. -/
theorem test_slot_faults :
    lastReply (after (.setSlotFault (proper .management) 3 12) atRest) .management = some ⟨.state, .empty⟩ ∧
      (after (.clearSlotFault (proper .management) 3 12) (hall.setSlot board .faulted)).slot board = .empty := by decide

/-- 03's wheel 7 at its sweep visit at minute 3,001,450 in a zone at 941: the flip due is 3,001,421, no brush due, and a FLIP is
entered. -/
theorem test_sweep_visit_computes :
    let x : Wheel := { wheelAt (.inSlot board) none with entry := 3000000, lastFlip := some 3000100, lastBrush := some 3000100 }
    let s := sample x [(board.key, .occupied 1500)] .offline []
    let u : State := { (s.changeZone 0 fun z => { z with humidity := .live, filtered := some 941 }) with clock := ⟨3001450, false⟩ }
    let t := after .sweepVisit u
    (∃ y ∈ t.wheel 1500, y.flipDue = some 3001421 ∧ y.brushDue = none ∧ y.flipMark = true) ∧
      t.tasks.map TaskRecord.kind = [.flip] := by decide

/-- The four tasks of 05's "choosing among three tasks", the robot at 2-3-10, zone 3 in HIGH_ALARM. -/
def chapter5 : State :=
  let w (tag : TagId) (cls : Fin 16) : Wheel := { wheelAt .unknown none with tag := tag, cls := cls }
  let t (n : Fin 64) (k : TaskKind) (h : Nat) (p : Coord) (m q : Nat) : TaskRecord :=
    { TaskRecord.offered k (some h) (.board p) m with number := n, sequence := q }
  let map (a : Fin 16) (l : Fin 12) (z : ZoneNumber) (m : Vector (Vector ZoneNumber 12) 16) : Vector (Vector ZoneNumber 12) 16 :=
    m.set a ((m[a]).set l z)
  let s : State := { hall with
    clock := ⟨1500000, false⟩
    config := { hall.config with
      classes := classes.set 5 { CareClass.default with weight := 4 }
      zoneMap := map 2 3 1 (map 6 1 3 (map 9 7 5 (map 2 0 1 hall.config.zoneMap))) }
    wheels := [(77, w 77#48 5), (120, w 120#48 3), (431, w 431#48 3)]
    tasks := [t 4 .flip 120 ⟨2, 3, 30⟩ 1499900 5310, t 9 .brush 431 ⟨6, 1, 4⟩ 1499970 5314,
      { t 17 (.movement .move) 77 ⟨9, 7, 0⟩ 1499995 5318 with destination := some (.slot ⟨2, 0, 5⟩), phase := some .beforePick },
      t 21 .flip 77 ⟨9, 7, 0⟩ 1499990 5320]
    link := { RobotLink.initial with state := .idle, position := some ⟨2, 3, 10⟩ } }
  s.changeZone 3 fun z => { z with alarm := .highAlarm }

/-- Its table of scores, and its choice. -/
theorem test_scores_example :
    chapter5.tasks.map chapter5.standing = [200, 460, 1002, 5] ∧
      chapter5.tasks.map chapter5.dispatchScore = [200, 288, 698, 0] ∧
      (match chapter5.choice with
        | .task t => t.number == 17
        | _ => false) = true := by decide

/-- 06's merged care task: the TAKE issues it as FLIP_BRUSH with issue 1 and deadline 12, marks its zone, and leaves the link WORKING. -/
theorem test_take_merges :
    let t := after (.take (proper .robot)) (caring .flip .queued .idle)
    t.tasks.map (fun v => (v.kind, v.state, v.issue)) = [(.flipBrush, .issued, 1)] ∧ t.link.state = .working ∧
      t.link.deadline = some 12 ∧ (t.zone 0).presence = true ∧ t.link.issuedTag = some 0x00B2D4010A33#48 := by decide

/-- Its ARRIVED with an unreadable tag (REREAD), and with the right tag (PROCEED, last seen). -/
theorem test_arrived :
    let u := after (.arrived (proper .robot) ⟨6, 1⟩ (some 0#64)) (caring .flipBrush .issued .working)
    let v := after (.arrived (proper .robot) ⟨6, 1⟩ (some content)) (caring .flipBrush .issued .working)
    u.tasks.map TaskRecord.rereads = [1] ∧ u.link.position = some board ∧ lastReply u .robot = some ⟨.reread, .empty⟩ ∧
      v.link.verified = true ∧ lastReply v .robot = some ⟨.proceed, .empty⟩ ∧
      ∃ x ∈ v.wheel 1500, x.lastSeen = some 2400000 := by decide

/-- Its FAULT(GRIP): the task is QUEUED again with attempts 1, the link in RECOVERY with count 1 at no known position. -/
theorem test_fault_takes_back :
    let t := after (.faultReport (proper .robot) .grip (some ⟨6, 1⟩)) (State.verify (caring .flipBrush .issued .working))
    t.tasks.map (fun v => (v.state, v.attempts)) = [(.queued, 1)] ∧ t.link.state = .recovery ∧ t.link.faults = 1 ∧
      t.link.position = none ∧ t.link.lastFault = some ⟨.grip, 2400000, some .flipBrush⟩ := by decide

/-- Its DONE with the flip credited alone: the face and the counts, both marks cleared, the number free. -/
theorem test_done_credits :
    let t := after (.doneReport (proper .robot) ⟨6, 1⟩ true false) (State.verify (caring .flipBrush .issued .working))
    t.tasks = [] ∧ t.link.state = .idle ∧ t.link.position = some board ∧ ∃ x ∈ t.wheel 1500, x.lastFlip = some 2400000 ∧
      x.faceUp = .b ∧ x.flipCount = 1 ∧ x.brushCount = 0 ∧ x.flipMark = false ∧ x.brushMark = false := by decide

/-- 07's relocation: RELOCATE reserves the destination and enters the MOVE; PICKED turns the source into the return slot. -/
theorem test_relocate_and_picked :
    let t := after (.relocate (proper .management) 3 12 1 30) atRest
    let p := after (.picked (proper .robot) ⟨6, 1⟩) (State.verify (moving .move .issued .working))
    (t.slot board = .occupied 1500 ∧ t.slot other = .reserved .destination 1500 ∧
      t.tasks.map (fun v => (v.kind, v.place)) = [(.movement .move, .board board)]) ∧
      p.slot board = .reserved .putBack 1500 ∧ p.slot other = .reserved .destination 1500 ∧
      ∃ x ∈ p.wheel 1500, x.location = .inGripper := by decide

/-- 07 R130: the DONE of the CARRIED MOVE puts the wheel on its destination and empties the return slot. -/
theorem test_move_completes :
    let t := after (.doneReport (proper .robot) ⟨6, 1⟩ false false) (carrying .move .issued .working)
    t.slot board = .empty ∧ t.slot other = .occupied 1500 ∧
      ∃ x ∈ t.wheel 1500, x.location = .inSlot other ∧ x.intent = none ∧ x.lastOutcome = some .done := by decide

/-- 07 R124, 02 R20: a BOOK_IN with AUTO into the empty hall takes handle 0 and the first board of the source aisle. -/
theorem test_book_in :
    let t := after (.bookIn (proper .management) 0x00C40A77120E#48 7 2300000 3 .auto false) hall
    t.slot ⟨5, 0, 0⟩ = .reserved .destination 0 ∧ t.tags = [(0x00C40A77120E, 0)] ∧
      lastReply t .management = some ⟨.ok, .booked 0 ⟨5, 0, 0⟩ true⟩ := by decide

/-- 08's tables: nothing found on an OCCUPIED board makes it SUSPECT and records MISSING; the recorded wheel on a SUSPECT one restores
it; the survey goes on at position 13. -/
theorem test_slot_read :
    let u := after (.slotRead (proper .robot) ⟨6, 1⟩ 12 none) (surveying (.occupied 1500) (some 12) .issued)
    let v := after (.slotRead (proper .robot) ⟨6, 1⟩ 12 (some content)) (surveying (.suspect (some 1500)) (some 12) .issued)
    u.slot board = .suspect (some 1500) ∧ u.discrepancies = [⟨.missing, 2400000, some board, some 1500, none⟩] ∧
      lastReply u .robot = some ⟨.ok, .surveyed .madeSuspect (some 13)⟩ ∧ v.slot board = .occupied 1500 ∧ v.discrepancies = [] := by
  decide

/-- 10's exclusion of zone 4 at minute 12: 15 remain, 10 are asked for, the larger is kept and the answer is GRANTED; and while the
robot is in the zone a request is answered PENDING. -/
theorem test_exclusion_requests :
    let u := after (.requestExclusion (proper .climate) 0 10) (State.exclude hall (.active 15))
    let v := after (.requestExclusion (proper .climate) 0 20) (hall.changeZone 0 fun z => { z with presence := true })
    (u.zone 0).exclusion = .active 15 ∧ lastReply u .climate = some ⟨.granted, .empty⟩ ∧
      (v.zone 0).exclusion = .pending 20 ∧ lastReply v .climate = some ⟨.pending, .empty⟩ := by decide

/-- 09 R158: a head PROBING that answers OK becomes ACTIVE and its value is not accepted; an ACTIVE one's is. -/
theorem test_replies_are_judged :
    let u := after .replyWindowClose (looped .probing 0 (some ⟨4, some okReply, []⟩))
    let v := after .replyWindowClose (looped .active 0 (some ⟨4, some okReply, []⟩))
    u.loop.heads[4] = ⟨.active, 0, none⟩ ∧ v.loop.heads[4] = ⟨.active, 0, some 912⟩ := by decide

/-- 04's pass that falls behind, minute 10: a boundary that finds a pass running leaves it owed and late. -/
theorem test_boundary :
    let t := after .sweepPeriodBoundary { hall with sweep := { hall.sweep with boundaries := 1 } }
    t.sweep.owed = true ∧ t.sweep.late = true ∧ t.sweep.running = true := by decide

/-- 11 R188: a save copies the configuration and stays outstanding; its completion answers OK. -/
theorem test_save :
    let u := after (.saveConfig (proper .management)) hall
    u.memory.saving = some hall.config ∧ u.memory.valid = false ∧ lastReply u .management = none ∧
      lastReply (after (.saveComplete true) u) .management = some ⟨.ok, .empty⟩ := by decide

/-- The smallest queue: the command at the front runs, the rest waits (log entry 1). -/
theorem test_step_takes_the_front :
    (match step { hall with pending := [.secondEvent, .minuteEvent] } with
      | .next t => t.loop.timer == 1 && t.pending == [.minuteEvent]
      | _ => false) = true := by decide

end Sys2Proof.Tests
end

namespace Sys2Proof.Machine

/-! ## The Port Unit: a window set in the grant of a request -/

/-- A later write of a port's record replaces an earlier one. -/
@[simp] theorem State.setPort_setPort (s : State) (p : Port) (r r' : PortRecord) :
    (s.setPort p r).setPort p r' = s.setPort p r' := by
  cases p <;> rfl

/-- A grant touches no port record, so a write of one may come before or after it. -/
theorem State.grantPort_setPort (s : State) (p q : Port) (r : PortRecord) :
    (s.setPort q r).grantPort p = (s.grantPort p).setPort q r := rfl

/-- The receiver does not look at the window. -/
theorem received_window (r : PortRecord) (w : Window) :
    { r with window := w }.received = { r.received with window := w } := by
  simp only [received_eq, PortRecord.rxAfter]

/-- A window written in the grant is as if it had stood when the request came in. -/
theorem setWindow_granted (s : State) (p : Port) (w : Window) :
    let u := (s.received p).grantPort p
    u.setPort p { u.port p with window := w } =
      ((s.setPort p { s.port p with window := w }).received p).grantPort p := by
  simp [State.received, State.grantPort_setPort, received_window]

/-- An answer placed right after the start of a grant, with no effect between, is a served request that raises nothing. -/
theorem served_granted (s : State) (p : Port) (k : RequestKind) (r : Reply) :
    Served s (((s.received p).grantPort p).answer p k.code r) p k r [] :=
  served_answer k r rfl (fun _ => rfl) (raised_granted s p)

/-- A proper request of a permitted kind whose effect is a refusal changes nothing but for its answer and its grant. -/
theorem request_refused {s : State} {p : Port} (h : s.serves p) {k : RequestKind} (hk : k.permitted p = true)
    {effect : State → State × Reply} {c : ResultCode}
    (he : effect ((s.received p).grantPort p) = refuse ((s.received p).grantPort p) c) :
    RefusedWith s (s.request (proper p) k effect) p k c := by
  rw [request_served h hk, he]
  exact ⟨by simp [refuse], served_granted s p k _⟩

/-! ## SET_WINDOW -/

theorem exec_setWindow (f : Frame) (source destination : Nat) (s : State) :
    exec (.setWindow f source destination) s = execSetWindow f source destination s := by
  rfl

/-- R12: two aisles of the configured hall replace both halves. -/
theorem serveSetWindow_of_below {s : State} (p : Port) {a b : Fin 16}
    (ha : a.val < s.config.geometry.aisles) (hb : b.val < s.config.geometry.aisles) :
    serveSetWindow p a b s = accept (s.setPort p { s.port p with window := ⟨a, b⟩ }) (.window a b) := by
  simp [serveSetWindow, ha, hb]

/-- R12: an aisle outside the configured hall, in either half, is refused. -/
theorem serveSetWindow_of_outside {s : State} (p : Port) {a b : Nat}
    (h : s.config.geometry.aisles ≤ a ∨ s.config.geometry.aisles ≤ b) :
    serveSetWindow p a b s = refuse s .badField := by
  have hout : ¬ (a < s.config.geometry.aisles ∧ b < s.config.geometry.aisles) := by omega
  simp [serveSetWindow, hout]

/-- R183: every port may set its window. -/
theorem setWindow_permitted (p : Port) : RequestKind.setWindow.permitted p = true := by
  cases p <;> rfl

/-- A SET_WINDOW of two aisles of the configured hall leaves the state that an answer to a request makes of the state with the new
window. -/
theorem request_setWindow {s : State} {p : Port} (h : s.serves p) {a b : Fin 16}
    (ha : a.val < s.config.geometry.aisles) (hb : b.val < s.config.geometry.aisles) :
    s.request (proper p) .setWindow (serveSetWindow p a b) =
      (((s.setPort p { s.port p with window := ⟨a, b⟩ }).received p).grantPort p).answer p RequestKind.setWindow.code
        ⟨.ok, .window a b⟩ := by
  have hgrant : serveSetWindow p a b ((s.received p).grantPort p) =
      accept (((s.setPort p { s.port p with window := ⟨a, b⟩ }).received p).grantPort p) (.window a b) := by
    rw [serveSetWindow_of_below p (s := (s.received p).grantPort p) ha hb, setWindow_granted]
  rw [request_served h (setWindow_permitted p), hgrant]
  rfl

/-- Settles O8: both outcomes of R12, by the branches of the check in the grant. -/
theorem setWindowReplacesBothHalves : Obligations.SetWindowReplacesBothHalves := by
  unfold Obligations.SetWindowReplacesBothHalves
  intro s p hs
  constructor
  · intro a b ha hb
    have hreq := request_setWindow hs ha hb
    exact ⟨_, exec_setWindow _ _ _ s, (congrArg State.inside hreq).trans (by simp), hreq ▸ served_granted _ p .setWindow _⟩
  · intro a b hout
    exact ⟨_, exec_setWindow _ _ _ s, request_refused hs (setWindow_permitted p) (serveSetWindow_of_outside p hout)⟩

end Sys2Proof.Machine

namespace Sys2Proof.Machine

/-! ## The Port Unit: requests that only read, and requests of a kind the port may not make -/

/-- A proper request of a permitted kind whose effect only reads is answered OK and changes nothing but for its answer and its grant. -/
theorem request_read {s : State} {p : Port} (h : s.serves p) {k : RequestKind} (hk : k.permitted p = true)
    {effect : State → State × Reply} {b : Body}
    (he : effect ((s.received p).grantPort p) = accept ((s.received p).grantPort p) b) :
    (s.request (proper p) k effect).inside = s.inside ∧ Served s (s.request (proper p) k effect) p k ⟨.ok, b⟩ [] := by
  rw [request_served h hk, he]
  exact ⟨by simp [accept], served_granted s p k _⟩

/-- R183: a proper request of a kind the port may not make is answered NOT_PERMITTED, without a grant. -/
theorem request_notPermitted {s : State} {p : Port} (h : s.serves p) {k : RequestKind} (hk : k.permitted p = false)
    (effect : State → State × Reply) : TurnedAway s (s.request (proper p) k effect) p k.code .notPermitted := by
  have hrefused : s.request (proper p) k effect = (s.received p).answer p k.code ⟨.notPermitted, .empty⟩ := by
    simp [State.request, State.receive, State.admission, proper, h.1, turnsAway_of_serves h, hk]
  -- A grant touches no port, so the ports are those of a served request.
  obtain ⟨hanswered, -⟩ := served_granted s p k ⟨.notPermitted, .empty⟩
  rw [hrefused]
  exact ⟨by simp, rfl, hanswered⟩

/-! ## FIND_WHEEL -/

theorem exec_findWheel (f : Frame) (tag : TagId) (s : State) : exec (.findWheel f tag) s = execFindWheel f tag s := by
  rfl

/-- R28: a tag the index holds is answered with its handle. -/
theorem serveFindWheel_of_some {s : State} {tag : TagId} {w : Nat} (h : s.tags.find tag.toNat = some w) :
    serveFindWheel tag s = accept s (.handle w) := by
  simp [serveFindWheel, State.lookup, h]

/-- R28: a tag the index does not hold is refused. -/
theorem serveFindWheel_of_none {s : State} {tag : TagId} (h : s.tags.find tag.toNat = none) :
    serveFindWheel tag s = refuse s .notFound := by
  simp [serveFindWheel, State.lookup, h]

/-- R183: FIND_WHEEL is the management port's alone. -/
theorem findWheel_permitted (p : Port) : RequestKind.findWheel.permitted p = decide (p = .management) := by
  cases p <;> rfl

/-- R26: every tag in the index is the tag of a wheel, and so a valid one. -/
theorem State.StoreLaw.valid_of_find {s : State} (law : s.StoreLaw) {tag : TagId} {w : Nat}
    (h : s.tags.find tag.toNat = some w) : tagIdValid tag = true := by
  obtain ⟨x, hx, hxtag⟩ := (law.index _ w).1 h
  obtain ⟨-, hvalid⟩ := law.wheels.2 _ (Table.mem_of_find hx)
  rwa [BitVec.eq_of_toNat_eq hxtag] at hvalid

/-- R24, R26: the index holds neither of the two invalid IDs. -/
theorem State.StoreLaw.find_invalid {s : State} (law : s.StoreLaw) {tag : TagId}
    (h : tag = 0#48 ∨ tag = BitVec.allOnes 48) : s.tags.find tag.toNat = none := by
  have hinvalid : tagIdValid tag ≠ true := by
    rcases h with rfl | rfl <;> decide
  exact Option.eq_none_iff_forall_ne_some.2 fun _ hw => hinvalid (law.valid_of_find hw)

/-- A FIND_WHEEL of a tag the index does not hold is refused with NOT_FOUND. -/
theorem findWheel_notFound {s : State} (hs : s.serves .management) {tag : TagId} (h : s.tags.find tag.toNat = none) :
    ∃ t, exec (.findWheel (proper .management) tag) s = .next t ∧ RefusedWith s t .management .findWheel .notFound :=
  ⟨_, exec_findWheel _ _ s, request_refused hs (findWheel_permitted _) (serveFindWheel_of_none h)⟩

/-- Settles O14: on the management port by what the index holds of the tag, on another port by its permission. -/
theorem findWheelLooksTheTagUp : Obligations.FindWheelLooksTheTagUp := by
  unfold Obligations.FindWheelLooksTheTagUp
  refine ⟨fun s tag hs => ⟨fun w hw => ?held, fun hnone => ?absent, fun law hinvalid => ?invalid⟩, fun s p tag hp hs => ?otherPort⟩
  case held => exact ⟨_, exec_findWheel _ _ s, request_read hs (findWheel_permitted _) (serveFindWheel_of_some hw)⟩
  case absent => exact findWheel_notFound hs hnone
  case invalid => exact findWheel_notFound hs (law.find_invalid hinvalid)
  case otherPort =>
    have hdenied : RequestKind.findWheel.permitted p = false := by simp [findWheel_permitted, hp]
    exact ⟨_, exec_findWheel _ _ s, request_notPermitted hs hdenied _⟩

end Sys2Proof.Machine

namespace Sys2Proof.Machine

/-! ## The Port Unit: requests whose effect is taken -/

/-- Raised notices are read off the ports alone. -/
theorem raised_congr {s t v : State} {raised : List (Port × Notice)} (hports : v.ports = t.ports) (h : Raised s t raised) :
    Raised s v raised := by
  intro q n hn
  rw [State.port_congr hports q]
  exact h q n hn

/-- The TASK_AVAILABLE test changes nothing of a port but its notice set. -/
theorem sansNotices_testAvailable (s : State) (q : Port) :
    (s.testAvailable.port q).sansNotices = (s.port q).sansNotices :=
  sansNotices_raiseIf s _ _ _ _

/-- A proper request of a permitted kind whose effect is taken leaves the inside of the effect's state, when the effect leaves the
arbiter alone, and the ports but for the notices it raises. -/
theorem request_taken {s v : State} {p : Port} (h : s.serves p) {k : RequestKind} (hk : k.permitted p = true)
    {effect : State → State × Reply} {b : Body} {raised : List (Port × Notice)}
    (he : effect ((s.received p).grantPort p) = accept v b)
    (harbiter : v.arbiter = ((s.received p).grantPort p).arbiter)
    (hports : ∀ q, (v.port q).sansNotices = (((s.received p).grantPort p).port q).sansNotices)
    (hraised : Raised s v raised) :
    (s.request (proper p) k effect).inside = v.inside ∧ Served s (s.request (proper p) k effect) p k ⟨.ok, b⟩ raised := by
  rw [request_served h hk, he]
  exact ⟨State.inside_answer _ _ _ _, served_answer k _ harbiter hports hraised⟩

/-- A taken request whose effect touches neither the ports nor the arbiter raises nothing. -/
theorem request_taken_quietly {s v : State} {p : Port} (h : s.serves p) {k : RequestKind} (hk : k.permitted p = true)
    {effect : State → State × Reply} {b : Body} (he : effect ((s.received p).grantPort p) = accept v b)
    (harbiter : v.arbiter = ((s.received p).grantPort p).arbiter) (hports : v.ports = ((s.received p).grantPort p).ports) :
    (s.request (proper p) k effect).inside = v.inside ∧ Served s (s.request (proper p) k effect) p k ⟨.ok, b⟩ [] :=
  request_taken h hk he harbiter (fun q => by rw [State.port_congr hports q]) (raised_congr hports (raised_granted s p))

/-- A taken request whose effect ends in the TASK_AVAILABLE test raises what the test finds (R91). -/
theorem request_taken_tested {s v : State} {p : Port} (h : s.serves p) {k : RequestKind} (hk : k.permitted p = true)
    {effect : State → State × Reply} {b : Body} (he : effect ((s.received p).grantPort p) = accept v.testAvailable b)
    (harbiter : v.arbiter = ((s.received p).grantPort p).arbiter) (hports : v.ports = ((s.received p).grantPort p).ports) :
    (s.request (proper p) k effect).inside = v.inside ∧
      Served s (s.request (proper p) k effect) p k ⟨.ok, b⟩ v.availableNow := by
  have hraised : Raised s v [] := raised_congr hports (raised_granted s p)
  have htaken := request_taken h hk he ((State.testAvailable_arbiter v).trans harbiter)
    (fun q => by rw [sansNotices_testAvailable, State.port_congr hports q]) (State.raised_testAvailable hraised)
  rwa [State.inside_testAvailable] at htaken

/-! ## HOMED -/

/-- R105: what a HOMED in UNHOMED or RECOVERY makes of the link before the test of R91. -/
def State.atHome (s : State) : State :=
  { s with link := { s.link with state := .idle, position := some s.config.robot.home, homeOrder := none } }

theorem exec_homed (f : Frame) (s : State) : exec (.homed f) s = execHomed f s := by
  rfl

/-- R183: the robot may report HOMED on its port. -/
theorem homed_permitted_robot : RequestKind.homed.permitted .robot = true := by
  rfl

/-- R105: in UNHOMED and RECOVERY the link goes to IDLE at HOME, and the test of R91 runs. -/
theorem serveHomed_of_unhomed_or_recovery {s : State} (h : s.link.state = .unhomed ∨ s.link.state = .recovery) :
    serveHomed s = accept s.atHome.testAvailable := by
  rcases h with h | h <;> simp only [serveHomed, State.setPosition_link, h] <;> rfl

/-- R105: in IDLE only the position is set. -/
theorem serveHomed_of_idle {s : State} (h : s.link.state = .idle) :
    serveHomed s = accept (s.setPosition (some s.config.robot.home)) := by
  simp only [serveHomed, h]

/-- R105: in the four other states HOMED is refused. -/
theorem serveHomed_of_otherwise {s : State}
    (h : s.link.state = .offline ∨ s.link.state = .working ∨ s.link.state = .halted ∨ s.link.state = .lost) :
    serveHomed s = refuse s .state := by
  rcases h with h | h | h | h <;> simp only [serveHomed, h]

/-- Settles O29: by the three groups of link states of R105. -/
theorem homedStandsAtHome : Obligations.HomedStandsAtHome := by
  unfold Obligations.HomedStandsAtHome
  refine fun s hs => ⟨fun haway => ?away, fun hidle => ?idle, fun hother => ?otherwise⟩
  case away =>
    -- The test runs in the granted state, which differs from `s` in the Port Unit and the arbiter alone.
    have hnow : ((s.received .robot).grantPort .robot).atHome.availableNow = s.atHome.availableNow :=
      State.availableNow_congr rfl
    obtain ⟨hinside, hserved⟩ := request_taken_tested hs homed_permitted_robot
      (serveHomed_of_unhomed_or_recovery (s := (s.received .robot).grantPort .robot) haway) rfl rfl
    exact ⟨_, exec_homed _ s, hinside, hnow ▸ hserved⟩
  case idle =>
    exact ⟨_, exec_homed _ s, request_taken_quietly hs homed_permitted_robot
      (serveHomed_of_idle (s := (s.received .robot).grantPort .robot) hidle) rfl rfl⟩
  case otherwise =>
    exact ⟨_, exec_homed _ s, request_refused hs homed_permitted_robot
      (serveHomed_of_otherwise (s := (s.received .robot).grantPort .robot) hother)⟩

end Sys2Proof.Machine

namespace Sys2Proof.Machine

set_option Elab.async false

/-! ## The combinators: what holds of every outcome holds of the whole -/

section
variable {P : State → Prop} {s : State}

theorem State.receive_cases {f : Frame} {code : Nat} {permitted : Bool} {effect : State → State} (hs : P s)
    (hbusy : P ((s.hunt f.port).answerBusy f.port code))
    (hrefused : ∀ c, P ((s.received f.port).answer f.port code ⟨c, .empty⟩))
    (hgranted : P (effect ((s.received f.port).grantPort f.port))) : P (s.receive f code permitted effect) := by
  unfold State.receive
  split
  · exact hs
  · exact hbusy
  · exact hrefused _
  · exact hgranted

theorem State.whenRunning_cases {f : State → State} (hs : P s) (hf : P (f s)) : P (s.whenRunning f) := by
  unfold State.whenRunning
  split
  · exact hf
  · exact hs

theorem State.onBoard_cases {level position : Nat} {k : Coord → State × Reply} (hs : P s)
    (hk : ∀ c, s.sourceBoard level position = some c → P (k c).1) : P (s.onBoard level position k).1 := by
  unfold State.onBoard
  split
  · exact hs
  · exact hk _ ‹_›

theorem State.onWheel_cases {w : Nat} {k : Wheel → State × Reply} (hs : P s)
    (hk : ∀ x, w < Config.handles → s.wheel w = some x → P (k x).1) : P (s.onWheel w k).1 := by
  unfold State.onWheel
  split
  · split
    · exact hs
    · exact hk _ ‹_› ‹_›
  · exact hs

theorem onZone_cases {zone : Nat} {k : ZoneNumber → State × Reply} (hs : P s) (hk : ∀ z, P (k z).1) : P (onZone s zone k).1 := by
  unfold onZone
  split
  · exact hk _
  · exact hs

theorem State.onReport_cases {r : TaskRef} {k : TaskRecord → State × Reply} (hs : P s)
    (hk : ∀ t, s.judge r = .current t → P (k t).1) : P (s.onReport r k).1 := by
  unfold State.onReport
  split
  · exact hs
  · exact hs
  · exact hs
  · exact hk _ ‹_›

theorem named_cases {form : BodyForm} {r : State × Reply} (hs : P s) (hr : P r.1) : P (named form s r).1 := by
  unfold named
  split
  · exact hs
  · exact hr

end

/-! ## The walls of quarantine -/

/-- The record `x` stands as the law of quarantine wants it: in or bound for a quarantine aisle only under a QUARANTINE hold. -/
def State.Sheltered (s : State) (x : Wheel) : Prop := s.boundToQuarantine x = true → x.hold = .quarantine

/-- The intent names the board as its destination or its return slot. -/
def Intent.Names (i : Intent) (c : Coord) : Prop := i.destination = .slot c ∨ i.returnSlot = some c

/-- The wheel of every movement task that a robot may pick up from a board lies on that board. -/
def State.SourcesLie (s : State) : Prop :=
  ∀ t ∈ s.tasks, ∀ w c x, t.isMovement = true → t.verifiable = true → t.wheel = some w → t.source = some c →
    s.wheel w = some x → x.location = .inSlot c

/-- R122: the inventory's law says so. -/
theorem State.InventoryLaw.sourcesLie {s : State} (law : s.InventoryLaw) : s.SourcesLie := by
  intro t ht w c x hmove hverifiable hw hsource hx
  obtain ⟨y, hy, hmovement, -⟩ := law.tasks t ht w hw
  obtain ⟨i, -, hkind, hphase, -, hplace, -⟩ := hmovement hmove
  cases hx.symm.trans hy
  have hbefore : i.phase = .beforePick := by
    cases hk : i.kind <;> rw [hk] at hkind <;> simp [TaskRecord.verifiable, hkind, hphase] at hverifiable <;> exact hverifiable
  have hboard := hplace hbefore
  cases hk : i.kind <;> cases hl : x.location <;> rw [hk] at hkind <;>
    simp [Intent.place, hk, hbefore, hl] at hboard <;> simp [TaskRecord.source, hkind, hboard] at hsource ⊢
  all_goals exact hsource

section
variable {s : State} {x y : Wheel}

theorem State.boundToQuarantine_iff : s.boundToQuarantine x = true ↔
    (∃ c, x.location = .inSlot c ∧ s.quarantined c = true) ∨ ∃ i c, x.intent = some i ∧ i.Names c ∧ s.quarantined c = true := by
  have hgoal (d : Destination) : s.quarantinedGoal d = true ↔ ∃ c, d = .slot c ∧ s.quarantined c = true := by
    cases d <;> simp [State.quarantinedGoal]
  have hplace : (match x.location with | .inSlot c => s.quarantined c | _ => false) = true ↔
      ∃ c, x.location = .inSlot c ∧ s.quarantined c = true := by
    cases x.location <;> simp
  unfold State.boundToQuarantine
  rw [Bool.or_eq_true]
  refine or_congr hplace ?_
  rcases x.intent with _ | i
  · simp
  · rcases hr : i.returnSlot with _ | r <;> simp [hgoal, hr, Intent.Names, or_and_right, exists_or]

/-- A record rewritten under its hold, whose every board was the old record's too, is sheltered as that was. -/
theorem State.Sheltered.narrow (h : s.Sheltered x) (hhold : y.hold = x.hold)
    (hlies : ∀ c, y.location = .inSlot c → s.quarantined c = true → s.boundToQuarantine x = true)
    (hgoes : ∀ i c, y.intent = some i → i.Names c → s.quarantined c = true → s.boundToQuarantine x = true) : s.Sheltered y := by
  intro hbound
  rw [hhold]
  refine h ?_
  rcases State.boundToQuarantine_iff.1 hbound with ⟨c, hc, hq⟩ | ⟨i, c, hi, hc, hq⟩
  · exact hlies c hc hq
  · exact hgoes i c hi hc hq

/-- A record that keeps hold, location and intent is sheltered as it was. -/
theorem State.Sheltered.congr (h : s.Sheltered x) (hhold : y.hold = x.hold) (hlocation : y.location = x.location)
    (hintent : y.intent = x.intent) : s.Sheltered y :=
  h.narrow hhold (fun c hc hq => State.boundToQuarantine_iff.2 (.inl ⟨c, hlocation ▸ hc, hq⟩))
    fun i c hi hc hq => State.boundToQuarantine_iff.2 (.inr ⟨i, c, hintent ▸ hi, hc, hq⟩)

/-- A record that keeps its hold, on no board or on its own, bound for no board but those of its old intent, is sheltered as it was. -/
theorem State.Sheltered.leave (h : s.Sheltered x) (hhold : y.hold = x.hold)
    (hlocation : ∀ c, y.location = .inSlot c → x.location = .inSlot c)
    (hintent : ∀ i c, y.intent = some i → i.Names c → ∃ j, x.intent = some j ∧ j.Names c) : s.Sheltered y :=
  h.narrow hhold (fun c hc hq => State.boundToQuarantine_iff.2 (.inl ⟨c, hlocation c hc, hq⟩))
    fun i c hi hc hq => by
      obtain ⟨j, hj, hnames⟩ := hintent i c hi hc
      exact State.boundToQuarantine_iff.2 (.inr ⟨j, c, hj, hnames, hq⟩)

/-- A record that keeps its hold and place and has no intent is sheltered as it was. -/
theorem State.Sheltered.part (h : s.Sheltered x) (hhold : y.hold = x.hold) (hlocation : y.location = x.location)
    (hintent : y.intent = none) : s.Sheltered y :=
  h.leave hhold (fun _ => hlocation ▸ id) fun _ _ hi => by simp [hintent] at hi

/-- A record on no board and bound for none is sheltered under any hold. -/
theorem State.sheltered_away (hlocation : ∀ c, y.location ≠ .inSlot c) (hintent : ∀ i c, y.intent = some i → ¬ i.Names c) :
    s.Sheltered y := by
  intro hbound
  rcases State.boundToQuarantine_iff.1 hbound with ⟨c, hc, -⟩ | ⟨i, c, hi, hc, -⟩
  · exact absurd hc (hlocation c)
  · exact absurd hc (hintent i c hi)

end

theorem parkIntent_names (c : Coord) : ¬ parkIntent.Names c := by simp [Intent.Names, parkIntent]

/-! ## What a withdrawal leaves of a record -/

theorem Wheel.mark_keeps (x : Wheel) (k : TaskKind) (b : Bool) :
    (x.mark k b).hold = x.hold ∧ (x.mark k b).location = x.location ∧ (x.mark k b).intent = x.intent := by
  unfold Wheel.mark
  split <;> exact ⟨rfl, rfl, rfl⟩

theorem Wheel.markAll_keeps (x : Wheel) (l : List TaskRecord) :
    (l.foldl (fun x t => x.mark t.kind false) x).hold = x.hold ∧ (l.foldl (fun x t => x.mark t.kind false) x).location = x.location ∧
      (l.foldl (fun x t => x.mark t.kind false) x).intent = x.intent := by
  induction l generalizing x with
  | nil => exact ⟨rfl, rfl, rfl⟩
  | cons t l ih =>
    obtain ⟨hhold, hlocation, hintent⟩ := x.mark_keeps t.kind false
    rw [← hhold, ← hlocation, ← hintent]
    exact ih _

/-- R85: a record found after a withdrawal has the hold, the location and the intent it had. -/
theorem State.wheel_withdrawWhere_keeps {s : State} {p : TaskRecord → Bool} {w : Nat} {y : Wheel}
    (h : (s.withdrawWhere p).wheel w = some y) :
    ∃ x, s.wheel w = some x ∧ y.hold = x.hold ∧ y.location = x.location ∧ y.intent = x.intent := by
  rw [State.withdrawWhere, State.wheel_markAll] at h
  obtain ⟨x, hx, rfl⟩ := Option.map_eq_some_iff.1 h
  exact ⟨x, hx, x.markAll_keeps _⟩

/-! ## The task a report names -/

theorem State.judge_current {s : State} {t : TaskRecord} {r : TaskRef} (h : s.judge r = .current t) :
    t ∈ s.tasks ∧ t.queued = false := by
  unfold State.judge at h
  split at h
  · dsimp only at h
    split at h
    · next x hx =>
      split at h
      · split at h <;> cases h
      · next hq =>
        split at h
        · cases h
          exact ⟨List.mem_of_find?_eq_some hx, by simpa using hq⟩
        · cases h
    · split at h <;> cases h
  · cases h

/-! ## What a command may write -/

/-- The registers that a command may write beside those every command may write. -/
structure Scope where
  clock  : Bool
  memory : Bool
  config : Bool

/-- `t` is reached from `s` by writes a command of scope `g` makes. Each keeps the laws of the Table Store, of the configuration, of the
ports and of humidity, and that of quarantine where the sources of `s` lie as its tasks say: where a write could break
one, it carries what keeps it. -/
inductive Writes (g : Scope) (s : State) : State → Prop
  | refl : Writes g s s
  | slot {u : State} (h : Writes g s u) (c : Coord) (e : SlotEntry) : Writes g s (u.setSlot c e)
  | noSlots {u : State} (h : Writes g s u) : Writes g s { u with slots := [] }
  | wheel {u : State} (h : Writes g s u) (w : Nat) (f : Wheel → Wheel) (hf : ∀ x, (f x).tag = x.tag ∧ (f x).cls = x.cls)
      (hq : s.SourcesLie → ∀ x, u.wheel w = some x → u.Sheltered x → u.Sheltered (f x)) : Writes g s (u.changeWheel w f)
  | wheelClass {u : State} (h : Writes g s u) (w : Nat) (n : Fin 16) (hn : u.config.classes[n].valid = true) :
      Writes g s (u.changeWheel w fun x => { x with cls := n })
  | create {u : State} (h : Writes g s u) (w : Nat) (x : Wheel) (hw : w < Config.handles) (hfree : u.StoreLaw → u.wheel w = none)
      (htag : tagIdValid x.tag = true) (hnew : u.lookup x.tag = none) (hx : u.config.classes[x.cls].valid = true)
      (hq : u.Sheltered x) : Writes g s (u.createWheel w x)
  | delete {u : State} (h : Writes g s u) (w : Nat) : Writes g s (u.deleteWheel w)
  | findings {u : State} (h : Writes g s u) (l : List Discrepancy)
      (hl : u.discrepancies.length ≤ Config.discrepancyRoom → l.length ≤ Config.discrepancyRoom) :
      Writes g s { u with discrepancies := l }
  | humidity {u : State} (h : Writes g s u) (zs : Vector Zone 8) (l : SensorLoop)
      (hl : u.HumidityLaw → State.HumidityLaw { u with zones := zs, loop := l }) : Writes g s { u with zones := zs, loop := l }
  | port {u : State} (h : Writes g s u) (p : Port) (r : PortRecord) (hr : (u.port p).Law p → r.Law p) :
      Writes g s (u.setPort p r)
  | free {u : State} (h : Writes g s u) (tasks : List TaskRecord) (d : Dispatcher) (l : RobotLink) (r : Option SurveyRecord)
      (w : Sweep) (a : Arbiter) (v : Supply) :
      Writes g s { u with tasks := tasks, dispatch := d, link := l, lastSurvey := r, sweep := w, arbiter := a, supply := v }
  | clock {u : State} (h : Writes g s u) (hg : g.clock = true) (c : Clock) : Writes g s { u with clock := c }
  | memory {u : State} (h : Writes g s u) (hg : g.memory = true) (m : ConfigMemory)
      (hm : u.ConfigLaw → m.image.Fits ∧ ∀ c, m.saving = some c → c.Fits) : Writes g s { u with memory := m }
  | config {u : State} (h : Writes g s u) (hg : g.config = true) (c : Configuration) (r : Geometry) (p : Vector CareClass 16)
      (hq : u.wheels = [] ∨ c.geometry = u.config.geometry)
      (hc : u.ConfigLaw → State.ConfigLaw { u with config := c, retainedGeometry := r, retainedProfiles := p }) :
      Writes g s { u with config := c, retainedGeometry := r, retainedProfiles := p }

namespace Writes

section
variable {g : Scope} {s u : State}

/-- A record written anew with the tag and the class it had, and with its hold, location and intent. -/
theorem change (h : Writes g s u) {w : Nat} {f : Wheel → Wheel}
    (hf : ∀ x, (f x).tag = x.tag ∧ (f x).cls = x.cls := by exact fun _ => ⟨rfl, rfl⟩)
    (hs : ∀ x, (f x).hold = x.hold ∧ (f x).location = x.location ∧ (f x).intent = x.intent := by exact fun _ => ⟨rfl, rfl, rfl⟩) :
    Writes g s (u.changeWheel w f) :=
  h.wheel w f hf fun _ x _ law => law.congr (hs x).1 (hs x).2.1 (hs x).2.2

/-- A record moved off its board, or parted from its intent. -/
theorem move (h : Writes g s u) {w : Nat} {f : Wheel → Wheel}
    (hq : ∀ x, u.wheel w = some x → u.Sheltered x → u.Sheltered (f x))
    (hf : ∀ x, (f x).tag = x.tag ∧ (f x).cls = x.cls := by exact fun _ => ⟨rfl, rfl⟩) : Writes g s (u.changeWheel w f) :=
  h.wheel w f hf fun _ => hq

/-! ## The Port Unit and the arbiter -/

theorem raise (h : Writes g s u) (p : Port) (n : Notice) : Writes g s (u.raise p n) :=
  h.port p _ fun law => { law with notices := placeNotice_sublist _ _ _ }

theorem raiseIf (h : Writes g s u) (c : Bool) (p : Port) (n : Notice) : Writes g s (u.raiseIf c p n) := by
  cases c
  · exact h
  · exact h.raise p n

theorem testAvailable (h : Writes g s u) : Writes g s u.testAvailable := h.raiseIf _ _ _

theorem testIf (h : Writes g s u) (c : Bool) : Writes g s (u.testIf c) := by
  cases c
  · exact h
  · exact h.testAvailable

theorem received (h : Writes g s u) (p : Port) : Writes g s (u.received p) :=
  h.port p _ fun law => by rw [received_eq]; exact { law with }

theorem hunt (h : Writes g s u) (p : Port) : Writes g s (u.hunt p) := h.port p _ fun law => { law with }

end

end Writes

/-- An answer keeps the law of its port: it is placed only where none stands. -/
theorem PortRecord.Law.answer {r : PortRecord} {p : Port} (law : r.Law p) (code : Nat) (reply : Reply) : (r.answer code reply).Law p := by
  unfold PortRecord.answer
  split
  · exact { law with }
  · next hnone =>
    have hzero : r.tx.countP (fun x => x.place == .answer) = 0 := by simpa [List.countP_eq_zero] using hnone
    refine { law with answers := ?_, busies := ?_ }
    · simp [List.countP_append, hzero]
    · simpa [List.countP_append] using law.busies

/-- A BUSY keeps the law of its port: it is placed only where none stands. -/
theorem PortRecord.Law.answerBusy {r : PortRecord} {p : Port} (law : r.Law p) (code : Nat) : (r.answerBusy code).Law p := by
  unfold PortRecord.answerBusy
  split
  · exact law
  · next hnone =>
    have hzero : r.tx.countP (fun x => x.place == .busy) = 0 := by simpa [List.countP_eq_zero, PortRecord.busyWaits] using hnone
    refine { law with answers := ?_, busies := ?_ }
    · simpa [List.countP_append] using law.answers
    · simp [List.countP_append, hzero]

/-- Fewer responses in a transmitter keep the law of its port. -/
theorem PortRecord.Law.sublist {r : PortRecord} {p : Port} (law : r.Law p) {tx : List Response} (h : tx.Sublist r.tx) :
    PortRecord.Law { r with tx := tx } p :=
  { law with
    answers := (h.countP_le).trans law.answers
    busies := (h.countP_le).trans law.busies }

/-- A response that leaves its transmitter keeps the law of its port. -/
theorem PortRecord.Law.sent {r : PortRecord} {p : Port} (law : r.Law p) : r.sent.Law p := by
  unfold PortRecord.sent
  split
  · exact (law.sublist (List.tail_sublist _)).answer _ _
  · exact law.sublist (List.tail_sublist _)

namespace Writes

variable {g : Scope} {s u : State}

theorem answer (h : Writes g s u) (p : Port) (code : Nat) (r : Reply) : Writes g s (u.answer p code r) :=
  h.port p _ fun law => law.answer code r

theorem answerBusy (h : Writes g s u) (p : Port) (code : Nat) : Writes g s (u.answerBusy p code) :=
  h.port p _ fun law => law.answerBusy code

theorem arbiter (h : Writes g s u) (a : Arbiter) : Writes g s { u with arbiter := a } := h.free _ _ _ _ _ a _

theorem grantPort (h : Writes g s u) (p : Port) : Writes g s (u.grantPort p) := h.arbiter _

theorem grantInternal (h : Writes g s u) (i : InternalRequest) : Writes g s (u.grantInternal i) := by
  unfold State.grantInternal
  split
  · exact h.arbiter _
  · exact h

theorem receive (h : Writes g s u) {f : Frame} {code : Nat} {permitted : Bool} {effect : State → State}
    (he : ∀ v, Writes g s v → Writes g s (effect v)) : Writes g s (u.receive f code permitted effect) :=
  State.receive_cases h ((h.hunt _).answerBusy _ _) (fun _ => (h.received _).answer _ _ _) (he _ ((h.received _).grantPort _))

theorem request (h : Writes g s u) {f : Frame} {k : RequestKind} {effect : State → State × Reply}
    (he : ∀ v, Writes g s v → Writes g s (effect v).1) : Writes g s (u.request f k effect) :=
  h.receive fun v hv => (he v hv).answer _ _ _

/-! ## Tasks, wheels and boards -/

theorem link (h : Writes g s u) (l : RobotLink) : Writes g s { u with link := l } := h.free _ _ l _ _ _ _

theorem tasks (h : Writes g s u) (l : List TaskRecord) : Writes g s { u with tasks := l } := h.free l _ _ _ _ _ _

theorem changeTask (h : Writes g s u) (n : Fin 64) (f : TaskRecord → TaskRecord) : Writes g s (u.changeTask n f) := h.tasks _

theorem markTask (h : Writes g s u) (t : TaskRecord) (b : Bool) : Writes g s (u.markTask t b) := by
  unfold State.markTask
  split
  · exact h
  · exact h.change (fun x => by unfold Wheel.mark; split <;> exact ⟨rfl, rfl⟩) fun x => x.mark_keeps _ _

theorem markAll (h : Writes g s u) (l : List TaskRecord) : Writes g s (l.foldl (fun u t => u.markTask t false) u) := by
  induction l generalizing u with
  | nil => exact h
  | cons t l ih => exact ih (h.markTask t false)

theorem withdrawWhere (h : Writes g s u) (p : TaskRecord → Bool) : Writes g s (u.withdrawWhere p) := (h.tasks _).markAll _

theorem record (h : Writes g s u) (k : DiscrepancyKind) (c : Option Coord) (w : Option Nat) (t : Option TagId) :
    Writes g s (u.record k c w t) := by
  unfold State.record
  split
  · next hroom => exact Writes.raise (h.findings _ fun _ => by simpa using hroom) _ _
  · exact h.raise _ _

theorem makeSuspect (h : Writes g s u) (c : Coord) (w : Option Nat) : Writes g s (u.makeSuspect c w) := (h.slot c _).withdrawWhere _

theorem suspectOccupied (h : Writes g s u) (c : Coord) : Writes g s (u.suspectOccupied c) := by
  unfold State.suspectOccupied
  split
  · exact h.makeSuspect _ _
  · exact h

theorem freeReserved (h : Writes g s u) (c : Coord) (r : Role) (w : Nat) : Writes g s (u.freeReserved c r w) := by
  unfold State.freeReserved
  split
  · exact h.slot _ _
  · exact h

theorem freeDestination (h : Writes g s u) (w : Nat) (i : Intent) : Writes g s (u.freeDestination w i) := by
  unfold State.freeDestination
  split
  · exact h.freeReserved _ _ _
  · exact h

theorem freeReturn (h : Writes g s u) (w : Nat) (i : Intent) : Writes g s (u.freeReturn w i) := by
  unfold State.freeReturn
  split
  · exact h.freeReserved _ _ _
  · exact h

theorem computeDues (h : Writes g s u) (w : Nat) : Writes g s (u.computeDues w) :=
  h.change (fun x => by dsimp only; split <;> exact ⟨rfl, rfl⟩) fun x => by dsimp only; split <;> exact ⟨rfl, rfl, rfl⟩

/-- A wheel comes to lie on a board of a quarantine aisle only when it was bound there or holds QUARANTINE. -/
theorem placeIn (h : Writes g s u) (w : Nat) (c : Coord)
    (hq : ∀ x, u.wheel w = some x → u.quarantined c = true → u.boundToQuarantine x = true ∨ x.hold = .quarantine) :
    Writes g s (u.placeIn w c) := by
  refine Writes.computeDues ((h.slot c _).move (fun x hx law => ?_) fun x => by dsimp only; split <;> exact ⟨rfl, rfl⟩) w
  have hlying : u.Sheltered { x with location := .inSlot c } := by
    intro hbound
    rcases State.boundToQuarantine_iff.1 hbound with ⟨d, hd, hwall⟩ | hgoes
    · cases hd
      exact (hq x hx hwall).elim law id
    · exact law (State.boundToQuarantine_iff.2 (.inr hgoes))
  dsimp only
  split
  · exact hlying
  · exact State.Sheltered.congr (s := u) hlying rfl rfl rfl

theorem setIntent (h : Writes g s u) (w : Nat) (i : Option Intent)
    (hq : ∀ x, u.wheel w = some x → u.Sheltered x → u.Sheltered { x with intent := i }) : Writes g s (u.setIntent w i) := h.move hq

theorem endIntent (h : Writes g s u) (w : Nat) (e : Ending) : Writes g s (u.endIntent w e) := by
  unfold State.endIntent
  split
  · exact h
  · exact (h.freeDestination _ _).move fun x _ law => law.part rfl rfl rfl

theorem alignTask (h : Writes g s u) (w : Nat) : Writes g s (u.alignTask w) := by
  unfold State.alignTask
  split
  · exact h
  · split
    · exact h
    · exact h.tasks _

/-! ## Entries -/

theorem makeRoomInSequence (h : Writes g s u) : Writes g s u.makeRoomInSequence := by
  unfold State.makeRoomInSequence
  split
  · exact h.free _ _ _ _ _ _ _
  · exact h

theorem enter (h : Writes g s u) {t : TaskRecord} {v : State} {n : Fin 64} (he : u.enter t = some (v, n)) : Writes g s v := by
  obtain ⟨_, _, heq⟩ := Option.map_eq_some_iff.1 he
  obtain ⟨rfl, rfl⟩ := Prod.mk.inj heq
  exact Writes.markTask (h.makeRoomInSequence.free _ _ _ _ _ _ _) _ _

theorem offerCare (h : Writes g s u) {t : TaskRecord} {v : State} (ho : u.offerCare t = some v) : Writes g s v := by
  unfold State.offerCare at ho
  split at ho
  · obtain ⟨⟨_, n⟩, he, rfl⟩ := Option.map_eq_some_iff.1 ho
    exact h.enter he
  · split at ho
    · cases ho
    · split at ho
      · obtain ⟨⟨_, n⟩, he, rfl⟩ := Option.map_eq_some_iff.1 ho
        exact Writes.enter (h.withdrawWhere _) he
      · cases ho

theorem offerNonCare (h : Writes g s u) {t : TaskRecord} {v : State} {n : Fin 64} (ho : u.offerNonCare t = some (v, n)) : Writes g s v := by
  unfold State.offerNonCare at ho
  split at ho
  · split at ho
    · exact h.enter ho
    · split at ho
      · cases ho
      · exact Writes.enter (h.withdrawWhere _) ho
  · cases ho

theorem offerMovement (h : Writes g s u) (w : Nat) : Writes g s (u.offerMovement w).1 := by
  unfold State.offerMovement
  split
  · exact h
  · split
    · exact h
    · split
      · next ho => exact (h.offerNonCare ho).testAvailable
      · exact h

theorem startMove (h : Writes g s u) (w : Nat) (i : Intent)
    (hq : ∀ x, u.wheel w = some x → u.Sheltered x → u.Sheltered { x with intent := some i }) : Writes g s (u.startMove w i).1 := by
  refine Writes.offerMovement ?_ w
  split
  · exact (h.setIntent _ _ hq).slot _ _
  · exact h.setIntent _ _ hq

end Writes

end Sys2Proof.Machine

namespace Sys2Proof.Machine

set_option Elab.async false

namespace Writes

variable {g : Scope} {s u : State}

/-! ## Zones and the Sensor Loop -/

theorem zones (h : Writes g s u) (zs : Vector Zone 8) (hz : u.HumidityLaw → ∀ z : ZoneNumber, (zs[z]).Law) :
    Writes g s { u with zones := zs } :=
  h.humidity zs u.loop fun law => ⟨hz law, law.heads, law.handed⟩

theorem changeZone (h : Writes g s u) (z : ZoneNumber) (f : Zone → Zone) (hf : (u.zone z).Law → (f (u.zone z)).Law) :
    Writes g s (u.changeZone z f) :=
  h.zones _ fun law y => by
    have heq := State.zone_changeZone u z y f
    simp only [State.zone, State.changeZone_zones] at heq
    rw [heq]
    split
    · exact hf (law.zones z)
    · exact law.zones y

theorem loop (h : Writes g s u) (l : SensorLoop) (hh : u.HumidityLaw → ∀ i : Fin 24, (l.heads[i]).Law)
    (hp : u.HumidityLaw → ∀ p ∈ l.handed, ∀ z : ZoneNumber, (p[z]).sum ≤ 1000 * (p[z]).count) : Writes g s { u with loop := l } :=
  h.humidity u.zones l fun law => ⟨law.zones, hh law, hp law⟩

theorem markZone (h : Writes g s u) (z : ZoneNumber) : Writes g s (u.markZone z) :=
  h.changeZone z _ fun law => { law with
    exclusion := by
      have hx := law.exclusion
      unfold Zone.exclusionFits at hx ⊢
      dsimp only
      split at hx <;> simp_all }

theorem markZones (h : Writes g s u) (l : List ZoneNumber) : Writes g s (l.foldl State.markZone u) := by
  induction l generalizing u with
  | nil => exact h
  | cons z l ih => exact ih (h.markZone z)

end Writes

/-- Leaving a zone keeps its record in its ranges. -/
theorem Zone.Law.leave {z : Zone} (law : z.Law) : z.leave.Law := by
  unfold Zone.leave
  split
  · refine { law with exclusion := ?_ }
    have hx := law.exclusion
    unfold Zone.exclusionFits at hx ⊢
    rcases hex : z.exclusion with _ | m | m <;> simp_all
  · exact law

namespace Writes

variable {g : Scope} {s u : State}

/-! ## How a task leaves the robot -/

theorem leaveZones (h : Writes g s u) : Writes g s u.leaveZones :=
  Writes.raiseIf (h.zones _ fun law z => by simpa [State.zone] using Zone.Law.leave (law.zones z)) _ _ _

theorem clearOut (h : Writes g s u) : Writes g s u.clearOut := (h.link _).leaveZones

theorem setCareFault (h : Writes g s u) (w : Nat) (f : CareFault) : Writes g s (u.setCareFault w f) :=
  (h.change).withdrawWhere _

theorem recordSurvey (h : Writes g s u) (t : TaskRecord) (e : Ending) : Writes g s (u.recordSurvey t e) := by
  unfold State.recordSurvey
  split
  · exact h.free _ _ _ _ _ _ _
  · exact h

theorem endEffects (h : Writes g s u) (t : TaskRecord) (e : Ending) : Writes g s (u.endEffects t e) := by
  unfold State.endEffects
  split
  · exact h
  · split
    · split
      · exact h.endIntent _ _
      · exact h
    · split
      · exact h.endIntent _ _
      · exact h
    · exact h
    · exact h
    · split
      · exact h.setCareFault _ _
      · exact h
    · exact h

theorem endTask (h : Writes g s u) (t : TaskRecord) (e : Ending) : Writes g s (u.endTask t e) :=
  (((((h.tasks _).markTask t false).clearOut.endEffects t e).recordSurvey t e).raiseIf _ _ _).raiseIf _ _ _

theorem requeue (h : Writes g s u) (t : TaskRecord) : Writes g s (u.requeue t) := (h.changeTask _ _).clearOut

theorem takeBack (h : Writes g s u) : Writes g s u.takeBack := by
  unfold State.takeBack
  split
  · exact h
  · split
    · exact h.endTask _ _
    · split
      · exact h.requeue _
      · split
        · exact h.endTask _ _
        · exact h.requeue _

theorem endIdle (h : Writes g s u) (t : TaskRecord) (e : Ending) : Writes g s (u.endIdle t e) :=
  Writes.testAvailable ((h.endTask t e).link _)

theorem finishIntent (h : Writes g s u) (w : Nat) (e : Ending) : Writes g s (u.finishIntent w e) :=
  h.move fun _ _ law => law.part rfl rfl rfl

/-- A movement completed puts its wheel where it was bound. -/
theorem completeIntent (h : Writes g s u) (w : Nat) (i : Intent) (hi : ∀ x, u.wheel w = some x → x.intent = some i) :
    Writes g s (u.completeIntent w i) := by
  have hbound : ∀ d, i.destination = .slot d → ∀ x, u.wheel w = some x → u.quarantined d = true →
      u.boundToQuarantine x = true ∨ x.hold = .quarantine := fun d hd x hx hwall =>
    .inl (State.boundToQuarantine_iff.2 (.inr ⟨i, d, hi x hx, .inl hd, hwall⟩))
  unfold State.completeIntent
  split
  · next hd => exact (h.placeIn _ _ (hbound _ hd)).finishIntent _ _
  · next hd =>
    refine ((h.freeReturn _ _).placeIn _ _ fun x hx hwall => ?_).finishIntent _ _
    have hsame : (u.freeReturn w i).wheels = u.wheels ∧ (u.freeReturn w i).config = u.config := by
      unfold State.freeReturn State.freeReserved
      split
      · split <;> exact ⟨rfl, rfl⟩
      · exact ⟨rfl, rfl⟩
    unfold State.quarantined at hwall
    rw [hsame.2] at hwall
    rw [State.wheel, hsame.1] at hx
    unfold State.boundToQuarantine State.quarantinedGoal State.quarantined
    rw [hsame.2]
    exact hbound _ hd x hx hwall
  · exact Writes.delete ((h.freeReturn _ _).finishIntent _ _) _
  · refine Writes.finishIntent (h.move ?_) _ _
    exact fun _ _ law => law.leave rfl (fun _ hc => by cases hc) fun j _ hj hc => ⟨j, hj, hc⟩
  · exact h

theorem complete (h : Writes g s u) (t : TaskRecord) : Writes g s (u.complete t) := by
  unfold State.complete
  split
  · exact h
  · split
    · exact h
    · next hi => exact h.completeIntent _ _ fun x hx => by simpa [hx] using hi

/-! ## READY and its reconciliation -/

theorem loseWheel (h : Writes g s u) (w : Nat) : Writes g s (u.loseWheel w) := by
  have hw := h.withdrawWhere fun t => t.isMovement && t.names w
  have haway : ∀ {v : State} {y : Wheel}, y.location = .unknown → y.intent = none → v.Sheltered y := fun hl hi =>
    State.sheltered_away (by simp [hl]) (by simp [hi])
  refine Writes.raise (Writes.record (Writes.move ?_ fun _ _ _ => haway rfl rfl) _ _ _ _) _ _
  split
  · exact (hw.freeDestination _ _).freeReturn _ _
  · exact hw

theorem loseWheels (h : Writes g s u) (l : List Nat) : Writes g s (l.foldl State.loseWheel u) := by
  induction l generalizing u with
  | nil => exact h
  | cons w l ih => exact ih (h.loseWheel w)

theorem findLost (h : Writes g s u) (w : Nat) : Writes g s (u.findLost w) := by
  have hw := h.withdrawWhere fun t => t.isMovement && t.names w
  refine Writes.move ?_ fun _ _ _ => State.sheltered_away (fun _ hc => by cases hc) fun i c hi => by cases hi; exact parkIntent_names c
  split
  · exact hw.freeDestination _ _
  · exact hw

/-- R135: a wheel lifted from its board is bound for no board but that one and those it was bound for. -/
theorem liftFromSlot (h : Writes g s u) (w : Nat) (c : Coord) (tag : TagId) (hc : (u.wheel w).map Wheel.location = some (.inSlot c)) :
    Writes g s (u.liftFromSlot w c tag) := by
  refine Writes.record (Writes.alignTask (((h.slot _ _).withdrawWhere _).move fun y hy law => ?_) w) _ _ _ _
  obtain ⟨x, hx, -, hlocation, -⟩ := State.wheel_withdrawWhere_keeps hy
  have hlies : y.location = .inSlot c := by
    have hx' : u.wheel w = some x := hx
    rw [hlocation]
    simpa [hx'] using hc
  refine law.narrow rfl (fun d hd => by cases hd) fun i d hi hd hwall => State.boundToQuarantine_iff.2 ?_
  cases hi
  cases hintent : y.intent with
  | none =>
    simp only [hintent, liftedIntent, Intent.Names, Destination.slot.injEq, Option.some.injEq, or_self] at hd
    exact .inl ⟨c, hlies, hd ▸ hwall⟩
  | some i =>
    simp only [hintent, liftedIntent, Intent.Names, Option.some.injEq] at hd
    rcases hd with hd | rfl
    · exact .inr ⟨i, d, rfl, .inl hd, hwall⟩
    · exact .inl ⟨c, hlies, hwall⟩

/-- R135: a wheel lifted from the infeed is bound for no board it was not bound for. -/
theorem liftFromInfeed (h : Writes g s u) (w : Nat) (tag : TagId) : Writes g s (u.liftFromInfeed w tag) := by
  refine Writes.record (Writes.alignTask (h.move ?_) w) _ _ _ _
  refine fun x _ law => law.leave rfl (fun _ hc => by cases hc) fun i c hi hc => ?_
  cases hi
  cases hintent : x.intent with
  | none => exact absurd (by simpa [hintent] using hc) (parkIntent_names c)
  | some i => exact ⟨i, rfl, by simpa [hintent, Intent.Names] using hc⟩

theorem reconcileNamed (h : Writes g s u) (w : Nat) (tag : TagId) : Writes g s (u.reconcileNamed w tag) := by
  unfold State.reconcileNamed
  split
  · exact h.liftFromSlot _ _ _ ‹_›
  · exact h.liftFromInfeed _ _
  · exact h.findLost w
  · exact h
  · exact h

theorem reconcile (h : Writes g s u) (l : Load) : Writes g s (u.reconcile l) := by
  unfold State.reconcile
  split
  · exact h.loseWheels _
  · exact (h.loseWheels _).reconcileNamed _ _
  · exact (h.loseWheels _).record _ _ _ _

theorem readyTakesBack (h : Writes g s u) : Writes g s u.readyTakesBack := by
  unfold State.readyTakesBack
  split
  · exact h.takeBack
  · exact h.link _
  · exact h.link _
  · exact h

theorem serveReady (h : Writes g s u) (known : Bool) (position : Option RawCoord) (carrying : TagReport) :
    Writes g s (serveReady known position carrying u).1 := by
  unfold Machine.serveReady
  split
  · exact h
  · split
    · exact h
    · have hr : ∀ l p, Writes g s ((u.readyTakesBack.reconcile l).setPosition p) := fun l p => (h.readyTakesBack.reconcile l).link _
      dsimp only
      split
      · exact Writes.raise ((hr _ _).link _) _ _
      · exact Writes.testIf ((hr _ _).link _) _

/-! ## TAKE and the issue of a task -/

theorem stampIssue (h : Writes g s u) (n : Fin 64) : Writes g s (u.stampIssue n) := Writes.changeTask (h.free _ _ _ _ _ _ _) _ _

theorem issueMovement (h : Writes g s u) (t : TaskRecord) : Writes g s (u.issueMovement t) := by
  unfold State.issueMovement
  split
  · exact h
  · have hm : ∀ w (b : Bool), Writes g s (if b then
        u.changeWheel w fun x => { x with intent := x.intent.map fun i => { i with status := .active } } else u) := by
      intro w b
      cases b
      · exact h
      · refine h.move fun x _ law => law.leave rfl (fun _ => id) fun i c hi hc => ?_
        obtain ⟨j, hj, rfl⟩ := Option.map_eq_some_iff.1 hi
        exact ⟨j, hj, hc⟩
    dsimp only
    split
    · exact (hm _ _).withdrawWhere _
    · exact hm _ _

theorem mergeInto (h : Writes g s u) (t : TaskRecord) (w : Nat) (k : TaskKind) : Writes g s (u.mergeInto t w k) :=
  Writes.change ((h.tasks _).changeTask _ _) (fun _ => ⟨rfl, rfl⟩) fun x => x.mark_keeps _ _

theorem merge (h : Writes g s u) (t : TaskRecord) : Writes g s (u.merge t) := by
  unfold State.merge
  split
  · exact h
  · split
    · exact h
    · split
      · exact h.mergeInto _ _ _
      · split
        · exact h.mergeInto _ _ _
        · exact h

theorem issue (h : Writes g s u) (t : TaskRecord) : Writes g s (u.issue t) :=
  Writes.link (Writes.link (((((h.stampIssue _).changeTask _ _).markZones _).issueMovement t).merge t) _) _

theorem dispatchTake (h : Writes g s u) : Writes g s u.dispatchTake.1 := by
  have hc : Writes g s u.checkList := h.withdrawWhere _
  unfold State.dispatchTake
  split
  · exact h
  · dsimp only
    split
    · exact hc
    · exact hc.raise _ _
    · exact hc.issue _

theorem serveTake (h : Writes g s u) : Writes g s (serveTake u).1 := by
  unfold Machine.serveTake
  split
  · exact h.dispatchTake
  · split <;> exact h
  · exact h.link _
  · exact h.link _
  all_goals exact h

theorem serveHomed (h : Writes g s u) : Writes g s (serveHomed u).1 := by
  have hhome : ∀ p, Writes g s (u.setPosition p) := fun p => h.link _
  unfold Machine.serveHomed
  dsimp only
  split
  · exact Writes.testAvailable (Writes.link (Writes.link (hhome _) _) _)
  · exact Writes.testAvailable (Writes.link (Writes.link (hhome _) _) _)
  · exact hhome _
  all_goals exact h

/-! ## Reports -/

theorem setPosition (h : Writes g s u) (p : Option Coord) : Writes g s (u.setPosition p) := h.link _

theorem setDeadline (h : Writes g s u) (k : TaskKind) : Writes g s (u.setDeadline k) := h.link _

theorem verifyFailed (h : Writes g s u) (t : TaskRecord) (r : FailReason) (tag : Option TagId) : Writes g s (u.verifyFailed t r tag).1 := by
  refine Writes.endIdle ?_ _ _
  split
  · exact (h.suspectOccupied _).record _ _ _ _
  · exact h.record _ _ _ _

theorem verified (h : Writes g s u) (t : TaskRecord) : Writes g s (u.verified t).1 := by
  unfold State.verified
  dsimp only
  split
  · exact Writes.change (h.link _)
  · exact h.link _

theorem verify (h : Writes g s u) (t : TaskRecord) (tag : TagReport) : Writes g s (u.verify t tag).1 := by
  unfold State.verify
  split
  · split
    · exact h.verified t
    · exact h.verifyFailed _ _ _
  · split
    · exact h.changeTask _ _
    · exact h.verifyFailed _ _ _

theorem serveArrived (h : Writes g s u) (r : TaskRef) (tag : TagReport) : Writes g s (serveArrived r tag u).1 := by
  refine State.onReport_cases h fun t _ => ?_
  split
  · exact (h.setPosition _).endIdle _ _
  · split
    · exact ((h.setPosition _).setDeadline _).verify _ _
    · exact h

/-- R110: a wheel picked up from the board it lies on is bound for no board but that one and those it was bound for. -/
theorem pick (h : Writes g s u) (t : TaskRecord) (w : Nat)
    (hlies : s.SourcesLie → ∀ x c, u.wheel w = some x → t.source = some c → x.location = .inSlot c) : Writes g s (u.pick t w) := by
  have hgoes : ∀ {v : State}, Writes g s v → v.wheel w = u.wheel w → Writes g s (v.changeWheel w fun x =>
      { x with location := .inGripper, intent := x.intent.map fun i => { i with phase := .carried, returnSlot := t.source } }) := by
    intro v hv hw
    refine hv.wheel w _ (fun _ => ⟨rfl, rfl⟩) fun hs x hx law => law.narrow rfl (fun d hd => by cases hd) fun i d hi hd hwall => ?_
    obtain ⟨j, hj, rfl⟩ := Option.map_eq_some_iff.1 hi
    rcases hd with hd | hd
    · exact State.boundToQuarantine_iff.2 (.inr ⟨j, d, hj, .inl hd, hwall⟩)
    · exact State.boundToQuarantine_iff.2 (.inl ⟨d, hlies hs x d (hw ▸ hx) hd, hwall⟩)
  refine Writes.setDeadline (Writes.changeTask ?_ _ _) _
  split
  · exact hgoes (h.slot _ _) rfl
  · exact hgoes h rfl

theorem servePicked (h : Writes g s u) (r : TaskRef) (hs : s.SourcesLie → u.SourcesLie) : Writes g s (servePicked r u).1 := by
  refine State.onReport_cases h fun t ht => ?_
  split
  · exact h.endIdle _ _
  · split
    · next hcond =>
      split
      · next w hw =>
        simp only [Bool.and_eq_true] at hcond
        obtain ⟨⟨hmove, hverifiable⟩, -⟩ := hcond
        exact h.pick _ _ fun law x c hx hc => hs law t (State.judge_current ht).1 w c x hmove hverifiable hw hc hx
      · exact h
    · exact h

theorem seen (h : Writes g s u) (w : Nat) : Writes g s (u.seen w) := h.change

theorem compare (h : Writes g s u) (c : Coord) (f : TagFinding) : Writes g s (u.compare c f).1 := by
  unfold State.compare
  split
  · split
    · exact h.seen _
    · exact (h.makeSuspect _ _).record _ _ _ _
  · exact (h.makeSuspect _ _).record _ _ _ _
  · exact (h.makeSuspect _ _).record _ _ _ _
  · exact h.record _ _ _ _
  · exact h
  · split
    · exact Writes.seen (h.slot _ _) _
    · exact h.record _ _ _ _
  · exact h.record _ _ _ _
  · exact h.slot _ _
  · exact h.record _ _ _ _
  · exact h.record _ _ _ _
  · exact h
  · exact h

theorem serveSlotRead (h : Writes g s u) (r : TaskRef) (n : Nat) (tag : TagReport) : Writes g s (serveSlotRead r n tag u).1 := by
  refine State.onReport_cases h fun t _ => ?_
  split
  · exact (h.setPosition _).endIdle _ _
  · split
    · split
      · split
        · exact Writes.changeTask ((Writes.setPosition (h.compare _ _) _).setDeadline _) _ _
        · exact h
      · exact h
    · exact h

theorem credit (h : Writes g s u) (t : TaskRecord) (a b : Bool) : Writes g s (u.credit t a b) := by
  unfold State.credit
  split
  · exact h
  · next w _ =>
    have hflip : Writes g s (if t.creditsFlip a then u.changeWheel w fun x => x.creditFlip u.clock.minute else u) := by
      split
      · exact h.change
      · exact h
    have hbrush : ∀ {v : State}, Writes g s v →
        Writes g s (if t.creditsBrush b then v.changeWheel w fun x => x.creditBrush u.clock.minute else v) := by
      intro v hv
      split
      · exact hv.change
      · exact hv
    dsimp only
    split
    · exact (hbrush hflip).computeDues _
    · exact hbrush hflip

theorem serveDone (h : Writes g s u) (r : TaskRef) (a b : Bool) : Writes g s (serveDone r a b u).1 := by
  refine State.onReport_cases h fun t _ => ?_
  split
  · refine Writes.testAvailable (Writes.link (Writes.setPosition (Writes.endTask ?_ _ _) _) _)
    split
    · exact h.complete t
    · split
      · exact h.credit _ _ _
      · exact h
  · split
    · exact h.endIdle _ _
    · exact h

/-! ## Faults and expiries -/

end Writes

/-- R131, R132: the intent after a blocked drop names a board of the intent before it, or none. -/
theorem Intent.names_of_retarget {i : Intent} {d c : Coord} (h : (retargetIntent i d).Names c) : i.Names c := by
  unfold retargetIntent at h
  split at h
  · next r _ hr =>
    split at h
    · simp [Intent.Names, parkIntent] at h
    · rcases h with h | h
      · cases h
        exact .inr hr
      · exact .inr h
  · simp [Intent.Names, parkIntent] at h

namespace Writes

variable {g : Scope} {s u : State}

theorem robotFault (h : Writes g s u) (k : FaultKind) : Writes g s (u.robotFault k).1 := by
  refine Writes.raiseIf (Writes.link ?_ _) _ _ _
  split
  · exact h.takeBack
  · exact h

theorem blockedVisit (h : Writes g s u) (t : TaskRecord) (c : Coord) : Writes g s (u.blockedVisit t c).1 := by
  have hn : ∀ a, Writes g s (((u.setPosition (some c)).suspectOccupied c).record .blocked (some c) a none) :=
    fun a => ((h.setPosition _).suspectOccupied _).record _ _ _ _
  unfold State.blockedVisit
  dsimp only
  split
  · exact (hn _).endIdle _ _
  · exact (hn _).endIdle _ _

/-- R131, R132: a blocked drop binds its wheel for no board it was not bound for. -/
theorem blockedDrop (h : Writes g s u) (t : TaskRecord) (w : Nat) (i : Intent) (d : Coord) (hi : (u.wheel w).bind Wheel.intent = some i) :
    Writes g s (u.blockedDrop t w i d).1 := by
  refine Writes.setDeadline (Writes.stampIssue ((Writes.setIntent (Writes.link
    (((h.setPosition _).makeSuspect _ _).record _ _ _ _) _) _ _ fun y hy law => ?_).alignTask _) _) _
  have hrecord : ((u.setPosition (some d)).makeSuspect d none).wheel w = some y := by
    unfold State.record at hy
    split at hy <;> exact hy
  obtain ⟨x, hx, -, -, hintent⟩ := State.wheel_withdrawWhere_keeps hrecord
  have hx' : u.wheel w = some x := hx
  refine law.leave rfl (fun _ => id) fun j c hj hc => ⟨i, by rw [hintent]; simpa [hx'] using hi, ?_⟩
  cases hj
  exact Intent.names_of_retarget hc

theorem takeFault (h : Writes g s u) (k : FaultKind) : Writes g s (u.takeFault k).1 := by
  unfold State.takeFault
  split
  · split
    · split
      · split
        · next hw hi => exact h.blockedDrop _ _ _ _ (by simpa [hw] using hi)
        · exact h.robotFault _
      · exact h.blockedVisit _ _
    · exact h.robotFault _
  · exact h.robotFault _

theorem serveFault (h : Writes g s u) (form : BodyForm) (k : FaultKind) (r : Option TaskRef) : Writes g s (serveFault form k r u).1 := by
  unfold Machine.serveFault
  split
  · refine State.onReport_cases h fun t _ => ?_
    split
    · exact h
    · exact h.takeFault k
  · split
    · exact h
    · split
      · exact h
      · exact h
      · exact h
      · exact h.takeFault k

theorem expireTask (h : Writes g s u) : Writes g s u.expireTask := by
  have hg := h.grantInternal .taskDeadline
  unfold State.expireTask
  dsimp only
  split
  · exact Writes.raise (Writes.setPosition (hg.takeBack.link _) _) _ _
  · exact hg

theorem expireHome (h : Writes g s u) : Writes g s u.expireHome := by
  have hg := h.grantInternal .homeDeadline
  unfold State.expireHome
  dsimp only
  split
  · exact Writes.raise (hg.link _) _ _
  · exact hg

/-! ## Boards, records and movements -/

theorem confirm (h : Writes g s u) (c : Coord) : Writes g s (u.confirm c).1 := by
  unfold State.confirm
  split
  · exact h.slot _ _
  · exact h

theorem releaseWheel (h : Writes g s u) (w : Nat) : Writes g s (u.releaseWheel w) := by
  have hw : Writes g s (u.changeWheel w fun x => { x with location := .unknown }) :=
    h.move fun _ _ law => law.leave rfl (fun _ hc => by cases hc) fun i _ hi hc => ⟨i, hi, hc⟩
  unfold State.releaseWheel
  dsimp only
  split
  · split
    · exact hw.endIntent _ _
    · exact hw
  · exact hw

theorem clearSlot (h : Writes g s u) (c : Coord) : Writes g s (u.clearSlot c).1 := by
  unfold State.clearSlot
  split
  · exact Writes.releaseWheel (h.slot _ _) _
  · exact h.slot _ _
  · exact h

theorem vacate (h : Writes g s u) (w : Nat) (x : Wheel) : Writes g s (u.vacate w x) := by
  unfold State.vacate
  split
  · exact Writes.slot (h.withdrawWhere _) _ _
  · exact h

end Writes

/-! What vacating a board and releasing a wheel leave of the holds -/

theorem State.hold_changeWheel {u : State} {v w : Nat} {f : Wheel → Wheel} {y : Wheel} (hf : ∀ x, (f x).hold = x.hold)
    (h : (u.changeWheel w f).wheel v = some y) : ∃ x, u.wheel v = some x ∧ y.hold = x.hold := by
  rw [State.wheel_changeWheel] at h
  split at h
  · obtain ⟨x, hx, rfl⟩ := Option.map_eq_some_iff.1 h
    exact ⟨x, hx, hf x⟩
  · exact ⟨y, h, rfl⟩

theorem State.hold_vacate {u : State} {v w : Nat} {x y : Wheel} (h : (u.vacate w x).wheel v = some y) :
    ∃ z, u.wheel v = some z ∧ y.hold = z.hold := by
  unfold State.vacate at h
  split at h
  · obtain ⟨z, hz, hhold, -⟩ := State.wheel_withdrawWhere_keeps h
    exact ⟨z, hz, hhold⟩
  · exact ⟨y, h, rfl⟩

theorem State.config_vacate (u : State) (w : Nat) (x : Wheel) : (u.vacate w x).config = u.config := by
  unfold State.vacate
  split
  · exact State.withdrawWhere_config ..
  · rfl

theorem State.config_releaseWheel (u : State) (w : Nat) : (u.releaseWheel w).config = u.config := by
  unfold State.releaseWheel
  dsimp only
  split
  · split
    · rw [State.endIntent_config, State.changeWheel_config]
    · rfl
  · rfl

theorem State.hold_endIntent {u : State} {v w : Nat} {e : Ending} {y : Wheel} (h : (u.endIntent w e).wheel v = some y) :
    ∃ z, u.wheel v = some z ∧ y.hold = z.hold := by
  unfold State.endIntent at h
  split at h
  · exact ⟨y, h, rfl⟩
  · obtain ⟨z, hz, hhold⟩ := State.hold_changeWheel (by exact fun _ => rfl) h
    refine ⟨z, ?_, hhold⟩
    unfold State.freeDestination State.freeReserved at hz
    split at hz
    · split at hz <;> exact hz
    · exact hz

theorem State.hold_releaseWheel {u : State} {v w : Nat} {y : Wheel} (h : (u.releaseWheel w).wheel v = some y) :
    ∃ z, u.wheel v = some z ∧ y.hold = z.hold := by
  have haway : ∀ {z : Wheel}, (u.changeWheel w fun x => { x with location := .unknown }).wheel v = some z →
      ∃ z', u.wheel v = some z' ∧ z.hold = z'.hold := State.hold_changeWheel fun _ => rfl
  unfold State.releaseWheel at h
  dsimp only at h
  split at h
  · split at h
    · obtain ⟨z, hz, hhold⟩ := State.hold_endIntent h
      obtain ⟨z', hz', hhold'⟩ := haway hz
      exact ⟨z', hz', hhold.trans hhold'⟩
    · exact haway h
  · exact haway h

namespace Writes

variable {g : Scope} {s u : State}

/-- R150: ASSIGN puts a wheel on a board of a quarantine aisle only under its QUARANTINE hold. -/
theorem assignTo (h : Writes g s u) (c : Coord) (w : Nat) (x : Wheel) (hx : u.wheel w = some x)
    (hq : u.quarantined c = true → x.hold = .quarantine) : Writes g s (u.assignTo c w x).1 := by
  have hplace : ∀ {v : State}, Writes g s v → v.config = u.config →
      (∀ y, v.wheel w = some y → ∃ z, (u.vacate w x).wheel w = some z ∧ y.hold = z.hold) → Writes g s (v.placeIn w c) := by
    refine fun {v} hv hconfig hholds => hv.placeIn w c fun y hy hwall => .inr ?_
    obtain ⟨z, hz, hhold⟩ := hholds y hy
    obtain ⟨z', hz', hhold'⟩ := State.hold_vacate hz
    cases hx.symm.trans hz'
    unfold State.quarantined at hwall hq
    rw [hconfig] at hwall
    rw [hhold, hhold', hq hwall]
  unfold State.assignTo
  split
  · exact h.slot _ _
  · dsimp only
    split
    · exact hplace ((h.vacate w x).releaseWheel _) ((State.config_releaseWheel _ _).trans (State.config_vacate ..))
        fun _ => State.hold_releaseWheel
    · exact hplace (h.vacate w x) (State.config_vacate ..) fun y hy => ⟨y, hy, rfl⟩

theorem assign (h : Writes g s u) (c : Coord) (tag : TagId) : Writes g s (u.assign c tag).1 := by
  unfold State.assign
  split
  · exact h
  · split
    · exact h
    · split
      · exact h
      · next hx =>
        split
        · exact h
        · split
          · exact h
          · next hq => exact h.assignTo _ _ _ hx (by simpa using hq)

/-- R151: PLACE_AT puts a wheel on a board of a quarantine aisle only under its QUARANTINE hold. -/
theorem placeAt (h : Writes g s u) (c : Coord) (w : Nat) (x : Wheel) (hx : u.wheel w = some x) : Writes g s (u.placeAt c w x).1 := by
  unfold State.placeAt
  split
  · exact h
  · split
    · exact h
    · split
      · exact h
      · next hq =>
        refine h.placeIn _ _ fun y hy hwall => .inr ?_
        cases hx.symm.trans hy
        simpa [hwall] using hq

/-- R125: RELOCATE binds a wheel for a quarantine aisle only under its QUARANTINE hold. -/
theorem relocate (h : Writes g s u) (w : Nat) (d : Coord) : Writes g s (u.relocate w d).1 := by
  unfold State.relocate
  split
  · exact h
  · next hx =>
    split
    · exact h
    · split
      · exact h
      · split
        · exact h
        · next hq =>
          refine h.startMove _ _ fun y hy law hbound => ?_
          cases hx.symm.trans hy
          rcases State.boundToQuarantine_iff.1 hbound with hlies | ⟨i, c, hi, hc, hwall⟩
          · exact law (State.boundToQuarantine_iff.2 (.inl hlies))
          · cases hi
            obtain rfl : d = c := by simpa [Intent.Names, newIntent] using hc
            simpa [hwall] using hq

theorem serveRelocate (h : Writes g s u) (sl sp dl dp : Nat) : Writes g s (serveRelocate sl sp dl dp u).1 := by
  unfold Machine.serveRelocate
  split
  · split
    · exact h.relocate _ _
    · exact h
  · exact h

theorem bookOutInfeed (h : Writes g s u) (w : Nat) : Writes g s (u.bookOutInfeed w) := by
  refine Writes.delete ?_ w
  split
  · exact Writes.freeDestination (h.withdrawWhere _) _ _
  · exact h.withdrawWhere _

theorem serveBookOut (h : Writes g s u) (w : Nat) : Writes g s (serveBookOut w u).1 := by
  refine State.onWheel_cases h fun x _ _ => ?_
  split
  · split
    · exact h.bookOutInfeed w
    · exact h
  · split
    · exact h.startMove _ _ fun y _ law => law.narrow rfl (fun c hc hwall => State.boundToQuarantine_iff.2 (.inl ⟨c, hc, hwall⟩))
        fun i c hi hc => by cases hi; simp [Intent.Names, newIntent] at hc
    · exact h
  · exact h

theorem requestAbort (h : Writes g s u) (n : Fin 64) : Writes g s (u.requestAbort n) := Writes.raise (h.changeTask _ _) _ _

theorem serveCancelMove (h : Writes g s u) (w : Nat) : Writes g s (serveCancelMove w u).1 := by
  refine State.onWheel_cases h fun x _ _ => ?_
  split
  · exact h
  · split
    · exact h
    · split
      · split
        · exact h
        · exact h.requestAbort _
      · exact Writes.endIntent (h.withdrawWhere _) _ _

theorem abortQueued (h : Writes g s u) (t : TaskRecord) : Writes g s (u.abortQueued t) := by
  have hw : Writes g s (u.withdraw t.number) := h.withdrawWhere _
  unfold State.abortQueued
  dsimp only
  split
  · split
    · exact hw.endIntent _ _
    · exact hw
  · exact hw

theorem serveAbortTask (h : Writes g s u) (n : Nat) : Writes g s (serveAbortTask n u).1 := by
  unfold Machine.serveAbortTask
  split
  · split
    · exact h
    · split
      · exact h
      · split
        · exact h
        · split
          · exact h.abortQueued _
          · exact h.requestAbort _
  · exact h

/-- R32: HOLD takes the QUARANTINE hold from no wheel in or bound for a quarantine aisle. -/
theorem setHold (h : Writes g s u) (w : Nat) (k : Hold)
    (hq : ∀ x, u.wheel w = some x → u.Sheltered x → u.Sheltered { x with hold := k }) :
    Writes g s (u.setHold w k) := h.move hq

theorem serveHold (h : Writes g s u) (form : BodyForm) (w : Nat) (k : Hold) : Writes g s (serveHold form w k u).1 := by
  refine State.onWheel_cases h fun x _ hx => ?_
  split
  · exact h
  · split
    · exact h
    · split
      · exact h
      · next hfree =>
        refine Writes.withdrawWhere (h.setHold _ _ fun y hy law hbound => ?_) _
        cases hx.symm.trans hy
        exact absurd ⟨law hbound, hbound⟩ hfree
    · exact Writes.withdrawWhere (h.setHold _ _ fun _ _ _ _ => rfl) _

/-- R33: RELEASE takes the hold from no wheel in or bound for a quarantine aisle. -/
theorem serveRelease (h : Writes g s u) (w : Nat) : Writes g s (serveRelease w u).1 := by
  refine State.onWheel_cases h fun x _ hx => ?_
  split
  · exact h
  · next hfree =>
    refine h.setHold _ _ fun y hy _ hbound => ?_
    cases hx.symm.trans hy
    exact absurd hbound hfree

theorem serveRequestSurvey (h : Writes g s u) (l a b : Nat) : Writes g s (serveRequestSurvey l a b u).1 := by
  unfold Machine.serveRequestSurvey
  split
  · split
    · unfold State.enterSurvey
      split
      · next ho => exact (h.offerNonCare ho).testAvailable
      · exact h
    · exact h
  · exact h

/-! ## The sweep -/

theorem offerCandidate (h : Writes g s u) (t : TaskRecord) : Writes g s (u.offerCandidate t).1 := by
  unfold State.offerCandidate
  split
  · next ho => exact h.offerCare ho
  · exact h.raise _ _

theorem visitMovement (h : Writes g s u) (w : Nat) (x : Wheel) : Writes g s (u.visitMovement w x).1 := by
  unfold State.visitMovement
  split
  · exact h
  · split
    · split
      · next ho => exact h.offerNonCare ho
      · exact h
    · exact h

theorem visitFlip (h : Writes g s u) (w : Nat) (x : Wheel) : Writes g s (u.visitFlip w x).1 := by
  unfold State.visitFlip
  split
  · split
    · exact h.offerCandidate _
    · exact h
  · exact h

theorem visitBrush (h : Writes g s u) (w : Nat) (x : Wheel) : Writes g s (u.visitBrush w x).1 := by
  unfold State.visitBrush
  split
  · split
    · exact h.offerCandidate _
    · exact h
  · exact h

theorem visit (h : Writes g s u) (w : Nat) : Writes g s (u.visit w) := by
  unfold State.visit
  dsimp only
  split
  · exact h.computeDues w
  · exact ((((h.computeDues w).visitMovement w _).visitFlip w _).visitBrush w _).testIf _

theorem sweepVisit (h : Writes g s u) : Writes g s u.sweepVisit := by
  have hg : Writes g s u.grantSweep := h.arbiter _
  unfold State.sweepVisit
  split
  · dsimp only
    split
    · exact Writes.free (hg.visit _) _ _ _ _ _ _ _
    · exact hg.free _ _ _ _ _ _ _
  · exact h

end Writes

end Sys2Proof.Machine

namespace Sys2Proof.Machine

set_option Elab.async false

/-! ## The arithmetic of humidity -/

/-- Division toward zero by a positive number brings a value toward 0, and not past it. -/
theorem tdiv_between (d : Int) {p : Int} (hp : 0 < p) :
    (0 ≤ d → 0 ≤ Int.tdiv d p ∧ Int.tdiv d p ≤ d) ∧ (d ≤ 0 → d ≤ Int.tdiv d p ∧ Int.tdiv d p ≤ 0) := by
  have habs : (Int.tdiv d p).natAbs ≤ d.natAbs := by
    rw [Int.natAbs_tdiv]
    exact Nat.div_le_self _ _
  constructor
  · intro hd
    have hsign : 0 ≤ Int.tdiv d p := Int.tdiv_nonneg hd hp.le
    omega
  · intro hd
    have hsign : Int.tdiv d p ≤ 0 := by
      have hneg := Int.tdiv_nonneg (show 0 ≤ -d by omega) hp.le
      rw [Int.neg_tdiv] at hneg
      omega
    omega

/-- R163: the filter leaves the filtered humidity between its previous value and the raw mean. -/
theorem filterStep_between (h raw shift : Nat) : min h raw ≤ filterStep h raw shift ∧ filterStep h raw shift ≤ max h raw := by
  have hpow : (0 : Int) < 2 ^ shift := by positivity
  obtain ⟨hup, hdown⟩ := tdiv_between ((raw : Int) - h) hpow
  unfold filterStep
  omega

/-- R160: a mean of readings of at most 1000 is at most 1000. -/
theorem rawMean_le {r : ZoneReadings} (hpos : r.count ≠ 0) (hsum : r.sum ≤ 1000 * r.count) : rawMean r ≤ 1000 := by
  unfold rawMean
  have hlt : (r.sum + r.count / 2) / r.count < 1001 := by
    rw [Nat.div_lt_iff_lt_mul (by omega)]
    omega
  omega

theorem alarmStep_dwell (l : ZoneLimits) (a : AlarmState) {dwell : Nat} (hf : Nat) (h : dwell ≤ 30) : (alarmStep l a dwell hf).2 ≤ 30 := by
  have hup : dwellUp dwell ≤ 30 := min_le_left _ _
  unfold alarmStep
  split <;> split_ifs <;> simp [h, hup]

theorem ringPush_length {ring : List Sample} (x : Sample) (h : ring.length ≤ Config.ringRoom) :
    (ringPush ring x).length ≤ Config.ringRoom := by
  have hroom : Config.ringRoom = 32 := rfl
  unfold ringPush
  split <;> simp only [List.length_append, List.length_tail, List.length_singleton] <;> omega

theorem Zone.Law.setAlarm {z : Zone} (law : z.Law) {a : AlarmState × Nat} (ha : a.2 ≤ 30) : (z.setAlarm a).Law :=
  { law with dwell := ha }

theorem Zone.Law.append {z : Zone} (law : z.Law) (x : Sample) : (z.append x).Law := by
  unfold Zone.append
  split
  · exact law
  · exact { law with ring := ringPush_length x law.ring }

theorem Zone.filter_le {z : Zone} (law : z.Law) {raw : Nat} (hraw : raw ≤ 1000) (shift : Nat) : z.filter raw shift ≤ 1000 := by
  have hstep : ∀ h, z.filtered = some h → filterStep h raw shift ≤ 1000 := fun h hh => by
    have := law.filtered h hh
    have := (filterStep_between h raw shift).2
    omega
  unfold Zone.filter
  split
  · exact hstep _ ‹_›
  · exact hstep _ ‹_›
  · exact hraw

/-- R163, R164: the end-of-pass update keeps a zone record in its ranges, when the pass was made of readings of at most 1000. -/
theorem Zone.Law.update {z : Zone} (law : z.Law) (l : ZoneLimits) (now : Nat) {r : ZoneReadings} (hr : r.sum ≤ 1000 * r.count) :
    (z.update l now r).Law := by
  unfold Zone.update
  split
  · have hquiet : Zone.Law { z with humidity := z.quietState l.hold } := { law with }
    unfold Zone.quietUpdate
    dsimp only
    split
    · exact hquiet.setAlarm (by simp)
    · exact hquiet
  · next hcount =>
    have hraw := rawMean_le hcount hr
    have hlive : Zone.Law { z with humidity := .live, raw := some (rawMean r), filtered := some (z.filter (rawMean r) l.shift), holdCount := 0 } :=
      { law with
        raw := by rintro _ ⟨⟩; exact hraw
        filtered := by rintro _ ⟨⟩; exact Zone.filter_le law hraw _
        hold := Nat.zero_le _ }
    exact (hlive.setAlarm (alarmStep_dwell _ _ _ law.dwell)).append _

theorem Zone.Law.tick {z : Zone} (law : z.Law) : z.tick.Law := by
  refine { law with hold := by simp [Zone.tick], exclusion := ?_ }
  have hx := law.exclusion
  unfold Zone.exclusionFits Zone.tick at *
  rcases hex : z.exclusion with _ | m | m <;> simp_all
  omega

/-- R177: what an exclusion request makes of a zone's exclusion is in its ranges. -/
theorem Zone.Law.requestExclusion {z : Zone} (law : z.Law) (minutes : Nat) :
    Zone.Law { z with exclusion := (z.requestExclusion (max 1 (min 240 minutes))).1 } := by
  refine { law with exclusion := ?_ }
  have hx := law.exclusion
  unfold Zone.exclusionFits Zone.requestExclusion at *
  rcases hex : z.exclusion with _ | m | m <;> simp only [hex] at hx ⊢
  · cases z.presence <;> simp
  · simp [hx.2.2]
  · omega

theorem Head.Law.after {x : Head} (law : x.Law) {o : HeadOutcome} (ho : ∀ r, o = .ok r → r ≤ 1000) : (x.after o).Law := by
  cases o with
  | miss => exact { law with misses := by simp [Head.after] }
  | warming => exact { law with misses := by simp [Head.after] }
  | fault => exact { law with misses := by simp [Head.after] }
  | ok r =>
    refine ⟨by simp [Head.after], fun v hv => ?_⟩
    simp only [Head.after] at hv
    split at hv
    · cases hv; exact ho _ rfl
    · exact law.reading v hv

theorem judgeWindow_ok {h : Fin 24} {b : Option (Vector Byte 5)} {r : Nat} (hok : judgeWindow h b = .ok r) : r ≤ 1000 := by
  unfold judgeWindow at hok
  split at hok
  · unfold judgeReply at hok
    split at hok
    · split at hok
      · cases hok; omega
      · split at hok
        · cases hok
        · split at hok <;> cases hok
    · cases hok
  · cases hok

theorem foldl_add_le (l : List Nat) (n : Nat) (h : ∀ x ∈ l, x ≤ 1000) : l.foldl (· + ·) n ≤ n + 1000 * l.length := by
  induction l generalizing n with
  | nil => simp
  | cons a l ih =>
    have hrest := ih (n + a) fun x hx => h x (List.mem_cons_of_mem _ hx)
    have ha := h a (List.mem_cons_self ..)
    simp only [List.foldl_cons, List.length_cons]
    omega

/-- R160: what a pass hands on is made of readings of at most 1000. -/
theorem State.HumidityLaw.zoneReadings {u : State} (law : u.HumidityLaw) (z : ZoneNumber) :
    (u.zoneReadings z).sum ≤ 1000 * (u.zoneReadings z).count := by
  have hreadings : ∀ x ∈ (List.finRange 24).filterMap fun h =>
      if u.config.sensor.assignment[h] = some z then (u.loop.heads[h]).reading else none, x ≤ 1000 := by
    intro x hx
    obtain ⟨h, -, hh⟩ := List.mem_filterMap.1 hx
    split at hh
    · exact (law.heads h).reading x hh
    · cases hh
  simpa [State.zoneReadings] using foldl_add_le _ 0 hreadings

/-! ## Sections as they are judged -/

/-- A test of every entry of a vector. -/
theorem vector_all_iff {α : Type} {n : Nat} (v : Vector α n) (p : α → Bool) : v.toList.all p = true ↔ ∀ i : Fin n, p v[i] = true := by
  simp only [List.all_eq_true, Vector.mem_toList_iff, Vector.mem_iff_getElem]
  exact ⟨fun h i => h _ ⟨i, i.2, rfl⟩, by rintro h _ ⟨i, hi, rfl⟩; exact h ⟨i, hi⟩⟩

/-- R37, R38: the ranges of a CARE_CLASS section. -/
theorem RawClass.fits_iff (c : RawClass) : RawClass.fits c = true ↔
    (700 ≤ c.setpoint ∧ c.setpoint ≤ 990) ∧ (1 ≤ c.d1 ∧ c.d1 < c.d2 ∧ c.d2 < c.d3 ∧ c.d3 ≤ 999) ∧
      (∀ b : Fin 4, 30 ≤ c.flipBase[b] ∧ c.flipBase[b] ≤ 43200) ∧
      (∀ b : Fin 4, c.brushBase[b] = 0 ∨ (30 ≤ c.brushBase[b] ∧ c.brushBase[b] ≤ 43200)) ∧
      c.kf ≤ 100 ∧ c.kb ≤ 100 ∧ (1 ≤ c.weight ∧ c.weight ≤ 255) ∧ c.merge ≤ 240 := by
  simp only [RawClass.fits, Bool.and_eq_true, decide_eq_true_eq, vector_all_iff, flipBaseFits, brushBaseFits, Bool.or_eq_true, beq_iff_eq]
  tauto

theorem CareClass.Fits.of_raw {c : RawClass} (h : RawClass.fits c = true) : (RawClass.record c).Fits := by
  obtain ⟨hset, hdays, hflip, hbrush, hkf, hkb, hweight, hmerge⟩ := (RawClass.fits_iff c).1 h
  exact ⟨hset, hdays, hflip, hbrush, hkf, hkb, hweight.1, hweight.2, hmerge⟩

/-- R1: the ranges of a GEOMETRY section. -/
theorem judgeGeometry_eq (a l n : Nat) (q : Vector Bool 16) : judgeGeometry a l n q =
    if 1 ≤ a ∧ a ≤ 16 ∧ 1 ≤ l ∧ l ≤ 12 ∧ 1 ≤ n ∧ n ≤ 48 ∧ ∀ i : Fin 16, q[i] = true → i.val < a then some ⟨a, l, n, q⟩ else none := by
  have hall : (List.finRange 16).all (fun i => !q[i] || decide (i.val < a)) = true ↔ ∀ i : Fin 16, q[i] = true → i.val < a := by
    simp [List.all_eq_true, or_iff_not_imp_left]
  simp only [judgeGeometry, hall]

/-- R5, R117, R187: the ranges of a ROBOT section. -/
theorem judgeRobot_some {r : RawRobot} {x : RobotSection} (h : judgeRobot r = some x) :
    (∀ k : Fin 8, 1 ≤ x.allowances[k] ∧ x.allowances[k] ≤ 60) ∧ x.ca ≤ 255 ∧ x.cl ≤ 63 ∧ x.boost ≤ 4095 := by
  unfold judgeRobot at h
  split at h
  · split at h
    · next hr =>
      cases h
      simpa [vector_all_iff, Fin.forall_iff] using hr
    · cases h
  · cases h

/-- R156: the range of the loop period. -/
theorem judgeSensor_period {period : Nat} {heads : Vector (Option Nat) 24} {x : SensorSection} (h : judgeSensor period heads = some x) :
    10 ≤ x.period ∧ x.period ≤ 600 := by
  unfold judgeSensor at h
  split at h
  · next hr => cases h; exact ⟨hr.1, hr.2.1⟩
  · cases h

/-- R167: limits that are taken stand in their ranges. -/
theorem judgeLimits_fits {l : RawLimits} {x : ZoneLimits} (h : judgeLimits l = some x) : x.Fits := by
  unfold judgeLimits at h
  dsimp only at h
  split at h
  · cases h
  · split at h
    · cases h
    · next hrange hband =>
      cases h
      constructor <;> dsimp only <;> omega

end Sys2Proof.Machine

namespace Sys2Proof.Machine

set_option Elab.async false

/-- The lowest free handle is free: in a canonical table no key equals it. -/
theorem Table.find_lowestFree {α : Type} {t : Table α} (hcanonical : t.canonical = true) (k : Nat) : t.find (t.lowestFree k) = none := by
  rw [Table.canonical_iff] at hcanonical
  -- The number looked for lies at or above `k`, and the keys passed over lie below it.
  suffices hfree : k ≤ t.lowestFree k ∧ t.find (t.lowestFree k) = none from hfree.2
  induction t generalizing k with
  | nil => exact ⟨le_rfl, rfl⟩
  | cons e t ih =>
    obtain ⟨j, v⟩ := e
    simp only [List.map_cons, List.pairwise_cons] at hcanonical
    obtain ⟨habove, hrest⟩ := hcanonical
    unfold Table.lowestFree
    split
    · obtain ⟨hle, hnone⟩ := ih hrest (k + 1)
      exact ⟨by omega, by rw [Table.find, if_neg (by omega), hnone]⟩
    · split
      · obtain ⟨hle, hnone⟩ := ih hrest k
        exact ⟨hle, by rw [Table.find, if_neg (by omega), hnone]⟩
      · refine ⟨le_rfl, Option.eq_none_iff_forall_ne_some.2 fun x hx => ?_⟩
        rcases List.mem_cons.1 (Table.mem_of_find hx) with heq | hmem
        · cases heq; omega
        · have := habove k (List.mem_map.2 ⟨_, hmem, rfl⟩)
          omega

namespace Writes

variable {g : Scope} {s u : State}

/-! ## Requests on zones, and the end of a pass -/

theorem accept (h : Writes g s u) {b : Body} : Writes g s (accept u b).1 := h

theorem serveAckZone (h : Writes g s u) (zone : Nat) : Writes g s (serveAckZone zone u).1 :=
  onZone_cases h fun _ => Writes.accept (h.changeZone _ _ fun law => by exact { law with })

theorem serveStartCapture (h : Writes g s u) (zone count : Nat) : Writes g s (serveStartCapture zone count u).1 := by
  refine onZone_cases h fun z => ?_
  split
  · exact Writes.accept (h.changeZone _ _ fun law => by exact { law with ring := Nat.zero_le _ })
  · exact h

theorem serveStopCapture (h : Writes g s u) (zone : Nat) : Writes g s (serveStopCapture zone u).1 :=
  onZone_cases h fun _ => Writes.accept (h.changeZone _ _ fun law => by exact { law with })

theorem serveReadCapture (h : Writes g s u) (zone count : Nat) : Writes g s (serveReadCapture zone count u).1 := by
  refine onZone_cases h fun z => ?_
  split
  · exact Writes.accept (h.changeZone _ _ fun law => by exact { law with ring := (List.drop_sublist _ _).length_le.trans law.ring })
  · exact h

theorem serveRequestExclusion (h : Writes g s u) (zone minutes : Nat) : Writes g s (serveRequestExclusion zone minutes u).1 :=
  onZone_cases h fun z => h.changeZone z (fun x => { x with exclusion := ((u.zone z).requestExclusion (max 1 (min 240 minutes))).1 })
    fun law => law.requestExclusion minutes

theorem endExclusion (h : Writes g s u) (z : ZoneNumber) : Writes g s (u.endExclusion z) :=
  ((h.changeZone z _ fun law => { law with exclusion := trivial }).raise _ _).testAvailable

theorem serveEndExclusion (h : Writes g s u) (zone : Nat) : Writes g s (serveEndExclusion zone u).1 := by
  refine onZone_cases h fun z => ?_
  split
  · exact h
  · exact h.endExclusion z

theorem exclusionEnding (h : Writes g s u) (z : ZoneNumber) : Writes g s (u.exclusionEnding z) := by
  have hg := h.grantInternal (.exclusionEnd z)
  unfold State.exclusionEnding
  dsimp only
  split
  · exact hg.endExclusion z
  · exact hg

theorem zoneNotices (h : Writes g s u) (before after : Vector Zone 8) (p : Vector ZoneReadings 8) :
    Writes g s (u.zoneNotices before after p) :=
  ((((h.raiseIf _ _ _).raiseIf _ _ _).raiseIf _ _ _).raiseIf _ _ _).raiseIf _ _ _

/-- R171: the zones are written with a pass of readings in their range, and the pass leaves those handed on. -/
theorem takeHanded (h : Writes g s u) : Writes g s u.takeHanded := by
  have hg := h.grantInternal .zoneUpdate
  unfold State.takeHanded
  dsimp only
  split
  · exact hg
  · next p rest hp =>
    refine Writes.testIf (Writes.withdrawWhere (Writes.zoneNotices (Writes.humidity hg _ _ fun law => ?_) _ _ _) _) _
    have hhanded := hp ▸ law.handed
    refine ⟨fun z => ?_, law.heads, fun q hq => hhanded q (List.mem_cons_of_mem _ hq)⟩
    simpa [State.zone, State.updatedZones] using (law.zones z).update _ _ (hhanded p (List.mem_cons_self ..) z)

/-! ## The Sensor Loop -/

theorem endLoopPass (h : Writes g s u) : Writes g s u.endLoopPass :=
  Writes.arbiter (h.loop { u.loop with pass := none, handed := u.loop.handed ++ [Vector.ofFn u.zoneReadings] } (fun law => law.heads)
    fun law p hp z => by
      rcases List.mem_append.1 hp with hp | hp
      · exact law.handed p hp z
      · rw [List.mem_singleton.1 hp]
        simpa using law.zoneReadings z) _

theorem pollNext (h : Writes g s u) (list : List (Fin 24)) : Writes g s (u.pollNext list) := by
  induction list with
  | nil => exact h.endLoopPass
  | cons i rest ih =>
    unfold State.pollNext
    split
    · exact ih
    · exact h.loop _ (fun law => law.heads) fun law => law.handed

theorem takeLoopStart (h : Writes g s u) : Writes g s u.takeLoopStart := by
  unfold State.takeLoopStart
  split
  · exact h
  · refine Writes.pollNext (h.loop _ (fun law i => ?_) fun law => by exact law.handed) _
    have hi := law.heads i
    simpa using (⟨hi.misses, by simp⟩ : Head.Law { u.loop.heads[i] with reading := none })

theorem receiveReply (h : Writes g s u) (bytes : Vector Byte 5) : Writes g s (u.receiveReply bytes) := by
  unfold State.receiveReply
  split
  · split
    · exact h.loop _ (fun law => law.heads) fun law => law.handed
    · exact h
  · exact h

theorem judgeHead (h : Writes g s u) (i : Fin 24) {o : HeadOutcome} (ho : ∀ r, o = .ok r → r ≤ 1000) : Writes g s (u.judgeHead i o) := by
  refine Writes.raiseIf (h.loop _ (fun law j => ?_) fun law => by exact law.handed) _ _ _
  have hjudged : ((u.loop.heads[i]).judged o).Law := by
    unfold Head.judged
    split
    · exact law.heads i
    · exact (law.heads i).after ho
  by_cases hij : i.val = j.val
  · simpa [← hij] using hjudged
  · simpa [hij] using law.heads j

theorem closeWindow (h : Writes g s u) : Writes g s u.closeWindow := by
  unfold State.closeWindow
  split
  · exact (h.judgeHead _ fun _ => judgeWindow_ok).pollNext _
  · exact h

/-! ## The time base -/

theorem minuteEvent (h : Writes g s u) (hg : g.clock = true) : Writes g s { u.whenRunning State.countMinute with clock := u.clock.tick } := by
  refine Writes.clock (State.whenRunning_cases h ?_) hg _
  exact (h.zones (u.zones.map Zone.tick) fun law z => by simpa [State.zone] using (law.zones z).tick).free _ _ _ _ _ _ _

/-! ## Wheels and the configuration -/

theorem book (h : Writes g s u) {w : Nat} {x : Wheel} {c : Coord} (hw : w < Config.handles) (hfree : u.StoreLaw → u.wheel w = none)
    (htag : tagIdValid x.tag = true) (hnew : u.lookup x.tag = none) (hx : u.config.classes[x.cls].valid = true)
    (hq : u.Sheltered x) : Writes g s (u.book w x c).1 :=
  Writes.offerMovement ((h.create w x hw hfree htag hnew hx hq).slot _ _) _

end Writes

/-- The board a BOOK_IN chooses lies in the source aisle. -/
theorem State.chooseSlot_aisle {s : State} {slot : SlotChoice} {c : Coord} (h : s.chooseSlot slot = some c) :
    c.aisle = s.ports.management.window.source := by
  have hboard : ∀ l p, s.boardIn s.ports.management.window.source l p = some c → c.aisle = s.ports.management.window.source := by
    intro l p hb
    unfold State.boardIn Coord.ofParts at hb
    split at hb
    · split at hb
      · cases hb; rfl
      · cases hb
    · cases hb
  unfold State.chooseSlot at h
  split at h
  · split at h
    · next d hd =>
      split at h
      · cases h
        exact hboard _ _ hd
      · cases h
    · cases h
  · obtain ⟨l, -, hl⟩ := List.mem_flatMap.1 (List.mem_of_find?_eq_some h)
    obtain ⟨p, -, hp⟩ := List.mem_filterMap.1 hl
    exact hboard l p hp

/-- R123, R124: a wheel booked in for a quarantine aisle carries the QUARANTINE hold. -/
theorem newWheel_sheltered {s : State} {tag : TagId} {batch entry : Nat} {n : Fin 16} {c : Coord} {quarantine : Bool} {slot : SlotChoice}
    (hc : s.chooseSlot slot = some c) (hq : s.config.geometry.quarantine[s.ports.management.window.source] = true → quarantine = true) :
    s.Sheltered (newWheel tag batch entry n c quarantine) := by
  intro hbound
  rcases State.boundToQuarantine_iff.1 hbound with ⟨d, hd, -⟩ | ⟨i, d, hi, hd, hwall⟩
  · cases hd
  · cases hi
    obtain rfl : c = d := by simpa [Intent.Names, newIntent] using hd
    have hsource : quarantine = true := hq (by simpa only [State.quarantined, State.chooseSlot_aisle hc] using hwall)
    simp [newWheel, hsource]

theorem State.validClass_some {s : State} {cls : Nat} {n : Fin 16} (h : s.validClass cls = some n) :
    n.val = cls ∧ s.config.classes[n].valid = true := by
  unfold State.validClass at h
  split at h
  · split at h
    · next hv => cases h; exact ⟨rfl, hv⟩
    · cases h
  · cases h

namespace Writes

variable {g : Scope} {s u : State}

theorem serveBookIn (h : Writes g s u) (tag : TagId) (batch entry cls : Nat) (slot : SlotChoice) (quarantine : Bool) :
    Writes g s (serveBookIn tag batch entry cls slot quarantine u).1 := by
  unfold Machine.serveBookIn
  split
  · exact h
  · split
    · exact h
    · next htag =>
      split
      · exact h
      · next n hn =>
        split
        · exact h
        · next hnew =>
          split
          · exact h
          · next hroom =>
            split
            · exact h
            · split
              · exact h
              · next hwall _ _ hc =>
                exact h.book (by omega) (fun law => Table.find_lowestFree law.wheels.1 0) (by simpa [newWheel] using htag) (by simpa [newWheel] using hnew)
                  (State.validClass_some hn).2 (newWheel_sheltered hc (by simpa using hwall))

theorem serveSetClass (h : Writes g s u) (w cls : Nat) : Writes g s (serveSetClass w cls u).1 := by
  refine State.onWheel_cases h fun x _ _ => ?_
  split
  · next n hn => exact h.wheelClass w n (State.validClass_some hn).2
  · exact h

/-- A section of the working configuration written: the retained copies and the classes stay. -/
theorem writeSection (h : Writes g s u) (hg : g.config = true) {c : Configuration} (hgeometry : c.geometry = u.config.geometry)
    (hclasses : c.classes = u.config.classes) (hfits : u.config.Fits → c.Fits) : Writes g s { u with config := c } :=
  h.config hg c u.retainedGeometry u.retainedProfiles (.inr hgeometry) fun law =>
    { law with
      working := hfits law.working
      geometry := law.geometry.trans hgeometry.symm
      profiles := law.profiles.trans hclasses.symm
      valid := fun e he => by simpa [hclasses] using law.valid e he }

theorem serveLimits (h : Writes g s u) (hg : g.config = true) (zone : Nat) (limits : RawLimits) : Writes g s (serveLimits zone limits u).1 := by
  unfold Machine.serveLimits
  split
  · exact h
  · refine onZone_cases h fun z => ?_
    split
    · exact h
    · next l hl =>
      refine h.writeSection hg rfl rfl fun fits => { fits with zones := fun y => ?_ }
      by_cases hzy : z.val = y.val
      · simpa [← hzy] using judgeLimits_fits hl
      · simpa [hzy] using fits.zones y

/-- R1, R2: a GEOMETRY section taken writes the working and the retained geometry, the slot map and the windows. -/
theorem takeGeometry (h : Writes g s u) (hg : g.config = true) {x : Geometry} (hempty : u.wheels = []) (hfits : u.config.Fits →
    Configuration.Fits { u.config with geometry := x }) : Writes g s (u.takeGeometry x) := by
  have hconfig := h.config hg { u.config with geometry := x } x u.retainedProfiles (.inl hempty) fun law =>
    { law with working := hfits law.working, geometry := rfl }
  exact ((hconfig.noSlots.port .management (u.ports.management.fitWindow x.aisles) fun law => { law with }).port .robot
    (u.ports.robot.fitWindow x.aisles) fun law => { law with }).port .climate (u.ports.climate.fitWindow x.aisles) fun law => { law with }

theorem serveWriteGeometry (h : Writes g s u) (hg : g.config = true) (a l n : Nat) (q : Vector Bool 16) :
    Writes g s (serveWriteGeometry a l n q u).1 := by
  unfold Machine.serveWriteGeometry
  rw [judgeGeometry_eq]
  split
  · exact h
  · next x hx =>
    split
    · next hempty =>
      split at hx
      · next hr =>
        cases hx
        obtain ⟨h1, h2, h3, h4, h5, h6, h7⟩ := hr
        exact h.takeGeometry hg hempty.1 fun fits => { fits with aisles := ⟨h1, h2⟩, boards := ⟨h3, h4, h5, h6⟩, quarantine := h7 }
      · cases hx
    · exact h

theorem serveWriteZoneMap (h : Writes g s u) (hg : g.config = true) (aisle : Nat) (zones : Vector Nat 12) :
    Writes g s (serveWriteZoneMap aisle zones u).1 := by
  unfold Machine.serveWriteZoneMap
  split
  · split
    · exact Writes.testAvailable (Writes.withdrawWhere (h.writeSection hg (by rfl) (by rfl) fun fits => by exact { fits with }) _)
    · exact h
  · exact h


end Writes

end Sys2Proof.Machine

namespace Sys2Proof.Machine

set_option Elab.async false

/-- R37: a class is referenced when some wheel holds it. -/
theorem State.references_pos {s : State} {n : Fin 16} : 0 < s.references n ↔ ∃ e ∈ s.wheels, e.2.cls = n := by
  simp [State.references, List.countP_pos_iff]

namespace Writes

variable {g : Scope} {s u : State}

/-- R38, R42: a class written with its retained copy; a class that wheels hold stays valid. -/
theorem takeClass (h : Writes g s u) (hg : g.config = true) (n : Fin 16) {c : CareClass} (hfits : c.Fits)
    (hvalid : c.valid = true ∨ ∀ e ∈ u.wheels, e.2.cls ≠ n) : Writes g s (u.takeClass n c) := by
  refine h.config hg _ u.retainedGeometry _ (.inr rfl) fun law => { law with working := { law.working with classes := fun m => ?_ }, profiles := ?_, valid := fun e he => ?_ }
  · by_cases hmn : n.val = m.val
    · simpa [← hmn] using hfits
    · simpa [hmn] using law.working.classes m
  · exact congrArg (fun v => v.set n c) law.profiles
  · by_cases hen : n.val = e.2.cls.val
    · rcases hvalid with hv | hnone
      · simpa [← hen] using hv
      · exact absurd (Fin.ext hen.symm) (hnone e he)
    · simpa [hen] using law.valid e he

theorem serveWriteCareClass (h : Writes g s u) (hg : g.config = true) (n : Nat) (f : RawClass) :
    Writes g s (serveWriteCareClass n f u).1 := by
  unfold Machine.serveWriteCareClass
  split
  · split
    · exact h
    · next hfits =>
      split
      · exact h
      · next hvalid =>
        refine h.takeClass hg _ (CareClass.Fits.of_raw (by simpa using hfits)) ?_
        rcases hf : f.valid with _ | _
        · refine .inr fun e he hcls => hvalid ⟨hf, State.references_pos.2 ⟨e, he, hcls⟩⟩
        · exact .inl hf
  · exact h

theorem serveWriteRobot (h : Writes g s u) (hg : g.config = true) (f : RawRobot) : Writes g s (serveWriteRobot f u).1 := by
  unfold Machine.serveWriteRobot
  split
  · next r hr =>
    obtain ⟨hallowances, hscores⟩ := judgeRobot_some hr
    exact Writes.accept (h.writeSection hg (by rfl) (by rfl) fun fits => by exact { fits with allowances := hallowances, scores := hscores })
  · exact h

theorem serveWriteSweep (h : Writes g s u) (hg : g.config = true) (p : Nat) : Writes g s (serveWriteSweep p u).1 := by
  unfold Machine.serveWriteSweep
  split
  · next hp =>
    refine Writes.accept (Writes.free (h.writeSection hg (c := { u.config with period := p }) rfl rfl fun fits =>
      { fits with periods := ⟨hp.1, hp.2, fits.periods.2.2⟩ }) _ _ _ _ _ _ _)
  · exact h

theorem serveWriteSensor (h : Writes g s u) (hg : g.config = true) (p : Nat) (heads : Vector (Option Nat) 24) :
    Writes g s (serveWriteSensor p heads u).1 := by
  unfold Machine.serveWriteSensor
  split
  · next x hx =>
    refine Writes.accept (Writes.loop (h.writeSection hg (c := { u.config with sensor := x }) rfl rfl fun fits =>
      { fits with periods := ⟨fits.periods.1, fits.periods.2.1, judgeSensor_period hx⟩ }) _ (fun law i => ?_) fun law => by exact law.handed)
    have hi : ∀ a b, ((u.loop.heads[i]).reassign a b).Law := fun a b => by
      unfold Head.reassign
      split
      · exact law.heads i
      · exact ⟨Nat.zero_le _, by simp⟩
    simpa using hi _ _
  · exact h

/-! ## Saving and the supply -/

theorem beginSave (h : Writes g s u) (hg : g.memory = true) (p : Port) : Writes g s (u.beginSave p) :=
  Writes.port (h.memory hg { u.memory with valid := false, saving := some u.config } fun law =>
    ⟨law.image, by rintro _ ⟨⟩; exact law.working⟩) p _ fun law => { law with }

theorem completeSave (h : Writes g s u) (hg : g.memory = true) (equal : Bool) : Writes g s (u.completeSave equal) := by
  unfold State.completeSave
  split
  · exact h
  · next copy hcopy =>
    refine Writes.answer (h.memory hg _ fun law => ?_) _ _ _
    cases equal
    · exact ⟨law.image, by simp [ConfigMemory.complete]⟩
    · exact ⟨law.saving _ hcopy, by simp [ConfigMemory.complete]⟩

theorem enterRetention (h : Writes g s u) (hg : g.memory = true) : Writes g s u.enterRetention := by
  have hmemory := h.memory hg { u.memory with saving := none } fun law => ⟨law.image, by simp⟩
  have hloop := hmemory.loop { u.loop with pass := none, handed := [] } (fun law => law.heads) fun _ _ hp => by simp at hp
  have hfree := hloop.free u.tasks u.dispatch u.link u.lastSurvey u.sweep { u.arbiter with asked := [] }
    { u.supply with state := .retention, intact := u.supply.intact && !u.supply.batteryLow }
  have hstop : ∀ {r : PortRecord} {p : Port}, r.Law p → r.stop.Law p := fun law => { law with answers := by simp [PortRecord.stop], busies := by simp [PortRecord.stop] }
  exact ((hfree.port .management u.ports.management.stop hstop).port .robot u.ports.robot.stop hstop).port .climate u.ports.climate.stop hstop

end Writes

/-- The scope of a command: the clock is written by minute events and SET_CLOCK, the Configuration Memory by saves and supply changes,
the working configuration by WRITE_CONFIG and SET_ZONE_LIMITS, and all three by a start. -/
def scopeOf : Instr → Scope
  | .setClock _ _ | .minuteEvent => ⟨true, false, false⟩
  | .saveConfig _ | .saveComplete _ | .mainSupplyFail => ⟨false, true, false⟩
  | .setZoneLimits _ _ _ | .writeConfigGeometry _ _ _ _ _ | .writeConfigZoneMap _ _ _ | .writeConfigCareClass _ _ _
  | .writeConfigRobot _ _ | .writeConfigSweep _ _ | .writeConfigSensor _ _ _ | .writeConfigZone _ _ _ => ⟨false, false, true⟩
  | .mainSupplyReturn _ | .resetLine _ => ⟨true, true, true⟩
  | _ => ⟨false, false, false⟩

/-- The commands whose scope is everything are the two that start the part. -/
theorem scopeOf_all {c : Instr} (hc : scopeOf c = ⟨true, true, true⟩) : (∃ i, c = .mainSupplyReturn i) ∨ ∃ i, c = .resetLine i := by
  cases c <;> simp [scopeOf] at hc ⊢

/-- Each of the two answers the state it found, or that of a start. -/
theorem exec_starts {c : Instr} (hc : scopeOf c = ⟨true, true, true⟩) (s : State) :
    ∃ t, exec c s = .next t ∧ (t = s ∨ ∃ i lost, t = s.start i lost) := by
  rcases scopeOf_all hc with ⟨i, rfl⟩ | ⟨i, rfl⟩
  · refine ⟨_, rfl, ?_⟩
    split
    · exact .inr ⟨i, _, rfl⟩
    · exact .inl rfl
  · exact ⟨s.whenRunning fun u => u.start i false, rfl, State.whenRunning_cases (P := fun t => t = s ∨ ∃ i lost, t = s.start i lost)
      (.inl rfl) (.inr ⟨i, false, rfl⟩)⟩

/-- Every other command answers a next state, which its writes have reached. -/
theorem exec_writes {c : Instr} (hc : scopeOf c ≠ ⟨true, true, true⟩) (s : State) : ∃ t, exec c s = .next t ∧ Writes (scopeOf c) s t := by
  have h : ∀ {g}, Writes g s s := .refl
  cases c with
  | setWindow f a b =>
    refine ⟨_, rfl, h.request fun v hv => ?_⟩
    unfold serveSetWindow
    split
    · split
      · exact hv.port _ _ fun law => { law with }
      · exact hv
    · exact hv
  | readNotices f => exact ⟨_, rfl, h.request fun v hv => hv.port _ _ fun law => { law with notices := List.nil_sublist _ }⟩
  | setNoticeMask f flags =>
    refine ⟨_, rfl, h.request fun v hv => ?_⟩
    unfold serveSetNoticeMask
    split
    · exact hv.port _ _ fun law => { law with mask := List.filter_sublist }
    · exact hv
  | listLevel f l =>
    refine ⟨_, rfl, h.request fun v hv => ?_⟩
    unfold serveListLevel
    split <;> exact hv
  | ready f k p c => exact ⟨_, rfl, h.request fun v hv => hv.serveReady _ _ _⟩
  | take f => exact ⟨_, rfl, h.request fun v hv => hv.serveTake⟩
  | homed f => exact ⟨_, rfl, h.request fun v hv => hv.serveHomed⟩
  | arrived f r tag => exact ⟨_, rfl, h.request fun v hv => hv.serveArrived _ _⟩
  | picked f r =>
    exact ⟨_, rfl, State.receive_cases h ((h.hunt _).answerBusy _ _) (fun _ => (h.received _).answer _ _ _)
      ((((h.received _).grantPort _).servePicked _ id).answer _ _ _)⟩
  | slotRead f r n tag => exact ⟨_, rfl, h.request fun v hv => hv.serveSlotRead _ _ _⟩
  | doneReport f r a b => exact ⟨_, rfl, h.request fun v hv => hv.serveDone _ _ _⟩
  | faultReport f k r => exact ⟨_, rfl, h.request fun v hv => hv.serveFault _ _ _⟩
  | slotBlocked f r => exact ⟨_, rfl, h.request fun v hv => hv.serveFault _ _ _⟩
  | readHeads f => exact ⟨_, rfl, h.request fun v hv => hv⟩
  | setZoneLimits f z l => exact ⟨_, rfl, h.request fun v hv => hv.serveLimits rfl _ _⟩
  | ackZone f z => exact ⟨_, rfl, h.request fun v hv => hv.serveAckZone _⟩
  | readZone f z => exact ⟨_, rfl, h.request fun v hv => onZone_cases hv fun _ => hv⟩
  | startCapture f z n => exact ⟨_, rfl, h.request fun v hv => hv.serveStartCapture _ _⟩
  | stopCapture f z => exact ⟨_, rfl, h.request fun v hv => hv.serveStopCapture _⟩
  | readCapture f z n => exact ⟨_, rfl, h.request fun v hv => hv.serveReadCapture _ _⟩
  | endExclusion f z => exact ⟨_, rfl, h.request fun v hv => hv.serveEndExclusion _⟩
  | readConfig f n =>
    refine ⟨_, rfl, h.receive fun v hv => Writes.answer (named_cases hv ?_) _ _ _⟩
    split <;> exact hv
  | requestExclusion f z m => exact ⟨_, rfl, h.request fun v hv => hv.serveRequestExclusion _ _⟩
  | setSlotFault f l p =>
    refine ⟨_, rfl, h.request fun v hv => State.onBoard_cases hv fun c _ => ?_⟩
    split
    · exact hv.slot _ _
    · exact hv
  | clearSlotFault f l p =>
    refine ⟨_, rfl, h.request fun v hv => State.onBoard_cases hv fun c _ => ?_⟩
    split
    · exact hv.slot _ _
    · exact hv
  | setClock f m =>
    refine ⟨_, rfl, h.request fun v hv => ?_⟩
    unfold serveSetClock
    split
    · exact hv.clock rfl _
    · exact hv
  | readStatus f => exact ⟨_, rfl, h.request fun v hv => hv⟩
  | readWheel f w => exact ⟨_, rfl, h.request fun v hv => State.onWheel_cases hv fun _ _ _ => hv⟩
  | findWheel f tag =>
    refine ⟨_, rfl, h.request fun v hv => ?_⟩
    unfold serveFindWheel
    split <;> exact hv
  | setClass f w n => exact ⟨_, rfl, h.request fun v hv => hv.serveSetClass _ _⟩
  | holdWheel f w k => exact ⟨_, rfl, h.request fun v hv => hv.serveHold _ _ _⟩
  | release f w => exact ⟨_, rfl, h.request fun v hv => hv.serveRelease _⟩
  | clearCareFault f w =>
    refine ⟨_, rfl, h.request fun v hv => State.onWheel_cases hv fun x _ _ => ?_⟩
    split
    · exact Writes.accept hv.change
    · exact hv
  | bookIn f tag b e c sl q => exact ⟨_, rfl, h.request fun v hv => hv.serveBookIn _ _ _ _ _ _⟩
  | relocate f a b c d => exact ⟨_, rfl, h.request fun v hv => hv.serveRelocate _ _ _ _⟩
  | bookOut f w => exact ⟨_, rfl, h.request fun v hv => hv.serveBookOut _⟩
  | cancelMove f w => exact ⟨_, rfl, h.request fun v hv => hv.serveCancelMove _⟩
  | abortTask f n => exact ⟨_, rfl, h.request fun v hv => hv.serveAbortTask _⟩
  | pauseDispatch f => exact ⟨_, rfl, h.request fun v hv => hv.free _ _ _ _ _ _ _⟩
  | resumeDispatch f => exact ⟨_, rfl, h.request fun v hv => Writes.testIf (hv.free _ _ _ _ _ _ _) _⟩
  | readTasks f n =>
    refine ⟨_, rfl, h.request fun v hv => ?_⟩
    unfold serveReadTasks
    split <;> exact hv
  | clearRobotHalt f =>
    refine ⟨_, rfl, h.request fun v hv => ?_⟩
    unfold serveClearRobotHalt
    split
    · exact hv.link _
    · exact hv
  | requestSurvey f l a b => exact ⟨_, rfl, h.request fun v hv => hv.serveRequestSurvey _ _ _⟩
  | readDiscrepancy f =>
    refine ⟨_, rfl, h.request fun v hv => ?_⟩
    unfold serveReadDiscrepancy
    split
    · exact hv
    · next hl => exact hv.findings _ fun hroom => by rw [hl, List.length_cons] at hroom; omega
  | resolveSlotConfirm f l p =>
    exact ⟨_, rfl, h.request fun v hv => State.onBoard_cases hv fun c _ => named_cases hv (hv.confirm c)⟩
  | resolveSlotClear f l p =>
    exact ⟨_, rfl, h.request fun v hv => State.onBoard_cases hv fun c _ => named_cases hv (hv.clearSlot c)⟩
  | resolveSlotAssign f l p tag =>
    exact ⟨_, rfl, h.request fun v hv => State.onBoard_cases hv fun c _ => named_cases hv (hv.assign c tag)⟩
  | resolveWheelPlaceAt f w l p =>
    exact ⟨_, rfl, h.request fun v hv => State.onBoard_cases hv fun c _ =>
      State.onWheel_cases hv fun x _ hx => named_cases hv (hv.placeAt c w x hx)⟩
  | resolveWheelDelete f w =>
    refine ⟨_, rfl, h.request fun v hv => State.onWheel_cases hv fun x _ _ => named_cases hv ?_⟩
    split
    · exact hv.delete w
    · exact hv
  | writeConfigGeometry f a l n q => exact ⟨_, rfl, h.request fun v hv => named_cases hv (hv.serveWriteGeometry rfl _ _ _ _)⟩
  | writeConfigZoneMap f a zs => exact ⟨_, rfl, h.request fun v hv => named_cases hv (hv.serveWriteZoneMap rfl _ _)⟩
  | writeConfigCareClass f n c => exact ⟨_, rfl, h.request fun v hv => named_cases hv (hv.serveWriteCareClass rfl _ _)⟩
  | writeConfigRobot f r => exact ⟨_, rfl, h.request fun v hv => named_cases hv (hv.serveWriteRobot rfl _)⟩
  | writeConfigSweep f p => exact ⟨_, rfl, h.request fun v hv => named_cases hv (hv.serveWriteSweep rfl _)⟩
  | writeConfigSensor f p hs => exact ⟨_, rfl, h.request fun v hv => named_cases hv (hv.serveWriteSensor rfl _ _)⟩
  | writeConfigZone f z l => exact ⟨_, rfl, h.request fun v hv => named_cases hv (hv.serveLimits rfl _ _)⟩
  | saveConfig f => exact ⟨_, rfl, h.receive fun v hv => hv.beginSave rfl _⟩
  | saveComplete equal => exact ⟨_, rfl, State.whenRunning_cases h (h.completeSave rfl _)⟩
  | frameDiscard p l rest =>
    refine ⟨_, rfl, State.whenRunning_cases h ?_⟩
    split
    · exact h
    · exact h.hunt p
  | interByteGap p b => exact ⟨_, rfl, State.whenRunning_cases h (h.port p _ fun law => { law with })⟩
  | requestBusy p k =>
    exact ⟨_, rfl, State.whenRunning_cases h (h.port p _ fun law =>
      PortRecord.Law.answerBusy (r := PortRecord.holdsRequest { s.port p with rx := [] }) { law with } k)⟩
  | minuteEvent => exact ⟨_, rfl, h.minuteEvent rfl⟩
  | secondEvent =>
    refine ⟨_, rfl, State.whenRunning_cases h (h.loop _ (fun law => ?_) fun law => ?_)⟩
    · unfold SensorLoop.tick; split <;> exact law.heads
    · unfold SensorLoop.tick; split <;> exact law.handed
  | sweepPeriodBoundary => exact ⟨_, rfl, State.whenRunning_cases h (h.free _ _ _ _ _ _ _)⟩
  | sweepVisit => exact ⟨_, rfl, State.whenRunning_cases h h.sweepVisit⟩
  | taskDeadlineExpiry => exact ⟨_, rfl, State.whenRunning_cases h h.expireTask⟩
  | homeOrderExpiry => exact ⟨_, rfl, State.whenRunning_cases h h.expireHome⟩
  | exclusionEnding z => exact ⟨_, rfl, State.whenRunning_cases h (h.exclusionEnding z)⟩
  | loopPassStart => exact ⟨_, rfl, State.whenRunning_cases h h.takeLoopStart⟩
  | loopReply b => exact ⟨_, rfl, State.whenRunning_cases h (h.receiveReply b)⟩
  | replyWindowClose => exact ⟨_, rfl, State.whenRunning_cases h h.closeWindow⟩
  | zoneUpdate => exact ⟨_, rfl, State.whenRunning_cases h h.takeHanded⟩
  | mainSupplyFail => exact ⟨_, rfl, State.whenRunning_cases h (h.enterRetention rfl)⟩
  | mainSupplyReturn i => exact absurd rfl hc
  | resetLine i => exact absurd rfl hc
  | batteryThreshold b => exact ⟨_, rfl, h.free _ _ _ _ _ _ _⟩
  | responseSent p => exact ⟨_, rfl, State.whenRunning_cases h (h.port p _ fun law => law.sent)⟩
  | unknownKindRequest f k => exact ⟨_, rfl, h.receive fun _ hv => hv⟩

end Sys2Proof.Machine

namespace Sys2Proof.Machine

set_option Elab.async false

/-! ## Starts -/

/-- Polling the next head writes the loop and the arbiter alone. -/
theorem State.pollNext_eq (s : State) (list : List (Fin 24)) : ∃ l a, s.pollNext list = { s with loop := l, arbiter := a } := by
  induction list with
  | nil => exact ⟨_, _, rfl⟩
  | cons h rest ih =>
    unfold State.pollNext
    split
    · exact ih
    · exact ⟨_, s.arbiter, rfl⟩

/-- The tables a start finds: those kept, or cleared with retention lost (R191). -/
def State.kept (s : State) (lost : Bool) : State := if lost then s.loseRetention else s

/-- The configuration a start loads (R189). -/
def State.loaded (s : State) (i : StartInputs) : Configuration := if s.storeValid i.imageCrc then s.memory.image else Configuration.default

/-- R2: the geometry a start settles: the loaded one while no wheel exists, else the retained one. -/
def State.settledGeometry (s : State) (i : StartInputs) : Geometry :=
  if s.wheels = [] then (s.loaded i).geometry else s.retainedGeometry

/-- R42: the classes a start settles: the retained copies of those that wheels hold, else the loaded ones. -/
def State.settledClasses (s : State) (i : StartInputs) : Vector CareClass 16 :=
  Vector.ofFn fun n : Fin 16 => if ∃ e ∈ s.wheels, e.2.cls = n then s.retainedProfiles[n] else (s.loaded i).classes[n]

/-- R191: the state of a start before its notices and its first loop pass, made of the tables found. -/
def State.restarted (s : State) (i : StartInputs) : State :=
  { s with
    slots := if s.wheels = [] ∧ (s.loaded i).geometry ≠ s.retainedGeometry then [] else s.slots
    wheels := s.wheels.map fun e => (e.1, e.2.restart)
    tasks := []
    retainedGeometry := s.settledGeometry i
    retainedProfiles := s.settledClasses i
    lastSurvey := none
    dispatch := Dispatcher.initial
    link := RobotLink.initial
    sweep := Sweep.initial
    loop :=
      { timer := 0, startsDue := 0, pass := none, lastPoll := none
        heads := Vector.ofFn fun h => ⟨if ((s.loaded i).sensor.assignment[h]).isSome then .probing else .off, 0, none⟩
        handed := [] }
    zones := Vector.replicate 8 Zone.initial
    config := { s.loaded i with geometry := s.settledGeometry i, classes := s.settledClasses i }
    memory := { s.memory with source := if s.storeValid i.imageCrc then .stored else .defaults, saving := none, lastSave := none }
    ports :=
      { management := PortRecord.initial .management (baudOf i.managementFast)
        robot := PortRecord.initial .robot (baudOf i.robotFast)
        climate := PortRecord.initial .climate (baudOf i.climateFast) }
    arbiter := { cycleLast := .sweep, passedOver := 0, asked := [] } }

section
variable (s u : State) (i : StartInputs)

theorem State.loadConfig_eq : s.loadConfig i.imageCrc =
    { s with
      config := s.loaded i
      memory := { s.memory with source := if s.storeValid i.imageCrc then .stored else .defaults } } := by
  unfold State.loadConfig State.loaded
  split <;> rfl

/-- R2: settling the geometry writes geometry, slot map and windows. -/
theorem State.settleGeometry_eq : ∃ ports, s.settleGeometry =
    { s with
      config := { s.config with geometry := if s.wheels = [] then s.config.geometry else s.retainedGeometry }
      retainedGeometry := if s.wheels = [] then s.config.geometry else s.retainedGeometry
      slots := if s.wheels = [] ∧ s.config.geometry ≠ s.retainedGeometry then [] else s.slots
      ports := ports } := by
  by_cases hw : s.wheels = []
  · by_cases hg : s.config.geometry = s.retainedGeometry
    · refine ⟨s.ports, ?_⟩
      unfold State.settleGeometry
      rw [if_neg (by simp [hw]), if_pos hg, if_pos hw, if_neg fun h => h.2 hg]
      exact congrArg (fun g => ({ s with retainedGeometry := g } : State)) hg.symm
    · exact ⟨(s.takeGeometry s.config.geometry).ports, by simp [State.settleGeometry, State.takeGeometry, hw, hg]⟩
  · exact ⟨s.ports, by simp [State.settleGeometry, hw]⟩

theorem State.settledClass_eq :
    s.settledClass = fun n => if ∃ e ∈ s.wheels, e.2.cls = n then s.retainedProfiles[n] else s.config.classes[n] := by
  funext n
  simp only [State.settledClass, State.references_pos]

theorem State.resetBlocks_eq : ((s.loadConfig i.imageCrc).settleGeometry.settleClasses).resetBlocks i = s.restarted i := by
  obtain ⟨ports, h⟩ := (s.loadConfig i.imageCrc).settleGeometry_eq
  rw [h, State.loadConfig_eq]
  simp only [State.settleClasses, State.resetBlocks, State.restarted, State.settledGeometry, State.settledClasses, State.settledClass_eq]

end

/-- A start raises its notices, sets the supply and begins the first loop pass on the state so made. -/
theorem State.start_eq (s : State) (i : StartInputs) (lost : Bool) :
    let u := ((s.kept lost).restarted i).startNotices lost (!s.storeValid i.imageCrc)
    s.start i lost = State.beginLoopPass { u with supply := { u.supply with state := .running, intact := true } } := by
  unfold State.start
  rw [← State.resetBlocks_eq]
  cases lost <;> rfl

/-- A loop pass that finds every head without a reading begins with writes of the loop and the arbiter. -/
theorem Writes.beginLoopPass {g : Scope} {s u : State} (h : Writes g s u) : Writes g s u.beginLoopPass := by
  refine Writes.pollNext (h.loop _ (fun law j => ?_) fun law => by exact law.handed) _
  simpa using (⟨(law.heads j).misses, by simp⟩ : Head.Law { u.loop.heads[j] with reading := none })

theorem start_writes (g : Scope) (s : State) (i : StartInputs) (lost : Bool) :
    Writes g ((s.kept lost).restarted i) (s.start i lost) := by
  have h : Writes g ((s.kept lost).restarted i) ((s.kept lost).restarted i) := .refl
  rw [State.start_eq]
  exact Writes.beginLoopPass (Writes.free ((((h.raise _ _).raiseIf _ _ _).raiseIf _ _ _).raiseIf _ _ _) _ _ _ _ _ _ _)

/-- What holds of every state that the queue's commands reach: kept by writes, by retention loss and by starts. -/
theorem step_keeps {P : State → Prop} (hpending : ∀ s l, P s → P { s with pending := l })
    (hwrites : ∀ {g s t}, Writes g s t → P s → P t) (hlost : ∀ s, P s → P s.loseRetention)
    (hrestarted : ∀ s i, P s → P (s.restarted i)) {s t : State} (hs : P s) (hstep : step s = .next t) : P t := by
  unfold step at hstep
  split at hstep
  · cases hstep; exact hs
  · next c rest _ =>
    have hrest := hpending s rest hs
    by_cases hc : scopeOf c = ⟨true, true, true⟩
    · obtain ⟨v, hv, rfl | ⟨i, lost, rfl⟩⟩ := exec_starts hc { s with pending := rest }
      · rw [hv] at hstep; cases hstep; exact hrest
      · rw [hv] at hstep; cases hstep
        refine hwrites (start_writes (scopeOf c) _ i lost) (hrestarted _ i ?_)
        cases lost
        · exact hrest
        · exact hlost _ hrest
    · obtain ⟨v, hv, hw⟩ := exec_writes hc { s with pending := rest }
      rw [hv] at hstep; cases hstep; exact hwrites hw hrest

end Sys2Proof.Machine

namespace Sys2Proof.Machine

set_option Elab.async false

/-! ## What is listed after each operation of a table -/

section
variable {α : Type}

theorem Table.mem_change {t : Table α} {k : Nat} {f : α → α} {e : Nat × α} (h : e ∈ t.change k f) :
    ∃ d ∈ t, d.1 = e.1 ∧ (e.2 = d.2 ∨ e.2 = f d.2) := by
  induction t with
  | nil => simp [Table.change] at h
  | cons d t ih =>
    obtain ⟨j, v⟩ := d
    simp only [Table.change] at h
    split at h
    · rcases List.mem_cons.1 h with rfl | h
      · exact ⟨_, List.mem_cons_self, rfl, .inr rfl⟩
      · exact ⟨e, List.mem_cons_of_mem _ h, rfl, .inl rfl⟩
    · rcases List.mem_cons.1 h with rfl | h
      · exact ⟨_, List.mem_cons_self, rfl, .inl rfl⟩
      · obtain ⟨d, hd, hsame⟩ := ih h
        exact ⟨d, List.mem_cons_of_mem _ hd, hsame⟩

theorem Table.mem_put {t : Table α} {k : Nat} {v : α} {e : Nat × α} (h : e ∈ t.put k v) : e = (k, v) ∨ e ∈ t := by
  induction t with
  | nil => simpa [Table.put] using h
  | cons d t ih =>
    obtain ⟨j, w⟩ := d
    simp only [Table.put] at h
    split at h
    · simpa using h
    · split at h
      · rcases List.mem_cons.1 h with h | h
        · exact .inl h
        · exact .inr (List.mem_cons_of_mem _ h)
      · rcases List.mem_cons.1 h with rfl | h
        · exact .inr List.mem_cons_self
        · exact (ih h).imp id (List.mem_cons_of_mem _)

/-- A table whose entries are rewritten one by one finds the entry rewritten. -/
theorem Table.find_map {β : Type} (t : Table α) (f : α → β) (k : Nat) :
    Table.find k (t.map fun e => (e.1, f e.2)) = (t.find k).map f := by
  induction t with
  | nil => rfl
  | cons d t ih =>
    obtain ⟨j, v⟩ := d
    simp only [List.map_cons, Table.find]
    split
    · rfl
    · exact ih

end

/-! ## The law of the Table Store -/

section
variable {s : State}

/-- Records written anew under their tags keep the law. -/
theorem State.StoreLaw.changeWheel (law : s.StoreLaw) (w : Nat) {f : Wheel → Wheel} (hf : ∀ x, (f x).tag = x.tag) :
    (s.changeWheel w f).StoreLaw := by
  refine { law with wheels := ⟨by simpa using law.wheels.1, fun e he => ?_⟩, index := fun k v => ?_ }
  · obtain ⟨d, hd, hkey, hval⟩ := Table.mem_change he
    have hold := law.wheels.2 d hd
    rw [hkey] at hold
    rcases hval with hval | hval <;> simpa [hval, hf] using hold
  · by_cases hv : v = w
    · simpa [hv, hf] using law.index k w
    · simpa [hv] using law.index k v

theorem State.StoreLaw.createWheel (law : s.StoreLaw) {w : Nat} {x : Wheel} (hw : w < Config.handles) (hfree : s.wheel w = none)
    (htag : tagIdValid x.tag = true) (hnew : s.lookup x.tag = none) : (s.createWheel w x).StoreLaw := by
  refine { law with
    wheels := ⟨Table.put_canonical _ _ law.wheels.1, fun e he => ?_⟩
    tags := Table.put_canonical _ _ law.tags
    index := fun k v => ?_ }
  · rcases Table.mem_put he with rfl | he
    · exact ⟨hw, htag⟩
    · exact law.wheels.2 e he
  · have hfind : (s.createWheel w x).tags.find k = if k = x.tag.toNat then some w else s.tags.find k := Table.find_put _ _ _ _
    have hold := law.index k v
    have hnone : s.tags.find x.tag.toNat = none := hnew
    rw [hfind, State.wheel_createWheel]
    by_cases hk : k = x.tag.toNat
    · by_cases hv : v = w
      · simp [hk, hv]
      · subst hk
        rw [hnone] at hold
        simpa [hv, Ne.symm hv] using hold
    · by_cases hv : v = w
      · subst hv
        rw [hfree] at hold
        simpa [hk, Ne.symm hk] using hold
      · simpa [hk, hv] using hold

theorem State.StoreLaw.deleteWheel (law : s.StoreLaw) (w : Nat) : (s.deleteWheel w).StoreLaw := by
  rcases hx : s.wheel w with _ | x
  · simpa [State.deleteWheel, hx] using law
  have hdel : s.deleteWheel w = { s with wheels := s.wheels.drop w, tags := s.tags.drop x.tag.toNat } := by
    unfold State.deleteWheel; rw [hx]
  refine { law with
    slots := hdel ▸ law.slots, discrepancies := hdel ▸ law.discrepancies
    wheels := ?_, tags := ?_, index := fun k v => ?_ }
  · rw [hdel]
    exact ⟨Table.drop_canonical _ law.wheels.1, fun e he => law.wheels.2 e (List.mem_of_mem_filter he)⟩
  · rw [hdel]
    exact Table.drop_canonical _ law.tags
  · have hown := (law.index x.tag.toNat w).2 ⟨x, hx, rfl⟩
    have hold := law.index k v
    rw [State.wheel_deleteWheel, hdel]
    show Table.find k (s.tags.drop _) = _ ↔ _
    rw [Table.find_drop]
    by_cases hk : k = x.tag.toNat
    · subst hk
      by_cases hv : v = w
      · simp [hv]
      · rw [hown] at hold
        simpa [hv, Ne.symm hv] using hold
    · by_cases hv : v = w
      · subst hv
        simp [hk, hold, hx, Ne.symm hk]
      · simpa [hk, hv] using hold

/-- A record deleted: no other record and nothing but the tag index is touched. -/
theorem State.deleteWheel_eq (s : State) (w : Nat) :
    ∃ ws tags, s.deleteWheel w = { s with wheels := ws, tags := tags } ∧ ws ⊆ s.wheels := by
  unfold State.deleteWheel
  split
  · exact ⟨s.wheels, s.tags, rfl, List.Subset.refl _⟩
  · exact ⟨_, _, rfl, List.filter_subset_self _⟩

/-- A write keeps the law of the Table Store. -/
theorem Writes.storeLaw {g : Scope} {t : State} (h : Writes g s t) (law : s.StoreLaw) : t.StoreLaw := by
  induction h with
  | refl => exact law
  | slot _ c e ih => exact { ih with slots := State.setSlot_form c e ih.slots }
  | noSlots _ ih => exact { ih with slots := ⟨rfl, by simp⟩ }
  | wheel _ w f hf _ ih => exact ih.changeWheel w fun x => (hf x).1
  | wheelClass _ w n _ ih => exact ih.changeWheel w fun _ => rfl
  | create _ w x hw hfree htag hnew _ _ ih => exact ih.createWheel hw (hfree ih) htag hnew
  | delete _ w ih => exact ih.deleteWheel w
  | findings _ l hl ih => exact { ih with discrepancies := hl ih.discrepancies }
  | humidity _ _ _ _ ih | port _ _ _ _ ih | free _ _ _ _ _ _ _ _ ih | clock _ _ _ ih | memory _ _ _ _ ih | config _ _ _ _ _ _ _ ih =>
    exact { ih with }

theorem State.StoreLaw.loseRetention : s.loseRetention.StoreLaw :=
  { slots := ⟨rfl, by simp [State.loseRetention]⟩, wheels := ⟨rfl, by simp [State.loseRetention]⟩, tags := rfl
    index := by simp [State.loseRetention, State.wheel, Table.find]
    discrepancies := Nat.zero_le _ }

theorem State.wheel_restarted (i : StartInputs) (w : Nat) : (s.restarted i).wheel w = (s.wheel w).map Wheel.restart :=
  Table.find_map _ _ _

theorem State.StoreLaw.restarted (law : s.StoreLaw) (i : StartInputs) : (s.restarted i).StoreLaw := by
  refine { law with slots := ?_, wheels := ⟨?_, ?_⟩, index := fun k w => ?_ }
  · simp only [State.restarted]
    split
    · exact ⟨rfl, by simp⟩
    · exact law.slots
  · have hkeys : (s.restarted i).wheels.map Prod.fst = s.wheels.map Prod.fst := by simp [State.restarted, Function.comp_def]
    rw [Table.canonical_iff, hkeys, ← Table.canonical_iff]
    exact law.wheels.1
  · intro e he
    obtain ⟨d, hd, rfl⟩ := List.mem_map.1 he
    exact law.wheels.2 d hd
  · rw [State.wheel_restarted]
    refine (law.index k w).trans ?_
    simp [Wheel.restart]

end

/-- Settles O55: each write a command makes keeps the law, and so does what a start makes of the tables. -/
theorem stepsKeepTheStore : Obligations.StepsKeepTheStore := fun _ _ law hstep =>
  step_keeps (P := State.StoreLaw) (fun _ _ h => { h with }) (fun h => h.storeLaw) (fun _ _ => State.StoreLaw.loseRetention)
    (fun _ i h => h.restarted i) law hstep

/-! ## The law of the configuration -/

section
variable {s : State}

theorem State.ConfigLaw.changeWheel (law : s.ConfigLaw) (w : Nat) {f : Wheel → Wheel}
    (hf : ∀ x, s.config.classes[x.cls].valid = true → s.config.classes[(f x).cls].valid = true) : (s.changeWheel w f).ConfigLaw := by
  refine { law with valid := fun e he => ?_ }
  obtain ⟨d, hd, _, hval⟩ := Table.mem_change he
  obtain ⟨k, x⟩ := e
  rcases hval with rfl | rfl
  · exact law.valid d hd
  · exact hf _ (law.valid d hd)

/-- A write keeps the law of the configuration. -/
theorem Writes.configLaw {g : Scope} {t : State} (h : Writes g s t) (law : s.ConfigLaw) : t.ConfigLaw := by
  induction h with
  | refl => exact law
  | @wheel u _ w f hf _ ih => exact ih.changeWheel w fun x hx => (congrArg (fun n => u.config.classes[n].valid) (hf x).2).trans hx
  | wheelClass _ w n hn ih => exact ih.changeWheel w fun _ _ => hn
  | create _ w x _ _ _ _ hx _ ih =>
    refine { ih with valid := fun e he => ?_ }
    rcases Table.mem_put he with rfl | he
    · exact hx
    · exact ih.valid e he
  | @delete u _ w ih =>
    obtain ⟨ws, tags, hdel, hsub⟩ := u.deleteWheel_eq w
    rw [hdel]
    exact { ih with valid := fun e he => ih.valid e (hsub he) }
  | memory _ _ _ hm ih => exact { ih with image := (hm ih).1, saving := (hm ih).2 }
  | config _ _ _ _ _ _ hc ih => exact hc ih
  | slot _ _ _ ih | noSlots _ ih | findings _ _ _ ih | humidity _ _ _ _ ih | port _ _ _ _ ih | free _ _ _ _ _ _ _ _ ih
  | clock _ _ _ ih => exact { ih with }

theorem Configuration.default_fits : Configuration.default.Fits := by
  refine ⟨by decide, by decide, by decide, fun n => ?_, by decide, by decide, by decide, fun z => ?_⟩
  · simp only [Configuration.default, Vector.getElem_replicate, Fin.getElem_fin]
    exact ⟨by decide, by decide, by decide, by decide, by decide⟩
  · simp only [Configuration.default, Vector.getElem_replicate, Fin.getElem_fin]
    exact ⟨by decide, by decide⟩

theorem State.ConfigLaw.loaded (law : s.ConfigLaw) (i : StartInputs) : (s.loaded i).Fits := by
  unfold State.loaded
  split
  · exact law.image
  · exact Configuration.default_fits

theorem State.ConfigLaw.loseRetention (law : s.ConfigLaw) : s.loseRetention.ConfigLaw :=
  { law with valid := by simp [State.loseRetention] }

/-- R2, R39, R42: a start settles geometry and classes within their ranges, and every wheel keeps its class. -/
theorem State.ConfigLaw.restarted (law : s.ConfigLaw) (i : StartInputs) : (s.restarted i).ConfigLaw := by
  have hloaded := law.loaded i
  have hgeometry : s.settledGeometry i = (s.loaded i).geometry ∨ s.settledGeometry i = s.config.geometry := by
    unfold State.settledGeometry
    split
    · exact .inl rfl
    · exact .inr law.geometry
  have hclass : ∀ n : Fin 16, (s.settledClasses i)[n] =
      if ∃ e ∈ s.wheels, e.2.cls = n then s.config.classes[n] else (s.loaded i).classes[n] := fun n => by
    simp [State.settledClasses, law.profiles]
  refine { working := { hloaded with aisles := ?_, boards := ?_, quarantine := ?_, classes := fun n => ?_ }
           image := law.image, saving := by simp [State.restarted], geometry := rfl, profiles := rfl, valid := fun e he => ?_ }
  · rcases hgeometry with h | h <;> simp only [State.restarted, h]
    · exact hloaded.aisles
    · exact law.working.aisles
  · rcases hgeometry with h | h <;> simp only [State.restarted, h]
    · exact hloaded.boards
    · exact law.working.boards
  · rcases hgeometry with h | h <;> simp only [State.restarted, h]
    · exact hloaded.quarantine
    · exact law.working.quarantine
  · simp only [State.restarted, hclass]
    split
    · exact law.working.classes n
    · exact hloaded.classes n
  · obtain ⟨d, hd, rfl⟩ := List.mem_map.1 he
    have hheld : (s.settledClasses i)[d.2.cls] = s.config.classes[d.2.cls] := by rw [hclass, if_pos ⟨d, hd, rfl⟩]
    exact (congrArg CareClass.valid hheld).trans (law.valid d hd)

end

/-- Settles O57: each write a command makes keeps the law, and so does what a start loads and settles. -/
theorem stepsKeepTheConfiguration : Obligations.StepsKeepTheConfiguration := fun _ _ law hstep =>
  step_keeps (P := State.ConfigLaw) (fun _ _ h => { h with }) (fun h => h.configLaw) (fun _ h => h.loseRetention)
    (fun _ i h => h.restarted i) law hstep

/-! ## The laws of the ports and of humidity -/

section
variable {s : State}

theorem Writes.portLaw {g : Scope} {t : State} (h : Writes g s t) (law : s.PortLaw) : t.PortLaw := by
  induction h with
  | refl => exact law
  | @port u _ p r hr ih =>
    intro q
    rw [State.port_setPort]
    split
    · next hq => subst hq; exact hr (ih q)
    · exact ih q
  | @delete u _ w ih =>
    obtain ⟨ws, tags, hdel, _⟩ := u.deleteWheel_eq w
    rw [hdel]
    exact ih
  | slot _ _ _ ih | noSlots _ ih | wheel _ _ _ _ _ ih | wheelClass _ _ _ _ ih | create _ _ _ _ _ _ _ _ _ ih | findings _ _ _ ih
  | humidity _ _ _ _ ih | free _ _ _ _ _ _ _ _ ih | clock _ _ _ ih | memory _ _ _ _ ih | config _ _ _ _ _ _ _ ih => exact ih

theorem Writes.humidityLaw {g : Scope} {t : State} (h : Writes g s t) (law : s.HumidityLaw) : t.HumidityLaw := by
  induction h with
  | refl => exact law
  | humidity _ _ _ hl ih => exact hl ih
  | @delete u _ w ih =>
    obtain ⟨ws, tags, hdel, _⟩ := u.deleteWheel_eq w
    rw [hdel]
    exact { ih with }
  | slot _ _ _ ih | noSlots _ ih | wheel _ _ _ _ _ ih | wheelClass _ _ _ _ ih | create _ _ _ _ _ _ _ _ _ ih | findings _ _ _ ih
  | port _ _ _ _ ih | free _ _ _ _ _ _ _ _ ih | clock _ _ _ ih | memory _ _ _ _ ih | config _ _ _ _ _ _ _ ih => exact { ih with }

theorem PortRecord.Law.initial (p : Port) (b : Baud) : (PortRecord.initial p b).Law p :=
  ⟨by simp [PortRecord.initial], by simp [PortRecord.initial], List.nil_sublist _, List.Sublist.refl _⟩

theorem Zone.Law.initial : Zone.initial.Law :=
  ⟨by simp [Zone.initial], by simp [Zone.initial], by decide, by decide, by decide, trivial⟩

theorem State.PortLaw.restarted (i : StartInputs) : (s.restarted i).PortLaw := by
  intro p
  cases p <;> exact PortRecord.Law.initial _ _

theorem State.HumidityLaw.restarted (i : StartInputs) : (s.restarted i).HumidityLaw := by
  refine ⟨fun z => ?_, fun h => ?_, by simp [State.restarted]⟩
  · have hz : (s.restarted i).zone z = Zone.initial := by simp [State.restarted, State.zone]
    rw [hz]
    exact Zone.Law.initial
  · simp only [State.restarted, Fin.getElem_fin, Vector.getElem_ofFn]
    exact ⟨Nat.zero_le _, by simp⟩

end

/-- Settles O58: each write a command makes keeps both laws; a start makes ports, zones and heads anew. -/
theorem stepsKeepPortsAndHumidity : Obligations.StepsKeepPortsAndHumidity :=
  ⟨fun _ _ law hstep => step_keeps (P := State.PortLaw) (fun _ _ h => h) (fun h => h.portLaw) (fun _ h => h)
      (fun _ i _ => State.PortLaw.restarted i) law hstep,
    fun _ _ law hstep => step_keeps (P := State.HumidityLaw) (fun _ _ h => { h with }) (fun h => h.humidityLaw) (fun _ h => { h with })
      (fun _ i _ => State.HumidityLaw.restarted i) law hstep⟩

end Sys2Proof.Machine

namespace Sys2Proof.Machine

set_option Elab.async false

/-! ## What writes leave alone -/

/-- No write touches the queue, and the registers outside its scope stay. -/
theorem Writes.frame {g : Scope} {s t : State} (h : Writes g s t) :
    t.pending = s.pending ∧ (g.clock = false → t.clock = s.clock) ∧ (g.memory = false → t.memory = s.memory) ∧
      (g.config = false → t.config = s.config) := by
  induction h with
  | refl => exact ⟨rfl, fun _ => rfl, fun _ => rfl, fun _ => rfl⟩
  | @delete u _ w ih =>
    obtain ⟨ws, tags, hdel, _⟩ := u.deleteWheel_eq w
    rw [hdel]
    exact ih
  | clock _ hg _ ih => exact ⟨ih.1, by simp [hg], ih.2.2⟩
  | memory _ hg _ _ ih => exact ⟨ih.1, ih.2.1, by simp [hg], ih.2.2.2⟩
  | config _ hg _ _ _ _ _ ih => exact ⟨ih.1, ih.2.1, ih.2.2.1, by simp [hg]⟩
  | slot _ _ _ ih | noSlots _ ih | wheel _ _ _ _ _ ih | wheelClass _ _ _ _ ih | create _ _ _ _ _ _ _ _ _ ih | findings _ _ _ ih
  | humidity _ _ _ _ ih | port _ _ _ _ ih | free _ _ _ _ _ _ _ _ ih => exact ih

/-- A start leaves the queue alone, and with retention kept the clock. -/
theorem State.start_frame (s : State) (i : StartInputs) (lost : Bool) :
    (s.start i lost).pending = s.pending ∧ (lost = false → (s.start i lost).clock = s.clock) := by
  obtain ⟨hpending, hclock, _⟩ := (start_writes ⟨false, false, false⟩ s i lost).frame
  refine ⟨hpending.trans ?_, fun hl => (hclock rfl).trans ?_⟩
  · cases lost <;> rfl
  · rw [hl]; rfl

/-- Settles O1: it is how `step` is defined. -/
theorem stepRunsTheFrontCommand : Obligations.StepRunsTheFrontCommand := fun _ _ _ => rfl

/-- Settles O2: every command answers the state its writes reach, or that of a start; neither touches the queue. -/
theorem commandsCompleteAndKeepTheQueue : Obligations.CommandsCompleteAndKeepTheQueue := by
  intro c s
  by_cases hc : scopeOf c = ⟨true, true, true⟩
  · obtain ⟨t, ht, rfl | ⟨i, lost, rfl⟩⟩ := exec_starts hc s
    · exact ⟨t, ht, rfl⟩
    · exact ⟨_, ht, (s.start_frame i lost).1⟩
  · obtain ⟨t, ht, hw⟩ := exec_writes hc s
    exact ⟨t, ht, hw.frame.1⟩

/-- The commands whose scope holds the clock, the Configuration Memory, the working configuration. -/
theorem scopeOf_clock {c : Instr} (hset : ∀ f m, c ≠ .setClock f m) (hminute : c ≠ .minuteEvent) (hc : scopeOf c ≠ ⟨true, true, true⟩) :
    (scopeOf c).clock = false := by
  cases c <;> simp_all [scopeOf]

theorem scopeOf_memory {c : Instr} (hsave : ∀ f, c ≠ .saveConfig f) (hdone : ∀ b, c ≠ .saveComplete b) (hfail : c ≠ .mainSupplyFail)
    (hc : scopeOf c ≠ ⟨true, true, true⟩) : (scopeOf c).memory = false := by
  cases c <;> simp_all [scopeOf]

theorem scopeOf_config {c : Instr} (hwrite : ∀ f, c.request ≠ some (.writeConfig, f)) (hlimits : ∀ f, c.request ≠ some (.setZoneLimits, f))
    (hc : scopeOf c ≠ ⟨true, true, true⟩) : (scopeOf c).config = false := by
  cases c <;> simp_all [scopeOf, Instr.request]

/-- Settles O5: each command writes within its scope; RESET_LINE starts with the clock kept. -/
theorem onlyTheirCommandsChangeClockAndConfiguration : Obligations.OnlyTheirCommandsChangeClockAndConfiguration := by
  intro c s t ht hreturn
  by_cases hc : scopeOf c = ⟨true, true, true⟩
  · obtain ⟨i, rfl⟩ | ⟨i, rfl⟩ := scopeOf_all hc
    · exact absurd rfl (hreturn i)
    · cases ht
      exact ⟨fun _ _ => State.whenRunning_cases (P := fun v => v.clock = s.clock) rfl ((s.start_frame i false).2 rfl),
        fun _ _ _ hreset => absurd rfl (hreset i), fun _ _ hreset => absurd rfl (hreset i)⟩
  · obtain ⟨v, hv, hw⟩ := exec_writes hc s
    rw [hv] at ht
    cases ht
    obtain ⟨_, hclock, hmemory, hconfig⟩ := hw.frame
    exact ⟨fun hset hminute => hclock (scopeOf_clock hset hminute hc), fun hsave hdone hfail _ => hmemory (scopeOf_memory hsave hdone hfail hc),
      fun hwrite hlimits _ => hconfig (scopeOf_config hwrite hlimits hc)⟩

end Sys2Proof.Machine

namespace Sys2Proof.Machine

set_option Elab.async false

/-! ## What a start makes of the state -/

theorem State.pollNext_nil (s : State) : s.pollNext [] = s.endLoopPass := rfl

/-- R156, R157: a head that is not OFF is polled and its window opened. -/
theorem State.pollNext_cons {s : State} {h : Fin 24} (hon : (s.loop.heads[h]).state ≠ .off) (rest : List (Fin 24)) :
    s.pollNext (h :: rest) = { s with loop := { s.loop with pass := some ⟨h, none, rest⟩, lastPoll := some (pollBytes h) } } := by
  rw [State.pollNext, if_neg hon]

/-- The start notices, in the order of the management port's table (R185, R191). -/
def startSet (lost defaulted : Bool) : List Notice :=
  [.restarted] ++ (if lost then [.inventoryLost] else []) ++ (if defaulted then [.configDefaulted] else []) ++
    if lost then [.clockUnset] else []

theorem State.startNotices_eq {s : State} (hnone : s.ports.management.notices = []) (lost defaulted : Bool) :
    s.startNotices lost defaulted =
      { s with ports := { s.ports with management := { s.ports.management with notices := startSet lost defaulted } } } := by
  have hset : ∀ ns, s.setPort .management { s.ports.management with notices := ns } =
      { s with ports := { s.ports with management := { s.ports.management with notices := ns } } } := fun _ => rfl
  have hplace : ∀ ns n, State.raise { s with ports := { s.ports with management := { s.ports.management with notices := ns } } } .management n =
      { s with ports := { s.ports with management := { s.ports.management with notices := placeNotice .management n ns } } } := fun _ _ => rfl
  have hfirst : s.raise .management .restarted =
      { s with ports := { s.ports with management := { s.ports.management with notices := placeNotice .management .restarted [] } } } := by
    rw [← hnone]; rfl
  unfold State.startNotices
  cases lost <;> cases defaulted <;> simp only [State.raiseIf, hfirst, hplace] <;> rfl

/-- The state of a start as its first loop pass begins. -/
def State.started (s : State) (i : StartInputs) (lost : Bool) : State :=
  let u := (s.kept lost).restarted i
  { u with
    supply := { s.supply with state := .running, intact := true }
    ports := { u.ports with management := { u.ports.management with notices := startSet lost (!s.storeValid i.imageCrc) } } }

section
variable (s : State) (i : StartInputs) (lost : Bool)

theorem State.started_head (h : Fin 24) : ((s.started i lost).loop.heads[h]) =
    ⟨if (((s.kept lost).loaded i).sensor.assignment[h]).isSome then .probing else .off, 0, none⟩ := by
  simp [State.started, State.restarted]

/-- No reading stands at a start: a pass over no heads hands on nothing but zeros. -/
theorem State.started_zoneReadings (z : ZoneNumber) : (s.started i lost).zoneReadings z = ⟨0, 0⟩ := by
  have hnone : ((List.finRange 24).filterMap fun h =>
      if (s.started i lost).config.sensor.assignment[h] = some z then ((s.started i lost).loop.heads[h]).reading else none) = [] := by
    rw [List.filterMap_eq_nil_iff]
    intro h _
    rw [State.started_head]
    split <;> rfl
  unfold State.zoneReadings
  rw [hnone]
  rfl

theorem State.start_eq_pollNext : s.start i lost =
    (s.started i lost).pollNext ((List.finRange 24).filter fun h => (((s.kept lost).loaded i).sensor.assignment[h]).isSome) := by
  have hheads : (s.started i lost).loop.heads.map (fun x => { x with reading := none }) = (s.started i lost).loop.heads := by
    ext j hj
    have hj' := s.started_head i lost ⟨j, hj⟩
    simp only [Fin.getElem_fin] at hj'
    rw [Vector.getElem_map, hj']
  have hkept : (s.kept lost).supply = s.supply := by cases lost <;> rfl
  have hbegin : s.start i lost = State.beginLoopPass (s.started i lost) := by
    rw [State.start_eq, State.startNotices_eq rfl]
    simp only [State.started, State.restarted, hkept]
  rw [hbegin]
  unfold State.beginLoopPass
  rw [hheads]
  rfl

/-- R157: with a head assigned, the lowest is polled. -/
theorem State.start_polls {h : Fin 24} {rest : List (Fin 24)}
    (hlist : ((List.finRange 24).filter fun h => (((s.kept lost).loaded i).sensor.assignment[h]).isSome) = h :: rest) :
    s.start i lost = { s.started i lost with
      loop := { (s.started i lost).loop with pass := some ⟨h, none, rest⟩, lastPoll := some (pollBytes h) } } := by
  have hassigned : (((s.kept lost).loaded i).sensor.assignment[h]).isSome = true := by
    have hmem : h ∈ (List.finRange 24).filter fun h => (((s.kept lost).loaded i).sensor.assignment[h]).isSome :=
      hlist ▸ List.mem_cons_self
    exact (List.mem_filter.1 hmem).2
  rw [State.start_eq_pollNext, hlist, State.pollNext_cons]
  rw [State.started_head, if_pos hassigned]
  exact nofun

/-- R157, R160: with none assigned, the pass ends and is handed on at once. -/
theorem State.start_hands_on
    (hlist : ((List.finRange 24).filter fun h => (((s.kept lost).loaded i).sensor.assignment[h]).isSome) = []) :
    s.start i lost = { s.started i lost with
      loop := { (s.started i lost).loop with handed := [Vector.replicate 8 ⟨0, 0⟩] }
      arbiter := ⟨.sweep, 0, [.zoneUpdate]⟩ } := by
  have hzeros : (Vector.ofFn (s.started i lost).zoneReadings : Vector ZoneReadings 8) = Vector.replicate 8 ⟨0, 0⟩ := by
    ext j hj
    all_goals simp [State.started_zoneReadings]
  rw [State.start_eq_pollNext, hlist, State.pollNext_nil]
  unfold State.endLoopPass
  rw [hzeros]
  rfl

end

/-- The two commands that start the part, by what they find. -/
theorem exec_start {s : State} {i : StartInputs} {c : Instr} {lost : Bool}
    (h : (s.supply.state = .retention ∧ c = .mainSupplyReturn i ∧ lost = !s.supply.intact) ∨
      (s.supply.state = .running ∧ c = .resetLine i ∧ lost = false)) : exec c s = .next (s.start i lost) := by
  rcases h with ⟨hs, rfl, rfl⟩ | ⟨hs, rfl, rfl⟩
  · show Host.Outcome.next _ = _
    rw [hs]
  · show Host.Outcome.next (s.whenRunning _) = _
    rw [State.whenRunning, hs]

/-- What a start leaves: `State.started` but for the Sensor Loop's pass and the arbiter's asks. -/
theorem State.start_pass (s : State) (i : StartInputs) (lost : Bool) : ∃ l a,
    s.start i lost = { s.started i lost with loop := l, arbiter := a } ∧
    l = { l with timer := 0, startsDue := 0, heads := (s.started i lost).loop.heads } ∧ a = ⟨.sweep, 0, a.asked⟩ ∧
    (∀ h rest, ((List.finRange 24).filter fun h => (((s.kept lost).loaded i).sensor.assignment[h]).isSome) = h :: rest →
      l.pass = some ⟨h, none, rest⟩ ∧ l.handed = [] ∧ a.asked = [] ∧ l.lastPoll = some (pollBytes h)) ∧
    ((∀ h : Fin 24, (((s.kept lost).loaded i).sensor.assignment[h]).isSome = false) →
      l.pass = none ∧ l.lastPoll = none ∧ a.asked = [.zoneUpdate] ∧ l.handed = [Vector.replicate 8 ⟨0, 0⟩]) := by
  rcases hlist : (List.finRange 24).filter fun h => (((s.kept lost).loaded i).sensor.assignment[h]).isSome with _ | ⟨a, list⟩
  · refine ⟨_, _, s.start_hands_on i lost hlist, rfl, rfl, fun h rest hcons => ?_, fun _ => ⟨rfl, rfl, rfl, rfl⟩⟩
    rw [hlist] at hcons
    cases hcons
  · refine ⟨_, _, s.start_polls i lost hlist, rfl, rfl, ?_, fun hnone => ?_⟩
    · intro h rest hcons
      rw [hlist] at hcons
      cases hcons
      exact ⟨rfl, rfl, rfl, rfl⟩
    · have hempty : ((List.finRange 24).filter fun h => (((s.kept lost).loaded i).sensor.assignment[h]).isSome) = [] := by
        simpa [List.filter_eq_nil_iff] using hnone
      rw [hempty] at hlist
      cases hlist

theorem State.kept_loaded (s : State) (i : StartInputs) (lost : Bool) : (s.kept lost).loaded i = s.loaded i := by cases lost <;> rfl

theorem startSet_eq (lost stored : Bool) : startSet lost (!stored) =
    [.restarted] ++ (if lost then [.inventoryLost] else []) ++ (if stored then [] else [.configDefaulted]) ++
      if lost then [.clockUnset] else [] := by cases lost <;> cases stored <;> rfl

/-- Settles O53: the start's state is `State.started`, on which the first pass polls a head or hands on zeros. -/
theorem startsClassifyLoadAndReset : Obligations.StartsClassifyLoadAndReset := by
  intro s i c lost h
  refine ⟨_, exec_start h, ?_⟩
  obtain ⟨l, a, hstart, hl, ha, hpolls, hnone⟩ := s.start_pass i lost
  rw [State.kept_loaded] at hpolls hnone
  rw [hstart]
  refine ⟨?_, hpolls, hnone⟩
  have hheads : (s.started i lost).loop.heads =
      Vector.ofFn fun h : Fin 24 => ⟨if ((s.loaded i).sensor.assignment[h]).isSome = true then HeadState.probing else .off, 0, none⟩ := by
    rw [← s.kept_loaded i lost]; rfl
  rw [hheads] at hl
  have hset := startSet_eq lost (s.storeValid i.imageCrc)
  clear hstart hpolls hnone hheads
  rw [State.mk.injEq]
  unfold State.started
  rw [hset]
  cases lost
  · refine ⟨rfl, rfl, ?_, rfl, rfl, rfl, rfl, rfl, rfl, rfl, rfl, rfl, rfl, hl, rfl, rfl, rfl, rfl, ha, rfl⟩
    simp [State.kept, State.restarted, State.loaded, State.storeValid]
  · refine ⟨rfl, rfl, ?_, rfl, rfl, rfl, rfl, rfl, rfl, rfl, rfl, rfl, rfl, hl, rfl, rfl, rfl, rfl, ha, rfl⟩
    simp [State.kept, State.restarted, State.loseRetention]

/-! ## Reset -/

/-- R190, R191: the first power-on start finds retention lost and no valid store; it leaves the state of `State.reset`. -/
theorem start_first (s : State) (hsupply : s.supply = ⟨.retention, false, false⟩) (hmemory : s.memory = State.reset.memory)
    (hpending : s.pending = []) : s.start ⟨false, false, false, false⟩ true = State.reset := by
  have hloaded : (s.kept true).loaded ⟨false, false, false, false⟩ = Configuration.default := by
    simp [State.loaded, State.storeValid]
  have hinvalid : ∀ u : State, u.storeValid false = false := fun u => by simp [State.storeValid]
  have hwheels : (s.kept true).wheels = [] := rfl
  have hgeometry : (s.kept true).settledGeometry ⟨false, false, false, false⟩ = Geometry.default := by
    rw [State.settledGeometry, if_pos hwheels, hloaded]; rfl
  have hclasses : (s.kept true).settledClasses ⟨false, false, false, false⟩ = Vector.replicate 16 CareClass.default := by
    ext1 n hn
    simp [State.settledClasses, hwheels, hloaded, Configuration.default]
  have hheads : (Vector.ofFn fun h : Fin 24 => (⟨if (((s.kept true).loaded ⟨false, false, false, false⟩).sensor.assignment[h]).isSome
      then .probing else .off, 0, none⟩ : Head)) = Vector.replicate 24 ⟨.off, 0, none⟩ := by
    ext1 n hn
    simp [hloaded, Configuration.default]
  have hslots : ((s.kept true).restarted ⟨false, false, false, false⟩).slots = [] := by
    simp [State.restarted, State.kept, State.loseRetention]
  rw [State.start_hands_on]
  · rw [State.mk.injEq]
    unfold State.started
    refine ⟨rfl, by rw [hsupply]; rfl, hslots, rfl, rfl, rfl, rfl, hgeometry, hclasses, rfl, rfl, rfl, rfl, ?_, rfl, ?_, ?_, ?_, rfl, hpending⟩
    · rw [State.restarted, hheads]; rfl
    · rw [State.restarted, hgeometry, hclasses, hloaded]; rfl
    · show ({ (s.kept true).memory with source := _, saving := _, lastSave := _ } : ConfigMemory) = _
      rw [show (s.kept true).memory = State.reset.memory from hmemory, hinvalid]
      rfl
    · rw [hinvalid]
      rfl
  · rw [hloaded]
    simp [Configuration.default]

theorem State.reset_wheel (w : Nat) : State.reset.wheel w = none := rfl

theorem State.reset_slot (c : Coord) : State.reset.slot c = .empty := rfl

theorem State.reset_zone (z : ZoneNumber) : State.reset.zone z = Zone.initial := by simp [State.reset, State.zone]

theorem State.reset_taskLaw : State.reset.TaskLaw := by
  refine ⟨List.nodup_nil, by simp [State.reset], ⟨List.Pairwise.nil, by simp [State.reset]⟩, by decide, by decide, by decide, fun _ => ?_⟩
  exact ⟨rfl, rfl, rfl, fun z => by rw [State.reset_zone]; rfl⟩

theorem State.reset_configLaw : State.reset.ConfigLaw :=
  ⟨Configuration.default_fits, Configuration.default_fits, by simp [State.reset], rfl, rfl, by simp [State.reset]⟩

theorem State.reset_portLaw : State.reset.PortLaw := by
  intro p
  cases p
  · exact ⟨by decide, by decide, by decide, by decide⟩
  · exact PortRecord.Law.initial _ _
  · exact PortRecord.Law.initial _ _

theorem State.reset_humidityLaw : State.reset.HumidityLaw := by
  refine ⟨fun z => ?_, fun h => ?_, ?_⟩
  · rw [State.reset_zone]
    exact Zone.Law.initial
  · simp only [State.reset, Fin.getElem_fin, Vector.getElem_replicate]
    exact ⟨Nat.zero_le _, by simp⟩
  · simp [State.reset]

theorem State.reset_inventoryLaw : State.reset.InventoryLaw := by
  constructor <;> simp [State.reset_wheel, State.reset_slot] <;> simp [State.reset]

/-- Settles O54: the first start leaves the state of reset, in which no wheel, slot or task stands. -/
theorem resetIsTheFirstStart : Obligations.ResetIsTheFirstStart := by
  refine ⟨fun s hsupply hmemory hpending => ?_, State.StoreLaw.loseRetention (s := State.reset), State.reset_taskLaw, State.reset_configLaw,
    State.reset_portLaw, State.reset_humidityLaw, State.reset_inventoryLaw, fun w x hw => by simp [State.reset_wheel] at hw⟩
  have hstart := start_first s hsupply hmemory hpending
  rw [exec_start (lost := true) (.inl ⟨by rw [hsupply], rfl, by rw [hsupply]; rfl⟩), hstart]

end Sys2Proof.Machine

namespace Sys2Proof.Machine

set_option Elab.async false

/-! ## The effect of a command in its grant -/

/-- Two states that hold the same wheels, slots, tasks, link, zones and configuration. -/
structure Alike (s t : State) : Prop where
  slots : t.slots = s.slots := by rfl
  wheels : t.wheels = s.wheels := by rfl
  tags : t.tags = s.tags := by rfl
  tasks : t.tasks = s.tasks := by rfl
  dispatch : t.dispatch = s.dispatch := by rfl
  link : t.link = s.link := by rfl
  zones : t.zones = s.zones := by rfl
  config : t.config = s.config := by rfl

@[simp] theorem accept_fst (s : State) (b : Body) : (accept s b).1 = s := rfl

@[simp] theorem refuse_fst (s : State) (c : ResultCode) : (refuse s c).1 = s := rfl

/-- What a command makes of wheels, slots, tasks, link, zones and configuration in its grant. The commands not listed make nothing of
them, or start the part. -/
def effectOf (c : Instr) (s : State) : State :=
  match c with
  | .ready _ k p r => (serveReady k p r s).1
  | .take _ => (serveTake s).1
  | .homed _ => (serveHomed s).1
  | .arrived _ r tag => (serveArrived r tag s).1
  | .picked _ r => (servePicked r s).1
  | .slotRead _ r n tag => (serveSlotRead r n tag s).1
  | .doneReport _ r a b => (serveDone r a b s).1
  | .faultReport f k r => (serveFault f.form k r s).1
  | .slotBlocked f r => (serveFault f.form .slotBlocked r s).1
  | .setZoneLimits _ z l => (serveLimits z l s).1
  | .ackZone _ z => (serveAckZone z s).1
  | .startCapture _ z n => (serveStartCapture z n s).1
  | .stopCapture _ z => (serveStopCapture z s).1
  | .readCapture _ z n => (serveReadCapture z n s).1
  | .endExclusion _ z => (serveEndExclusion z s).1
  | .requestExclusion _ z m => (serveRequestExclusion z m s).1
  | .setSlotFault _ l p => (serveSetSlotFault l p s).1
  | .clearSlotFault _ l p => (serveClearSlotFault l p s).1
  | .setClass _ w n => (serveSetClass w n s).1
  | .holdWheel f w k => (serveHold f.form w k s).1
  | .release _ w => (serveRelease w s).1
  | .clearCareFault _ w => (serveClearCareFault w s).1
  | .bookIn _ tag b e n c q => (serveBookIn tag b e n c q s).1
  | .relocate _ a b c d => (serveRelocate a b c d s).1
  | .bookOut _ w => (serveBookOut w s).1
  | .cancelMove _ w => (serveCancelMove w s).1
  | .abortTask _ n => (serveAbortTask n s).1
  | .pauseDispatch _ => s.setPaused true
  | .resumeDispatch _ => s.setPaused false
  | .clearRobotHalt _ => (serveClearRobotHalt s).1
  | .requestSurvey _ l a b => (serveRequestSurvey l a b s).1
  | .resolveSlotConfirm f l p => (serveResolveSlotConfirm f.form l p s).1
  | .resolveSlotClear f l p => (serveResolveSlotClear f.form l p s).1
  | .resolveSlotAssign f l p tag => (serveResolveSlotAssign f.form l p tag s).1
  | .resolveWheelPlaceAt f w l p => (serveResolveWheelPlaceAt f.form w l p s).1
  | .resolveWheelDelete f w => (serveResolveWheelDelete f.form w s).1
  | .writeConfigGeometry f a l n q => (named f.form s (serveWriteGeometry a l n q s)).1
  | .writeConfigZoneMap f a zs => (named f.form s (serveWriteZoneMap a zs s)).1
  | .writeConfigCareClass f n x => (named f.form s (serveWriteCareClass n x s)).1
  | .writeConfigRobot f r => (named f.form s (serveWriteRobot r s)).1
  | .writeConfigSweep f p => (named f.form s (serveWriteSweep p s)).1
  | .writeConfigSensor f p hs => (named f.form s (serveWriteSensor p hs s)).1
  | .writeConfigZone f z l => (named f.form s (serveLimits z l s)).1
  | .minuteEvent => s.countMinute
  | .sweepVisit => s.sweepVisit
  | .taskDeadlineExpiry => s.expireTask
  | .homeOrderExpiry => s.expireHome
  | .exclusionEnding z => s.exclusionEnding z
  | .zoneUpdate => s.takeHanded
  | _ => s

section
variable {P : State → Prop} (halike : ∀ {s t}, P s → Alike s t → P t) {s : State}
include halike

theorem State.receive_keeps {f : Frame} {code : Nat} {permitted : Bool} {effect : State → State} (hs : P s)
    (heff : ∀ v, P v → P (effect v)) : P (s.receive f code permitted effect) :=
  State.receive_cases hs (halike hs {}) (fun _ => halike hs {})
    (heff _ (halike hs {}))

theorem State.request_keeps {f : Frame} {k : RequestKind} {effect : State → State × Reply} (hs : P s)
    (heff : ∀ v, P v → P (effect v).1) : P (s.request f k effect) :=
  State.receive_keeps halike hs fun v hv => halike (heff v hv) {}

/-- A loop pass begun or a head polled makes nothing of the rest. -/
theorem State.pollNext_keeps (list : List (Fin 24)) (hs : P s) : P (s.pollNext list) := by
  obtain ⟨l, a, h⟩ := s.pollNext_eq list
  exact by rw [h]; exact halike hs {}

/-- What the effect of every command keeps, and ports, arbiter and the clock do not touch, every command keeps that starts nothing. -/
theorem exec_keeps (heff : ∀ c v, P v → P (effectOf c v)) {c : Instr} (hc : scopeOf c ≠ ⟨true, true, true⟩) (hs : P s) :
    ∃ t, exec c s = .next t ∧ P t := by
  cases c with
  | setWindow f a b =>
    refine ⟨_, rfl, s.request_keeps halike hs fun v hv => ?_⟩
    unfold serveSetWindow
    split
    · split
      · exact halike hv {}
      · exact hv
    · exact hv
  | readNotices f => exact ⟨_, rfl, s.request_keeps halike hs fun v hv => halike hv {}⟩
  | setNoticeMask f flags =>
    refine ⟨_, rfl, s.request_keeps halike hs fun v hv => ?_⟩
    unfold serveSetNoticeMask
    split
    · exact halike hv {}
    · exact hv
  | listLevel f l =>
    refine ⟨_, rfl, s.request_keeps halike hs fun v hv => ?_⟩
    unfold serveListLevel
    split <;> exact hv
  | ready f k p r => exact ⟨_, rfl, s.request_keeps halike hs (heff (.ready f k p r))⟩
  | take f => exact ⟨_, rfl, s.request_keeps halike hs (heff (.take f))⟩
  | homed f => exact ⟨_, rfl, s.request_keeps halike hs (heff (.homed f))⟩
  | arrived f r tag => exact ⟨_, rfl, s.request_keeps halike hs (heff (.arrived f r tag))⟩
  | picked f r => exact ⟨_, rfl, s.request_keeps halike hs (heff (.picked f r))⟩
  | slotRead f r n tag => exact ⟨_, rfl, s.request_keeps halike hs (heff (.slotRead f r n tag))⟩
  | doneReport f r a b => exact ⟨_, rfl, s.request_keeps halike hs (heff (.doneReport f r a b))⟩
  | faultReport f k r => exact ⟨_, rfl, s.request_keeps halike hs (heff (.faultReport f k r))⟩
  | slotBlocked f r => exact ⟨_, rfl, s.request_keeps halike hs (heff (.slotBlocked f r))⟩
  | readHeads f => exact ⟨_, rfl, s.request_keeps halike hs fun v hv => hv⟩
  | setZoneLimits f z l => exact ⟨_, rfl, s.request_keeps halike hs (heff (.setZoneLimits f z l))⟩
  | ackZone f z => exact ⟨_, rfl, s.request_keeps halike hs (heff (.ackZone f z))⟩
  | readZone f z => exact ⟨_, rfl, s.request_keeps halike hs fun v hv => onZone_cases hv fun _ => hv⟩
  | startCapture f z n => exact ⟨_, rfl, s.request_keeps halike hs (heff (.startCapture f z n))⟩
  | stopCapture f z => exact ⟨_, rfl, s.request_keeps halike hs (heff (.stopCapture f z))⟩
  | readCapture f z n => exact ⟨_, rfl, s.request_keeps halike hs (heff (.readCapture f z n))⟩
  | endExclusion f z => exact ⟨_, rfl, s.request_keeps halike hs (heff (.endExclusion f z))⟩
  | readConfig f n =>
    refine ⟨_, rfl, s.receive_keeps halike hs fun v hv => halike (s := (serveReadConfig f.form n v).1) ?_ {}⟩
    refine named_cases hv ?_
    split <;> exact hv
  | requestExclusion f z m => exact ⟨_, rfl, s.request_keeps halike hs (heff (.requestExclusion f z m))⟩
  | setSlotFault f l p => exact ⟨_, rfl, s.request_keeps halike hs (heff (.setSlotFault f l p))⟩
  | clearSlotFault f l p => exact ⟨_, rfl, s.request_keeps halike hs (heff (.clearSlotFault f l p))⟩
  | setClock f m =>
    refine ⟨_, rfl, s.request_keeps halike hs fun v hv => ?_⟩
    unfold serveSetClock
    split
    · exact halike hv {}
    · exact hv
  | readStatus f => exact ⟨_, rfl, s.request_keeps halike hs fun v hv => hv⟩
  | readWheel f w => exact ⟨_, rfl, s.request_keeps halike hs fun v hv => State.onWheel_cases hv fun _ _ _ => hv⟩
  | findWheel f tag =>
    refine ⟨_, rfl, s.request_keeps halike hs fun v hv => ?_⟩
    unfold serveFindWheel
    split <;> exact hv
  | setClass f w n => exact ⟨_, rfl, s.request_keeps halike hs (heff (.setClass f w n))⟩
  | holdWheel f w k => exact ⟨_, rfl, s.request_keeps halike hs (heff (.holdWheel f w k))⟩
  | release f w => exact ⟨_, rfl, s.request_keeps halike hs (heff (.release f w))⟩
  | clearCareFault f w => exact ⟨_, rfl, s.request_keeps halike hs (heff (.clearCareFault f w))⟩
  | bookIn f tag b e c sl q => exact ⟨_, rfl, s.request_keeps halike hs (heff (.bookIn f tag b e c sl q))⟩
  | relocate f a b c d => exact ⟨_, rfl, s.request_keeps halike hs (heff (.relocate f a b c d))⟩
  | bookOut f w => exact ⟨_, rfl, s.request_keeps halike hs (heff (.bookOut f w))⟩
  | cancelMove f w => exact ⟨_, rfl, s.request_keeps halike hs (heff (.cancelMove f w))⟩
  | abortTask f n => exact ⟨_, rfl, s.request_keeps halike hs (heff (.abortTask f n))⟩
  | pauseDispatch f => exact ⟨_, rfl, s.request_keeps halike hs (heff (.pauseDispatch f))⟩
  | resumeDispatch f =>
    refine ⟨_, rfl, s.request_keeps halike hs fun v hv => halike (heff (.resumeDispatch f) v hv) ?_⟩
    simp only [effectOf, serveResumeDispatch, accept]
    constructor <;> simp
  | readTasks f n =>
    refine ⟨_, rfl, s.request_keeps halike hs fun v hv => ?_⟩
    unfold serveReadTasks
    split <;> exact hv
  | clearRobotHalt f => exact ⟨_, rfl, s.request_keeps halike hs (heff (.clearRobotHalt f))⟩
  | requestSurvey f l a b => exact ⟨_, rfl, s.request_keeps halike hs (heff (.requestSurvey f l a b))⟩
  | readDiscrepancy f =>
    refine ⟨_, rfl, s.request_keeps halike hs fun v hv => ?_⟩
    unfold serveReadDiscrepancy
    split
    · exact hv
    · exact halike hv {}
  | resolveSlotConfirm f l p => exact ⟨_, rfl, s.request_keeps halike hs (heff (.resolveSlotConfirm f l p))⟩
  | resolveSlotClear f l p => exact ⟨_, rfl, s.request_keeps halike hs (heff (.resolveSlotClear f l p))⟩
  | resolveSlotAssign f l p tag => exact ⟨_, rfl, s.request_keeps halike hs (heff (.resolveSlotAssign f l p tag))⟩
  | resolveWheelPlaceAt f w l p => exact ⟨_, rfl, s.request_keeps halike hs (heff (.resolveWheelPlaceAt f w l p))⟩
  | resolveWheelDelete f w => exact ⟨_, rfl, s.request_keeps halike hs (heff (.resolveWheelDelete f w))⟩
  | writeConfigGeometry f a l n q => exact ⟨_, rfl, s.request_keeps halike hs (heff (.writeConfigGeometry f a l n q))⟩
  | writeConfigZoneMap f a zs => exact ⟨_, rfl, s.request_keeps halike hs (heff (.writeConfigZoneMap f a zs))⟩
  | writeConfigCareClass f n c => exact ⟨_, rfl, s.request_keeps halike hs (heff (.writeConfigCareClass f n c))⟩
  | writeConfigRobot f r => exact ⟨_, rfl, s.request_keeps halike hs (heff (.writeConfigRobot f r))⟩
  | writeConfigSweep f p => exact ⟨_, rfl, s.request_keeps halike hs (heff (.writeConfigSweep f p))⟩
  | writeConfigSensor f p hs' => exact ⟨_, rfl, s.request_keeps halike hs (heff (.writeConfigSensor f p hs'))⟩
  | writeConfigZone f z l => exact ⟨_, rfl, s.request_keeps halike hs (heff (.writeConfigZone f z l))⟩
  | saveConfig f => exact ⟨_, rfl, s.receive_keeps halike hs fun v hv => halike hv {}⟩
  | saveComplete equal =>
    refine ⟨_, rfl, State.whenRunning_cases hs ?_⟩
    unfold State.completeSave
    split
    · exact hs
    · exact halike hs {}
  | frameDiscard p l rest =>
    refine ⟨_, rfl, State.whenRunning_cases hs ?_⟩
    split
    · exact hs
    · exact halike hs {}
  | interByteGap p b => exact ⟨_, rfl, State.whenRunning_cases hs (halike hs {})⟩
  | requestBusy p k => exact ⟨_, rfl, State.whenRunning_cases hs (halike hs {})⟩
  | minuteEvent => exact ⟨_, rfl, halike (State.whenRunning_cases hs (heff .minuteEvent s hs)) {}⟩
  | secondEvent => exact ⟨_, rfl, State.whenRunning_cases hs (halike hs {})⟩
  | sweepPeriodBoundary => exact ⟨_, rfl, State.whenRunning_cases hs (halike hs {})⟩
  | sweepVisit => exact ⟨_, rfl, State.whenRunning_cases hs (heff .sweepVisit s hs)⟩
  | taskDeadlineExpiry => exact ⟨_, rfl, State.whenRunning_cases hs (heff .taskDeadlineExpiry s hs)⟩
  | homeOrderExpiry => exact ⟨_, rfl, State.whenRunning_cases hs (heff .homeOrderExpiry s hs)⟩
  | exclusionEnding z => exact ⟨_, rfl, State.whenRunning_cases hs (heff (.exclusionEnding z) s hs)⟩
  | loopPassStart =>
    refine ⟨_, rfl, State.whenRunning_cases hs ?_⟩
    unfold State.takeLoopStart
    split
    · exact hs
    · exact State.pollNext_keeps halike _ (halike hs {})
  | loopReply b =>
    refine ⟨_, rfl, State.whenRunning_cases hs ?_⟩
    unfold State.receiveReply
    split
    · split
      · exact halike hs {}
      · exact hs
    · exact hs
  | replyWindowClose =>
    refine ⟨_, rfl, State.whenRunning_cases hs ?_⟩
    unfold State.closeWindow
    split
    · refine State.pollNext_keeps halike _ (halike hs ?_)
      unfold State.judgeHead
      constructor <;> simp
    · exact hs
  | zoneUpdate => exact ⟨_, rfl, State.whenRunning_cases hs (heff .zoneUpdate s hs)⟩
  | mainSupplyFail => exact ⟨_, rfl, State.whenRunning_cases hs (halike hs {})⟩
  | mainSupplyReturn i => exact absurd rfl hc
  | resetLine i => exact absurd rfl hc
  | batteryThreshold b => exact ⟨_, rfl, halike hs {}⟩
  | responseSent p => exact ⟨_, rfl, State.whenRunning_cases hs (halike hs {})⟩
  | unknownKindRequest f k => exact ⟨_, rfl, s.receive_keeps halike hs fun _ hv => hv⟩

/-- What effects keep and starts make, every step keeps. -/
theorem step_keeps_of_effects (heff : ∀ c v, P v → P (effectOf c v))
    (hrestarted : ∀ s i lost, P s → P ((s.kept lost).restarted i)) {t : State} (hs : P s) (hstep : step s = .next t) : P t := by
  unfold step at hstep
  split at hstep
  · cases hstep; exact hs
  · next c rest _ =>
    have hrest : P { s with pending := rest } := halike hs {}
    by_cases hc : scopeOf c = ⟨true, true, true⟩
    · obtain ⟨v, hv, rfl | ⟨i, lost, rfl⟩⟩ := exec_starts hc { s with pending := rest }
      · rw [hv] at hstep; cases hstep; exact hrest
      · rw [hv] at hstep; cases hstep
        obtain ⟨l, a, hstart, _⟩ := State.start_pass { s with pending := rest } i lost
        rw [hstart]
        exact halike (hrestarted _ i lost hrest) {}
    · obtain ⟨v, hv, hw⟩ := exec_keeps halike heff hc hrest
      rw [hv] at hstep; cases hstep; exact hw

end

end Sys2Proof.Machine

namespace Sys2Proof.Machine

set_option Elab.async false

/-! ## The task list's law: the list apart from the link -/

/-- What the task list's law says of the list alone. -/
structure State.ListLaw (s : State) : Prop where
  numbers : (s.tasks.map TaskRecord.number).Nodup
  shapes : ∀ t ∈ s.tasks, t.Shaped
  order : (s.tasks.map TaskRecord.sequence).Pairwise (· < ·) ∧ ∀ t ∈ s.tasks, t.sequence < s.dispatch.sequence
  room : s.tasks.length ≤ Config.listRoom ∧ s.careCount ≤ Config.careRoom ∧ s.nonCareCount ≤ Config.nonCareRoom
  oneOut : s.tasks.countP (fun t => !t.queued) ≤ 1

theorem State.TaskLaw.list {s : State} (law : s.TaskLaw) : s.ListLaw := { law with }

/-- `t` is reached from `s` by changes of the list that keep its law and leave alone whether a task is out, the link and the zones. -/
structure Relisted (s t : State) : Prop where
  list : s.ListLaw → t.ListLaw
  out : (∃ x ∈ t.tasks, x.queued = false) ↔ ∃ x ∈ s.tasks, x.queued = false
  link : t.link = s.link
  zones : t.zones = s.zones

theorem Relisted.trans {s t u : State} (h : Relisted s t) (g : Relisted t u) : Relisted s u :=
  ⟨fun law => g.list (h.list law), g.out.trans h.out, g.link.trans h.link, g.zones.trans h.zones⟩

theorem State.zone_congr {s t : State} (h : t.zones = s.zones) (z : ZoneNumber) : t.zone z = s.zone z := by simp only [State.zone, h]

theorem Relisted.taskLaw {s t : State} (h : Relisted s t) (law : s.TaskLaw) : t.TaskLaw := by
  refine { h.list law.list with working := ?_, idle := fun hl => ?_ }
  · rw [h.link, h.out]
    exact law.working
  · rw [h.link] at hl ⊢
    obtain ⟨hdeadline, hverified, htag, hzones⟩ := law.idle hl
    exact ⟨hdeadline, hverified, htag, fun z => by rw [State.zone_congr h.zones]; exact hzones z⟩

/-- A state whose list holds only QUEUED tasks and in which nothing belongs to a task that is out, whatever the link state. -/
structure State.Cleared (s : State) : Prop extends s.ListLaw where
  queued : ∀ t ∈ s.tasks, t.queued = true
  deadline : s.link.deadline = none
  verified : s.link.verified = false
  issuedTag : s.link.issuedTag = none
  presence : ∀ z : ZoneNumber, (s.zone z).presence = false

theorem State.TaskLaw.cleared {s : State} (law : s.TaskLaw) (hl : s.link.state ≠ .working) : s.Cleared := by
  obtain ⟨hdeadline, hverified, htag, hzones⟩ := law.idle hl
  refine { law.list with queued := fun t ht => ?_, deadline := hdeadline, verified := hverified, issuedTag := htag, presence := hzones }
  by_contra hq
  exact hl (law.working.2 ⟨t, ht, by simpa using hq⟩)

theorem State.Cleared.taskLaw {s : State} (h : s.Cleared) (hl : s.link.state ≠ .working) : s.TaskLaw := by
  refine { h.toListLaw with working := ⟨fun hw => absurd hw hl, ?_⟩, idle := fun _ => ⟨h.deadline, h.verified, h.issuedTag, h.presence⟩ }
  rintro ⟨t, ht, hq⟩
  rw [h.queued t ht] at hq
  cases hq

theorem State.ListLaw.congr {s t : State} (law : s.ListLaw) (htasks : t.tasks = s.tasks := by simp)
    (hdispatch : t.dispatch.sequence = s.dispatch.sequence := by simp) : t.ListLaw := by
  obtain ⟨hnumbers, hshapes, horder, hroom, hout⟩ := law
  unfold State.careCount State.nonCareCount at hroom
  constructor <;> simp only [State.careCount, State.nonCareCount, htasks, hdispatch] <;> assumption

/-- Updates of wheels, slots, ports and the like leave the list alone. -/
theorem Relisted.aside {s t : State} (htasks : t.tasks = s.tasks := by simp) (hdispatch : t.dispatch.sequence = s.dispatch.sequence := by simp)
    (hlink : t.link = s.link := by simp) (hzones : t.zones = s.zones := by simp) : Relisted s t :=
  ⟨fun law => law.congr htasks hdispatch, by rw [htasks], hlink, hzones⟩

/-- Changes of the link but for its state matter to a cleared state only where they set what belongs to the task that is out. -/
theorem State.Cleared.aside {s t : State} (h : s.Cleared) (htasks : t.tasks = s.tasks := by simp)
    (hdispatch : t.dispatch.sequence = s.dispatch.sequence := by simp) (hdeadline : t.link.deadline = s.link.deadline := by simp)
    (hverified : t.link.verified = s.link.verified := by simp) (htag : t.link.issuedTag = s.link.issuedTag := by simp)
    (hzones : ∀ z : ZoneNumber, (t.zone z).presence = (s.zone z).presence := by intro z; simp [State.zone]) : t.Cleared :=
  { h.toListLaw.congr htasks hdispatch with
    queued := by rw [htasks]; exact h.queued
    deadline := hdeadline.trans h.deadline, verified := hverified.trans h.verified, issuedTag := htag.trans h.issuedTag
    presence := fun z => (hzones z).trans (h.presence z) }

theorem Relisted.cleared {s t : State} (h : Relisted s t) (hs : s.Cleared) : t.Cleared := by
  refine { h.list hs.toListLaw with
    queued := fun x hx => ?_, deadline := ?_, verified := ?_, issuedTag := ?_, presence := fun z => ?_ }
  · by_contra hq
    obtain ⟨y, hy, hyq⟩ := h.out.1 ⟨x, hx, by simpa using hq⟩
    rw [hs.queued y hy] at hyq
    cases hyq
  · rw [h.link]; exact hs.deadline
  · rw [h.link]; exact hs.verified
  · rw [h.link]; exact hs.issuedTag
  · rw [State.zone_congr h.zones]; exact hs.presence z

/-- A law of a working link asks nothing of deadline, verify flag, issued tag and presence marks. -/
theorem State.TaskLaw.relink {s t : State} (law : s.TaskLaw) (hw : s.link.state = .working) (hstate : t.link.state = .working := by simp [*])
    (htasks : t.tasks = s.tasks := by simp) (hdispatch : t.dispatch.sequence = s.dispatch.sequence := by simp) : t.TaskLaw :=
  { law.list.congr htasks hdispatch with
    working := by rw [htasks]; exact ⟨fun _ => law.working.1 hw, fun _ => hstate⟩
    idle := fun hl => absurd hstate hl }

/-! ## Tasks that leave the list, and tasks rewritten in place -/

section
variable {s t : State}

theorem State.ListLaw.filter (law : s.ListLaw) (p : TaskRecord → Bool) (htasks : t.tasks = s.tasks.filter p)
    (hdispatch : t.dispatch.sequence = s.dispatch.sequence := by simp) : t.ListLaw := by
  have hsub : t.tasks.Sublist s.tasks := htasks ▸ List.filter_sublist
  have hcount : ∀ q, t.tasks.countP q ≤ s.tasks.countP q := fun q => hsub.countP_le
  refine ⟨law.numbers.sublist (hsub.map _), fun x hx => law.shapes x (hsub.subset hx),
    ⟨law.order.1.sublist (hsub.map _), fun x hx => ?_⟩, ⟨?_, ?_, ?_⟩, (hcount _).trans law.oneOut⟩
  · rw [hdispatch]
    exact law.order.2 x (hsub.subset hx)
  · exact hsub.length_le.trans law.room.1
  · exact (hcount _).trans law.room.2.1
  · exact (hcount _).trans law.room.2.2

theorem Relisted.filter (p : TaskRecord → Bool) (htasks : t.tasks = s.tasks.filter p) (hp : ∀ x ∈ s.tasks, x.queued = false → p x = true)
    (hdispatch : t.dispatch.sequence = s.dispatch.sequence := by simp) (hlink : t.link = s.link := by simp)
    (hzones : t.zones = s.zones := by simp) : Relisted s t := by
  refine ⟨fun law => law.filter p htasks hdispatch, ?_, hlink, hzones⟩
  rw [htasks]
  constructor
  · rintro ⟨x, hx, hq⟩
    exact ⟨x, (List.mem_filter.1 hx).1, hq⟩
  · rintro ⟨x, hx, hq⟩
    exact ⟨x, List.mem_filter.2 ⟨hx, hp x hx hq⟩, hq⟩

theorem State.withdrawWhere_relisted (s : State) (p : TaskRecord → Bool) : Relisted s (s.withdrawWhere p) :=
  Relisted.filter _ (State.withdrawWhere_tasks p) fun x _ hq => by simp [hq]

/-- A rewriting of tasks that the law of the list does not see. -/
structure Recast (g : TaskRecord → TaskRecord) (x : TaskRecord) : Prop where
  number : (g x).number = x.number
  sequence : (g x).sequence = x.sequence
  care : (g x).isCare = x.isCare
  shape : x.Shaped → (g x).Shaped

theorem State.ListLaw.map (law : s.ListLaw) (g : TaskRecord → TaskRecord) (htasks : t.tasks = s.tasks.map g)
    (hg : ∀ x ∈ s.tasks, Recast g x) (hout : t.tasks.countP (fun t => !t.queued) ≤ 1)
    (hdispatch : t.dispatch.sequence = s.dispatch.sequence := by simp) : t.ListLaw := by
  have hfield : ∀ {α : Type} (f : TaskRecord → α), (∀ x ∈ s.tasks, f (g x) = f x) → t.tasks.map f = s.tasks.map f := fun f hf => by
    rw [htasks, List.map_map]
    exact List.map_congr_left hf
  have hcare : t.careCount = s.careCount := by
    rw [State.careCount, State.careCount, htasks, List.countP_map]
    exact List.countP_congr fun x hx => by rw [Function.comp_apply, (hg x hx).care]
  have hnonCare : t.nonCareCount = s.nonCareCount := by
    rw [State.nonCareCount, State.nonCareCount, htasks, List.countP_map]
    exact List.countP_congr fun x hx => by rw [Function.comp_apply, (hg x hx).care]
  refine ⟨?_, fun x hx => ?_, ⟨?_, fun x hx => ?_⟩, ⟨?_, ?_, ?_⟩, hout⟩
  · rw [hfield _ fun x hx => (hg x hx).number]
    exact law.numbers
  · rw [htasks] at hx
    obtain ⟨y, hy, rfl⟩ := List.mem_map.1 hx
    exact (hg y hy).shape (law.shapes y hy)
  · rw [hfield _ fun x hx => (hg x hx).sequence]
    exact law.order.1
  · rw [htasks] at hx
    obtain ⟨y, hy, rfl⟩ := List.mem_map.1 hx
    rw [hdispatch, (hg y hy).sequence]
    exact law.order.2 y hy
  · rw [htasks, List.length_map]
    exact law.room.1
  · rw [hcare]
    exact law.room.2.1
  · rw [hnonCare]
    exact law.room.2.2

theorem Relisted.map (g : TaskRecord → TaskRecord) (htasks : t.tasks = s.tasks.map g) (hg : ∀ x ∈ s.tasks, Recast g x)
    (hqueued : ∀ x ∈ s.tasks, (g x).queued = x.queued)
    (hdispatch : t.dispatch.sequence = s.dispatch.sequence := by simp) (hlink : t.link = s.link := by simp)
    (hzones : t.zones = s.zones := by simp) : Relisted s t := by
  refine ⟨fun law => law.map g htasks hg ?_ hdispatch, ?_, hlink, hzones⟩
  · rw [htasks, List.countP_map]
    refine le_of_eq_of_le (List.countP_congr fun x hx => ?_) law.oneOut
    rw [Function.comp_apply, hqueued x hx]
  · rw [htasks]
    simp only [List.mem_map]
    constructor
    · rintro ⟨_, ⟨x, hx, rfl⟩, hq⟩
      exact ⟨x, hx, (hqueued x hx).symm.trans hq⟩
    · rintro ⟨x, hx, hq⟩
      exact ⟨_, ⟨x, hx, rfl⟩, (hqueued x hx).trans hq⟩

/-- A task changed under its number. -/
theorem State.changeTask_relisted (s : State) (n : Fin 64) (f : TaskRecord → TaskRecord) (hf : ∀ x ∈ s.tasks, x.number = n → Recast f x)
    (hqueued : ∀ x ∈ s.tasks, x.number = n → (f x).queued = x.queued) : Relisted s (s.changeTask n f) := by
  refine Relisted.map (fun t => if t.number = n then f t else t) rfl (fun x hx => ?_) fun x hx => ?_
  · by_cases hn : x.number = n
    · obtain ⟨hnumber, hsequence, hcare, hshape⟩ := hf x hx hn
      exact ⟨by simpa [hn] using hnumber.trans hn, by simpa [hn] using hsequence, by simpa [hn] using hcare, by simpa [hn] using hshape⟩
    · exact ⟨by simp [hn], by simp [hn], by simp [hn], by simp [hn]⟩
  · by_cases hn : x.number = n
    · simpa [hn] using hqueued x hx hn
    · simp [hn]

theorem State.alignTask_relisted (s : State) (w : Nat) : Relisted s (s.alignTask w) := by
  unfold State.alignTask
  split
  · exact .aside
  · split
    · exact .aside
    · refine Relisted.map _ rfl (fun x _ => ?_) fun x _ => ?_
      · by_cases hx : (x.isMovement && x.names w) = true
        · obtain ⟨hmove, hnames⟩ := by simpa using hx
          have hcare : x.isCare = false := by
            unfold TaskRecord.isMovement at hmove
            unfold TaskRecord.isCare
            split at hmove <;> simp_all
          refine ⟨by simp [hx], by simp [hx], by simp only [hx, if_true, hcare]; rfl, fun hshape => ?_⟩
          have hrange : x.range = none := by
            unfold TaskRecord.isMovement at hmove
            unfold TaskRecord.Shaped at hshape
            split at hmove <;> simp_all
          have hwheel : x.wheel = some w := by simpa [TaskRecord.names] using hnames
          simp [hx, TaskRecord.Shaped, hrange, hwheel]
        · exact ⟨by simp [hx], by simp [hx], by simp [hx], by simp [hx]⟩
      · by_cases hx : (x.isMovement && x.names w) = true <;> simp [hx, TaskRecord.queued]

end

/-! ## Entries -/

theorem restamp_map {α : Type} (f : TaskRecord → α) (hf : ∀ t n, f { t with sequence := n } = f t) (n : Nat) (l : List TaskRecord) :
    (restamp n l).map f = l.map f := by
  induction l generalizing n with
  | nil => rfl
  | cons t l ih => simp [restamp, hf, ih]

theorem mem_restamp {n : Nat} {l : List TaskRecord} {x : TaskRecord} (h : x ∈ restamp n l) :
    ∃ t ∈ l, ∃ k, n ≤ k ∧ k < n + l.length ∧ x = { t with sequence := k } := by
  induction l generalizing n with
  | nil => simp [restamp] at h
  | cons t l ih =>
    rcases List.mem_cons.1 h with rfl | h
    · exact ⟨t, List.mem_cons_self, n, le_rfl, by simp, rfl⟩
    · obtain ⟨y, hy, k, hn, hk, rfl⟩ := ih h
      exact ⟨y, List.mem_cons_of_mem _ hy, k, by omega, by simp only [List.length_cons]; omega, rfl⟩

theorem restamp_sequences (n : Nat) (l : List TaskRecord) : ((restamp n l).map TaskRecord.sequence).Pairwise (· < ·) := by
  induction l generalizing n with
  | nil => exact .nil
  | cons t l ih =>
    refine List.pairwise_cons.2 ⟨fun k hk => ?_, ih _⟩
    obtain ⟨x, hx, rfl⟩ := List.mem_map.1 hk
    obtain ⟨y, _, k, hn, _, rfl⟩ := mem_restamp hx
    exact hn

theorem restamp_countP (q : TaskRecord → Bool) (hq : ∀ t n, q { t with sequence := n } = q t) (n : Nat) (l : List TaskRecord) :
    (restamp n l).countP q = l.countP q := by
  induction l generalizing n with
  | nil => rfl
  | cons t l ih => simp [restamp, List.countP_cons, hq, ih]

/-- R69: a restamped list keeps its law, its tasks but for their enqueue sequences, and its counts. -/
theorem State.makeRoomInSequence_relisted (s : State) : Relisted s s.makeRoomInSequence := by
  unfold State.makeRoomInSequence
  split
  · have hcount : ∀ q : TaskRecord → Bool, (∀ t n, q { t with sequence := n } = q t) → (restamp 0 s.tasks).countP q = s.tasks.countP q :=
      fun q hq => restamp_countP q hq 0 s.tasks
    refine ⟨fun law => ⟨?_, fun x hx => ?_, ⟨restamp_sequences 0 s.tasks, fun x hx => ?_⟩, ⟨?_, ?_, ?_⟩, ?_⟩, ?_, rfl, rfl⟩
    · exact (restamp_map TaskRecord.number (fun _ _ => rfl) 0 s.tasks).symm ▸ law.numbers
    · obtain ⟨y, hy, k, _, _, rfl⟩ := mem_restamp hx
      exact law.shapes y hy
    · obtain ⟨y, hy, k, _, hk, rfl⟩ := mem_restamp hx
      simpa using hk
    · have hlength := congrArg List.length (restamp_map (fun _ => ()) (fun _ _ => rfl) 0 s.tasks)
      simp only [List.length_map] at hlength
      simpa [hlength] using law.room.1
    · exact (hcount _ fun _ _ => rfl).le.trans law.room.2.1
    · exact (hcount _ fun _ _ => rfl).le.trans law.room.2.2
    · exact (hcount _ fun _ _ => rfl).le.trans law.oneOut
    · have hqueued := hcount (fun t => !t.queued) fun _ _ => rfl
      have hiff : ∀ l : List TaskRecord, (∃ x ∈ l, x.queued = false) ↔ 0 < l.countP fun t => !t.queued := fun l => by
        simp [List.countP_pos_iff]
      rw [hiff, hiff, ← hqueued]
  · exact .aside

theorem State.makeRoomInSequence_counts (s : State) (q : TaskRecord → Bool) (hq : ∀ t n, q { t with sequence := n } = q t) :
    s.makeRoomInSequence.tasks.countP q = s.tasks.countP q := by
  unfold State.makeRoomInSequence
  split
  · exact restamp_countP q hq 0 s.tasks
  · rfl

/-- R62: there is room for one more task of its kind. -/
structure State.RoomFor (s : State) (t : TaskRecord) : Prop where
  list : s.tasks.length < Config.listRoom
  care : t.isCare = true → s.careCount < Config.careRoom
  nonCare : t.isCare = false → s.nonCareCount < Config.nonCareRoom

/-- R67, R69, R70: the record of a task as it is entered under a number. -/
def State.entry (u : State) (t : TaskRecord) (n : Fin 64) : TaskRecord :=
  { t with
    number := n, issue := u.dispatch.lastIssue[n], state := .queued, sequence := u.dispatch.sequence, attempts := 0, rereads := 0 }

theorem State.enter_some {s v : State} {t : TaskRecord} {n : Fin 64} (he : s.enter t = some (v, n)) :
    s.freeNumber = some n ∧ v = State.markTask { s.makeRoomInSequence with
      tasks := s.makeRoomInSequence.tasks ++ [s.makeRoomInSequence.entry t n]
      dispatch := { s.makeRoomInSequence.dispatch with sequence := s.makeRoomInSequence.dispatch.sequence + 1 } }
      (s.makeRoomInSequence.entry t n) true := by
  obtain ⟨m, hm, heq⟩ := Option.map_eq_some_iff.1 he
  obtain ⟨rfl, rfl⟩ := Prod.mk.inj heq
  exact ⟨hm, rfl⟩

@[simp] theorem State.entry_isCare (u : State) (t : TaskRecord) (n : Fin 64) : (u.entry t n).isCare = t.isCare := rfl

theorem State.enter_relisted {s v : State} {t : TaskRecord} {n : Fin 64} (he : s.enter t = some (v, n)) (hshape : t.Shaped)
    (hroom : s.RoomFor t) : Relisted s v := by
  obtain ⟨hm, rfl⟩ := State.enter_some he
  clear he
  refine s.makeRoomInSequence_relisted.trans ?_
  have hcounts := s.makeRoomInSequence_counts
  have hlength : s.makeRoomInSequence.tasks.length = s.tasks.length := by simpa using hcounts (fun _ => true) fun _ _ => rfl
  have hcare : s.makeRoomInSequence.careCount = s.careCount := hcounts _ fun _ _ => rfl
  have hnonCare : s.makeRoomInSequence.nonCareCount = s.nonCareCount := hcounts _ fun _ _ => rfl
  have hfree : ∀ x ∈ s.makeRoomInSequence.tasks, x.number ≠ n := fun x hx hxm => by
    have hx' : x.number ∈ s.makeRoomInSequence.tasks.map TaskRecord.number := List.mem_map_of_mem hx
    have hnumbers : s.makeRoomInSequence.tasks.map TaskRecord.number = s.tasks.map TaskRecord.number := by
      unfold State.makeRoomInSequence
      split
      · exact restamp_map TaskRecord.number (fun _ _ => rfl) 0 s.tasks
      · rfl
    rw [hnumbers] at hx'
    obtain ⟨y, hy, hyx⟩ := List.mem_map.1 hx'
    exact State.freeNumber_free hm y hy (hyx.trans hxm)
  generalize s.makeRoomInSequence = u at *
  refine Relisted.trans (t := { u with
    tasks := u.tasks ++ [u.entry t n], dispatch := { u.dispatch with sequence := u.dispatch.sequence + 1 } }) ?_ .aside
  refine ⟨fun law => ⟨?_, fun x hx => ?_, ⟨?_, fun x hx => ?_⟩, ⟨?_, ?_, ?_⟩, ?_⟩, ?_, rfl, rfl⟩
  · simp only [List.map_append, List.nodup_append, List.map_cons, List.map_nil]
    refine ⟨law.numbers, by simp, fun a ha b hb => ?_⟩
    obtain ⟨x, hx, rfl⟩ := List.mem_map.1 ha
    rw [List.mem_singleton.1 hb]
    exact hfree x hx
  · rcases List.mem_append.1 hx with hx | hx
    · exact law.shapes x hx
    · rw [List.mem_singleton.1 hx]
      exact hshape
  · simp only [List.map_append, List.pairwise_append, List.map_cons, List.map_nil]
    refine ⟨law.order.1, by simp, fun a ha b hb => ?_⟩
    obtain ⟨x, hx, rfl⟩ := List.mem_map.1 ha
    rw [List.mem_singleton.1 hb]
    exact law.order.2 x hx
  · rcases List.mem_append.1 hx with hx | hx
    · exact (law.order.2 x hx).trans (Nat.lt_succ_self _)
    · rw [List.mem_singleton.1 hx]
      exact Nat.lt_succ_self _
  · simp only [List.length_append, List.length_cons, List.length_nil]
    have := hroom.list
    omega
  · have hown := law.room.2.1
    have hnew := hroom.care
    simp only [State.careCount, List.countP_append, List.countP_singleton] at hown hcare hnew ⊢
    by_cases hc : t.isCare = true
    · have := hnew hc
      rw [State.entry_isCare, if_pos hc]
      omega
    · rw [State.entry_isCare, if_neg hc]
      omega
  · have hown := law.room.2.2
    have hnew := hroom.nonCare
    simp only [State.nonCareCount, List.countP_append, List.countP_singleton] at hown hnonCare hnew ⊢
    by_cases hc : t.isCare = true
    · rw [State.entry_isCare, if_neg (by simp [hc])]
      omega
    · have := hnew (by simpa using hc)
      rw [State.entry_isCare, if_pos (by simpa using hc)]
      omega
  · simpa [List.countP_append, State.entry, TaskRecord.queued] using law.oneOut
  · simp [State.entry, TaskRecord.queued, or_and_right, exists_or]

theorem countP_filter_lt {α : Type} {p q : α → Bool} {l : List α} {e : α} (he : e ∈ l) (hp : p e = false) (hq : q e = true) :
    (l.filter p).countP q < l.countP q := by
  have hsplit := List.countP_eq_countP_filter_add l q p
  have hpos : 0 < (l.filter fun a => !p a).countP q := List.countP_pos_iff.2 ⟨e, by simp [he, hp], hq⟩
  omega

/-- R64, R65: a withdrawal of the evictee makes room on the list, and for a care task among the care tasks. -/
theorem State.evicted_roomFor {s : State} {e t : TaskRecord} (law : s.ListLaw) (he : s.evictee = some e)
    (hnonCare : t.isCare = false → s.nonCareCount < Config.nonCareRoom) : (s.withdraw e.number).RoomFor t := by
  obtain ⟨hmem, hqueued, hcare⟩ := State.evictee_some he
  have htasks : (s.withdraw e.number).tasks = s.tasks.filter fun x => !(x.queued && x.number == e.number) := State.withdrawWhere_tasks _
  have hsub : (s.withdraw e.number).tasks.Sublist s.tasks := htasks ▸ List.filter_sublist
  have hless : ∀ q : TaskRecord → Bool, q e = true → (s.withdraw e.number).tasks.countP q < s.tasks.countP q := fun q hq => by
    rw [htasks]
    exact countP_filter_lt hmem (by simp [hqueued]) hq
  refine ⟨?_, fun _ => ?_, fun hc => (hsub.countP_le).trans_lt (hnonCare hc)⟩
  · have := hless (fun _ => true) rfl
    simp only [List.countP_true] at this
    exact this.trans_le law.room.1
  · exact (hless _ hcare).trans_le law.room.2.1

end Sys2Proof.Machine

namespace Sys2Proof.Machine

set_option Elab.async false

/-- A reached state followed by an update of wheels, slots, ports and the like. -/
theorem Relisted.after {s u t : State} (h : Relisted s u) (htasks : t.tasks = u.tasks := by simp)
    (hdispatch : t.dispatch.sequence = u.dispatch.sequence := by simp) (hlink : t.link = u.link := by simp)
    (hzones : t.zones = u.zones := by simp) : Relisted s t :=
  h.trans (.aside htasks hdispatch hlink hzones)

section
variable {s t : State}

/-! ## Withdrawals, boards and intents as the list sees them -/

theorem Relisted.withdrawWhere (h : Relisted s t) (p : TaskRecord → Bool) : Relisted s (t.withdrawWhere p) :=
  h.trans (t.withdrawWhere_relisted p)

theorem Relisted.refl (s : State) : Relisted s s := .aside

theorem Relisted.setSlot (h : Relisted s t) (c : Coord) (e : SlotEntry) : Relisted s (t.setSlot c e) := h.after

theorem Relisted.changeWheel (h : Relisted s t) (w : Nat) (f : Wheel → Wheel) : Relisted s (t.changeWheel w f) := h.after

theorem Relisted.setIntent (h : Relisted s t) (w : Nat) (i : Option Intent) : Relisted s (t.setIntent w i) := h.after

theorem Relisted.record (h : Relisted s t) (k : DiscrepancyKind) (c : Option Coord) (w : Option Nat) (tag : Option TagId) :
    Relisted s (t.record k c w tag) := h.after

theorem Relisted.raise (h : Relisted s t) (p : Port) (n : Notice) : Relisted s (t.raise p n) := h.after

theorem Relisted.freeDestination (h : Relisted s t) (w : Nat) (i : Intent) : Relisted s (t.freeDestination w i) := h.after

theorem Relisted.freeReturn (h : Relisted s t) (w : Nat) (i : Intent) : Relisted s (t.freeReturn w i) := h.after

theorem Relisted.endIntent (h : Relisted s t) (w : Nat) (e : Ending) : Relisted s (t.endIntent w e) := h.after

theorem Relisted.deleteWheel (h : Relisted s t) (w : Nat) : Relisted s (t.deleteWheel w) := h.after

theorem Relisted.computeDues (h : Relisted s t) (w : Nat) : Relisted s (t.computeDues w) := h.after

theorem Relisted.placeIn (h : Relisted s t) (w : Nat) (c : Coord) : Relisted s (t.placeIn w c) := h.after

theorem Relisted.testIf (h : Relisted s t) (b : Bool) : Relisted s (t.testIf b) := h.after

theorem Relisted.alignTask (h : Relisted s t) (w : Nat) : Relisted s (t.alignTask w) := h.trans (t.alignTask_relisted w)

theorem State.makeSuspect_relisted (s : State) (c : Coord) (w : Option Nat) : Relisted s (s.makeSuspect c w) :=
  ((Relisted.refl s).setSlot _ _).withdrawWhere _

theorem State.suspectOccupied_relisted (s : State) (c : Coord) : Relisted s (s.suspectOccupied c) := by
  unfold State.suspectOccupied
  split
  · exact s.makeSuspect_relisted _ _
  · exact .aside

theorem State.setCareFault_relisted (s : State) (w : Nat) (f : CareFault) : Relisted s (s.setCareFault w f) :=
  ((Relisted.refl s).changeWheel _ _).withdrawWhere _

theorem State.endEffects_relisted (s : State) (t : TaskRecord) (e : Ending) : Relisted s (s.endEffects t e) := by
  unfold State.endEffects
  split
  · exact .aside
  · split
    · split <;> exact .aside
    · split <;> exact .aside
    · exact .aside
    · exact .aside
    · split
      · exact s.setCareFault_relisted _ _
      · exact .aside
    · exact .aside

theorem State.recordSurvey_relisted (s : State) (t : TaskRecord) (e : Ending) : Relisted s (s.recordSurvey t e) := by
  unfold State.recordSurvey
  split <;> exact .aside

theorem State.loseWheel_relisted (s : State) (w : Nat) : Relisted s (s.loseWheel w) := by
  have hwithdrawn := (Relisted.refl s).withdrawWhere fun t => t.isMovement && t.names w
  unfold State.loseWheel
  split
  · exact ((((hwithdrawn.freeDestination _ _).freeReturn _ _).changeWheel _ _).record _ _ _ _).raise _ _
  · exact ((hwithdrawn.changeWheel _ _).record _ _ _ _).raise _ _

theorem State.loseWheels_relisted (s : State) (l : List Nat) : Relisted s (l.foldl State.loseWheel s) := by
  induction l generalizing s with
  | nil => exact .aside
  | cons w l ih => exact (s.loseWheel_relisted w).trans (ih _)

theorem State.reconcileNamed_relisted (s : State) (w : Nat) (tag : TagId) : Relisted s (s.reconcileNamed w tag) := by
  have h := Relisted.refl s
  unfold State.reconcileNamed
  split
  · exact ((((h.setSlot _ _).withdrawWhere _).changeWheel _ _).alignTask _).record _ _ _ _
  · exact ((h.changeWheel _ _).alignTask _).record _ _ _ _
  · unfold State.findLost
    split
    · exact ((h.withdrawWhere _).freeDestination _ _).changeWheel _ _
    · exact (h.withdrawWhere _).changeWheel _ _
  · exact h
  · exact h

theorem State.reconcile_relisted (s : State) (l : Load) : Relisted s (s.reconcile l) := by
  unfold State.reconcile
  split
  · exact s.loseWheels_relisted _
  · exact (s.loseWheels_relisted _).trans (State.reconcileNamed_relisted _ _ _)
  · exact (s.loseWheels_relisted _).record _ _ _ _

theorem State.completeIntent_relisted (s : State) (w : Nat) (i : Intent) : Relisted s (s.completeIntent w i) := by
  unfold State.completeIntent State.finishIntent
  split <;> exact .aside

theorem State.complete_relisted (s : State) (t : TaskRecord) : Relisted s (s.complete t) := by
  unfold State.complete
  split
  · exact .aside
  · split
    · exact .aside
    · exact s.completeIntent_relisted _ _

theorem State.credit_relisted (s : State) (t : TaskRecord) (a b : Bool) : Relisted s (s.credit t a b) := by
  unfold State.credit
  split
  · exact .aside
  · split <;> split <;> split <;> exact .aside

theorem State.compare_relisted (s : State) (c : Coord) (f : TagFinding) : Relisted s (s.compare c f).1 := by
  unfold State.compare State.seen
  split
  · split
    · exact .aside
    · exact (s.makeSuspect_relisted _ _).record _ _ _ _
  · exact (s.makeSuspect_relisted _ _).record _ _ _ _
  · exact (s.makeSuspect_relisted _ _).record _ _ _ _
  · exact .aside
  · exact .aside
  · split <;> exact .aside
  all_goals exact .aside

theorem State.completeIntent_tasks (s : State) (w : Nat) (i : Intent) : (s.completeIntent w i).tasks = s.tasks := by
  unfold State.completeIntent State.finishIntent
  split <;> simp

theorem State.complete_tasks (s : State) (t : TaskRecord) : (s.complete t).tasks = s.tasks := by
  unfold State.complete
  split
  · rfl
  · split
    · rfl
    · exact s.completeIntent_tasks _ _

theorem State.credit_tasks (s : State) (t : TaskRecord) (a b : Bool) : (s.credit t a b).tasks = s.tasks := by
  unfold State.credit
  split
  · rfl
  · split <;> split <;> split <;> simp

theorem State.makeSuspect_tasks_subset (s : State) (c : Coord) (w : Option Nat) : (s.makeSuspect c w).tasks ⊆ s.tasks := by
  simp only [State.makeSuspect, State.withdrawWhere_tasks]
  exact List.filter_subset_self _

theorem State.suspectOccupied_tasks_subset (s : State) (c : Coord) : (s.suspectOccupied c).tasks ⊆ s.tasks := by
  unfold State.suspectOccupied
  split
  · exact s.makeSuspect_tasks_subset _ _
  · exact List.Subset.refl _

theorem State.compare_tasks_subset (s : State) (c : Coord) (f : TagFinding) : (s.compare c f).1.tasks ⊆ s.tasks := by
  unfold State.compare State.seen
  split
  · split
    · exact List.Subset.refl _
    · simpa using s.makeSuspect_tasks_subset _ _
  · simpa using s.makeSuspect_tasks_subset _ _
  · simpa using s.makeSuspect_tasks_subset _ _
  · simp
  · exact List.Subset.refl _
  · split <;> simp
  all_goals simp

/-! ## Offers -/

theorem State.offerCare_relisted {v : State} (law : s.ListLaw) {x : TaskRecord} (ho : s.offerCare x = some v) (hshape : x.Shaped)
    (hcare : x.isCare = true) : Relisted s v := by
  unfold State.offerCare at ho
  split at ho
  · next hroom =>
    obtain ⟨⟨_, n⟩, he, rfl⟩ := Option.map_eq_some_iff.1 ho
    exact State.enter_relisted he hshape ⟨by simpa [State.hasRoom] using hroom.2, fun _ => hroom.1, by simp [hcare]⟩
  · split at ho
    · cases ho
    · next e he =>
      split at ho
      · obtain ⟨⟨_, n⟩, hen, rfl⟩ := Option.map_eq_some_iff.1 ho
        exact (s.withdrawWhere_relisted _).trans (State.enter_relisted hen hshape (State.evicted_roomFor law he (by simp [hcare])))
      · cases ho

theorem State.offerNonCare_relisted {v : State} {n : Fin 64} (law : s.ListLaw) {x : TaskRecord} (ho : s.offerNonCare x = some (v, n))
    (hshape : x.Shaped) (hcare : x.isCare = false) : Relisted s v := by
  unfold State.offerNonCare at ho
  split at ho
  · next hnonCare =>
    split at ho
    · next hroom => exact State.enter_relisted ho hshape ⟨by simpa [State.hasRoom] using hroom, by simp [hcare], fun _ => hnonCare⟩
    · split at ho
      · cases ho
      · next e he =>
        exact (s.withdrawWhere_relisted _).trans (State.enter_relisted ho hshape (State.evicted_roomFor law he fun _ => hnonCare))
  · cases ho

theorem State.movementTask_shaped (s : State) (w : Nat) (x : Wheel) (i : Intent) : (s.movementTask w x i).Shaped :=
  ⟨rfl, rfl, rfl, rfl⟩

theorem State.offerMovement_relisted (law : s.ListLaw) (w : Nat) : Relisted s (s.offerMovement w).1 := by
  unfold State.offerMovement
  split
  · exact .aside
  · split
    · exact .aside
    · split
      · next ho => exact (State.offerNonCare_relisted law ho (s.movementTask_shaped _ _ _) rfl).after
      · exact .aside

theorem State.startMove_relisted (law : s.ListLaw) (w : Nat) (i : Intent) : Relisted s (s.startMove w i).1 := by
  unfold State.startMove
  split
  · exact Relisted.trans (t := (s.setIntent w _).setSlot _ _) .aside (State.offerMovement_relisted law.congr _)
  · exact Relisted.trans (t := s.setIntent w _) .aside (State.offerMovement_relisted law.congr _)

end

/-! ## A task leaves the robot -/

/-- A task under whose number every task that is out stands. -/
def State.OnlyOut (s : State) (t : TaskRecord) : Prop := ∀ x ∈ s.tasks, x.queued = false → x.number = t.number

section
variable {s u : State} {t : TaskRecord}

theorem State.OnlyOut.of_out (law : s.ListLaw) (h : s.out = some t) : s.OnlyOut t := fun x hx hq => by
  have hsame := State.out_of_mem law.oneOut hx hq
  rw [h] at hsame
  cases hsame
  rfl

theorem State.OnlyOut.subset (h : s.OnlyOut t) (hsub : u.tasks ⊆ s.tasks) : u.OnlyOut t := fun x hx hq => h x (hsub hx) hq

theorem State.leaveZones_presence (s : State) (z : ZoneNumber) : (s.leaveZones.zone z).presence = false := by
  have hz : s.leaveZones.zone z = (s.zone z).leave := by simp [State.leaveZones, State.zone]
  rw [hz]
  unfold Zone.leave
  split
  · rfl
  · simpa using ‹¬ (s.zone z).presence = true›

/-- R95, R176: with only QUEUED tasks in the list, clearing what belonged to the task that was out leaves a cleared state. -/
theorem State.clearOut_cleared (law : s.ListLaw) (hqueued : ∀ x ∈ s.tasks, x.queued = true) : s.clearOut.Cleared :=
  { law.congr with
    queued := by simpa using hqueued
    deadline := by simp [State.clearOut], verified := by simp [State.clearOut], issuedTag := by simp [State.clearOut]
    presence := fun z => State.leaveZones_presence _ z }

theorem State.endTask_cleared (law : s.ListLaw) (hout : s.OnlyOut t) (e : Ending) : (s.endTask t e).Cleared := by
  have hfilter : ({ s with tasks := s.tasks.filter fun v => v.number != t.number } : State).ListLaw := law.filter _ rfl
  have hqueued : ∀ x ∈ s.tasks.filter (fun v => v.number != t.number), x.queued = true := fun x hx => by
    obtain ⟨hx, hne⟩ := List.mem_filter.1 hx
    by_contra hq
    exact (by simpa using hne : x.number ≠ t.number) (hout x hx (by simpa using hq))
  have hcleared := State.clearOut_cleared (s := State.markTask { s with tasks := s.tasks.filter fun v => v.number != t.number } t false)
    hfilter.congr (by simpa using hqueued)
  have hended := (State.recordSurvey_relisted _ t e).cleared ((State.endEffects_relisted _ t e).cleared hcleared)
  unfold State.endTask
  exact hended.aside

theorem State.requeue_cleared (law : s.ListLaw) (hout : s.OnlyOut t) : (s.requeue t).Cleared := by
  have hqueued : ∀ x ∈ (s.changeTask t.number fun v =>
      { v with state := .queued, attempts := min Config.maxAttempts (v.attempts + 1) }).tasks, x.queued = true := fun x hx => by
    obtain ⟨y, hy, rfl⟩ := (State.mem_changeTask _ _ _).1 hx
    by_cases hn : y.number = t.number
    · simp [hn, TaskRecord.queued]
    · by_contra hq
      exact hn (hout y hy (by simpa [hn] using hq))
  refine State.clearOut_cleared (law.map _ rfl (fun x _ => ?_) ?_) hqueued
  · by_cases hn : x.number = t.number
    · exact ⟨by simp [hn], by simp [hn], by simp [hn, TaskRecord.isCare], fun h => by simp only [hn, if_true]; exact h⟩
    · exact ⟨by simp [hn], by simp [hn], by simp [hn], by simp [hn]⟩
  · refine le_of_eq_of_le (List.countP_eq_zero.2 fun x hx => ?_) (Nat.zero_le 1)
    simp [hqueued x hx]

/-- R99: whatever was out has been taken back, whether or not something was. -/
theorem State.takeBack_cleared (law : s.TaskLaw) : s.takeBack.Cleared := by
  unfold State.takeBack
  split
  · next hnone =>
    refine law.cleared fun hw => ?_
    obtain ⟨x, hx, hq⟩ := law.working.1 hw
    rw [State.out_none.1 hnone x hx] at hq
    cases hq
  · next t ht =>
    have hout := State.OnlyOut.of_out law.list ht
    split
    · exact State.endTask_cleared law.list hout _
    · split
      · exact State.requeue_cleared law.list hout
      · split
        · exact State.endTask_cleared law.list hout _
        · exact State.requeue_cleared law.list hout

theorem State.endIdle_taskLaw (law : s.ListLaw) (hout : s.OnlyOut t) (e : Ending) : (s.endIdle t e).TaskLaw := by
  unfold State.endIdle
  exact State.Cleared.taskLaw (State.endTask_cleared law hout e).aside (by simp)

end

end Sys2Proof.Machine

namespace Sys2Proof.Machine

set_option Elab.async false

section
variable {s u : State} {t : TaskRecord}

theorem State.TaskLaw.aside {s u : State} (law : s.TaskLaw) (htasks : u.tasks = s.tasks := by simp)
    (hdispatch : u.dispatch.sequence = s.dispatch.sequence := by simp) (hstate : u.link.state = s.link.state := by simp)
    (hdeadline : u.link.deadline = s.link.deadline := by simp) (hverified : u.link.verified = s.link.verified := by simp)
    (htag : u.link.issuedTag = s.link.issuedTag := by simp)
    (hzones : ∀ z : ZoneNumber, (u.zone z).presence = (s.zone z).presence := by intro z; simp [State.zone]) : u.TaskLaw := by
  refine { law.list.congr htasks hdispatch with working := ?_, idle := fun hl => ?_ }
  · rw [hstate, htasks]
    exact law.working
  · rw [hstate] at hl
    obtain ⟨hd, hv, ht, hz⟩ := law.idle hl
    exact ⟨hdeadline.trans hd, hverified.trans hv, htag.trans ht, fun z => (hzones z).trans (hz z)⟩

/-! ## The task a report names -/

theorem State.OnlyOut.of_mem (law : s.ListLaw) (ht : t ∈ s.tasks) (hq : t.queued = false) : s.OnlyOut t :=
  State.OnlyOut.of_out law (State.out_of_mem law.oneOut ht hq)

theorem State.TaskLaw.working_of_mem (law : s.TaskLaw) (ht : t ∈ s.tasks) (hq : t.queued = false) : s.link.state = .working :=
  law.working.2 ⟨t, ht, hq⟩

/-- In a list that shares no number, tasks under one number are one. -/
theorem State.ListLaw.eq_of_number (law : s.ListLaw) {x : TaskRecord} (hx : x ∈ s.tasks) (ht : t ∈ s.tasks) (hn : x.number = t.number) :
    x = t := by
  have h := State.task_of_mem law.numbers hx
  rw [hn, State.task_of_mem law.numbers ht] at h
  cases h
  rfl

/-! ## Issue -/

theorem State.markZones_keep (s : State) (l : List ZoneNumber) :
    (l.foldl State.markZone s).tasks = s.tasks ∧ (l.foldl State.markZone s).dispatch = s.dispatch := by
  induction l generalizing s with
  | nil => exact ⟨rfl, rfl⟩
  | cons z l ih => exact ih (s.markZone z)

theorem State.stampIssue_relisted (s : State) (n : Fin 64) : Relisted s (s.stampIssue n) :=
  Relisted.trans (t := { s with dispatch := { s.dispatch with lastIssue := s.dispatch.lastIssue.set n (s.nextIssue n) } }) .aside
    (State.changeTask_relisted _ _ _ (fun _ _ _ => ⟨rfl, rfl, rfl, id⟩) fun _ _ _ => rfl)

theorem State.issueMovement_relisted (s : State) (t : TaskRecord) : Relisted s (s.issueMovement t) := by
  unfold State.issueMovement
  split
  · exact .refl s
  · have h : ∀ w, Relisted s (if t.isMovement then
        s.changeWheel w fun x => { x with intent := x.intent.map fun i => { i with status := .active } } else s) := fun w => by
      split
      · exact .aside
      · exact .refl s
    dsimp only
    split
    · exact (h _).withdrawWhere _
    · exact h _

theorem State.mergeInto_relisted (s : State) (t : TaskRecord) (w : Nat) (other : TaskKind)
    (hkind : ∀ x ∈ s.tasks, x.number = t.number → x.kind = .flip ∨ x.kind = .brush) : Relisted s (s.mergeInto t w other) := by
  unfold State.mergeInto
  have hfilter : Relisted s { s with tasks := s.tasks.filter fun v => !(v.queued && v.kind == other && v.names w) } :=
    Relisted.filter _ rfl fun x _ hq => by simp [hq]
  refine (hfilter.trans (State.changeTask_relisted _ _ _ (fun x hx hn => ?_) ?_)).changeWheel _ _
  case refine_2 => exact fun _ _ _ => rfl
  have hx := hkind x (List.mem_filter.1 hx).1 hn
  refine ⟨rfl, rfl, ?_, fun hshape => ?_⟩
  · rcases hx with hx | hx <;> simp [TaskRecord.isCare, hx]
  · rcases hx with hx | hx <;> simpa [TaskRecord.Shaped, hx] using hshape

theorem State.merge_relisted (s : State) (t : TaskRecord) (hkind : ∀ x ∈ s.tasks, x.number = t.number → x.kind = t.kind) :
    Relisted s (s.merge t) := by
  unfold State.merge
  split
  · exact .refl s
  · split
    · exact .refl s
    · split
      · next h =>
        have hflip : t.kind = .flip := by simp only [State.mergesFlip, Bool.and_eq_true, beq_iff_eq] at h; exact h.1.1.1
        exact s.mergeInto_relisted t _ _ fun x hx hn => .inl ((hkind x hx hn).trans hflip)
      · split
        · next h =>
          have hbrush : t.kind = .brush := by simp only [State.mergesBrush, Bool.and_eq_true, beq_iff_eq] at h; exact h.1
          exact s.mergeInto_relisted t _ _ fun x hx hn => .inr ((hkind x hx hn).trans hbrush)
        · exact .refl s

theorem State.issueMovement_tasks_subset (s : State) (t : TaskRecord) : (s.issueMovement t).tasks ⊆ s.tasks := by
  unfold State.issueMovement
  split
  · exact List.Subset.refl _
  · dsimp only
    split <;> split
    all_goals first
      | exact List.Subset.refl _
      | (simp only [State.withdrawCare, State.withdrawWhere_tasks]; exact List.filter_subset_self _)

theorem countP_le_one_of_number {l : List TaskRecord} (hn : (l.map TaskRecord.number).Nodup) {p : TaskRecord → Bool} {n : Fin 64}
    (hp : ∀ x ∈ l, p x = true → x.number = n) : l.countP p ≤ 1 := by
  calc l.countP p ≤ l.countP fun x => x.number == n := List.countP_mono_left fun x hx hpx => by simpa using hp x hx hpx
    _ = (l.map TaskRecord.number).count n := by rw [List.count, List.countP_map]; rfl
    _ ≤ 1 := List.nodup_iff_count_le_one.1 hn n

theorem State.changeTask_numbers (s : State) (n : Fin 64) (f : TaskRecord → TaskRecord) (hf : ∀ x, (f x).number = x.number) :
    (s.changeTask n f).tasks.map TaskRecord.number = s.tasks.map TaskRecord.number := by
  rw [State.changeTask, List.map_map]
  refine List.map_congr_left fun x _ => ?_
  rw [Function.comp_apply]
  split
  · exact hf x
  · rfl

/-- R80: a QUEUED task issued is the one that is out, and the link works. -/
theorem State.issue_taskLaw (law : s.Cleared) (ht : t ∈ s.tasks) : (s.issue t).TaskLaw := by
  have hstamped := s.stampIssue_relisted t.number
  have hstampedLaw := hstamped.list law.toListLaw
  have hkinds : ∀ x ∈ (s.stampIssue t.number).tasks, x.number = t.number → x.kind = t.kind := fun x hx hn => by
    obtain ⟨y, hy, rfl⟩ := (State.mem_changeTask _ _ _).1 hx
    by_cases hyn : y.number = t.number
    · rw [if_pos hyn, law.toListLaw.eq_of_number hy ht hyn]
    · rw [if_neg hyn] at hn
      exact absurd hn hyn
  have hqueued : ∀ x ∈ (s.stampIssue t.number).tasks, x.queued = true := (hstamped.cleared law).queued
  obtain ⟨y, hy, hyn⟩ : ∃ y ∈ (s.stampIssue t.number).tasks, y.number = t.number :=
    ⟨_, (State.mem_changeTask _ _ _).2 ⟨t, ht, rfl⟩, by rw [if_pos rfl]⟩
  unfold State.issue
  generalize s.stampIssue t.number = u at *
  have hissued : (u.changeTask t.number fun v => { v with state := .issued, rereads := 0 }).ListLaw := by
    refine hstampedLaw.map _ rfl (fun x _ => ?_) ?_
    · by_cases hn : x.number = t.number
      · exact ⟨by simp [hn], by simp [hn], by simp [hn, TaskRecord.isCare], fun h => by simp only [hn, if_true]; exact h⟩
      · exact ⟨by simp [hn], by simp [hn], by simp [hn], by simp [hn]⟩
    · refine countP_le_one_of_number (n := t.number) ?_ fun x hx hq => ?_
      · rw [u.changeTask_numbers _ _ (by exact fun _ => rfl)]
        exact hstampedLaw.numbers
      · obtain ⟨z, hz, rfl⟩ := (State.mem_changeTask _ _ _).1 hx
        by_cases hn : z.number = t.number
        · simp [hn]
        · rw [if_neg hn, hqueued z hz] at hq
          cases hq
  have hkinds' : ∀ x ∈ (u.changeTask t.number fun v => { v with state := .issued, rereads := 0 }).tasks,
      x.number = t.number → x.kind = t.kind := fun x hx hn => by
    obtain ⟨z, hz, rfl⟩ := (State.mem_changeTask _ _ _).1 hx
    by_cases hzn : z.number = t.number
    · rw [if_pos hzn]
      exact hkinds z hz hzn
    · rw [if_neg hzn] at hn
      exact absurd hn hzn
  have hout : ∃ x ∈ (u.changeTask t.number fun v => { v with state := .issued, rereads := 0 }).tasks, x.queued = false :=
    ⟨_, (State.mem_changeTask _ _ _).2 ⟨y, hy, rfl⟩, by rw [if_pos hyn]; rfl⟩
  generalize u.changeTask t.number (fun v => { v with state := .issued, rereads := 0 }) = v at *
  obtain ⟨hmarkTasks, hmarkDispatch⟩ := v.markZones_keep (t.zones s)
  have hmarked : ((t.zones s).foldl State.markZone v).ListLaw := hissued.congr hmarkTasks (by rw [hmarkDispatch])
  rw [← hmarkTasks] at hout hkinds'
  dsimp only
  generalize (t.zones s).foldl State.markZone v = m at *
  have hmoved := m.issueMovement_relisted t
  have hmerged := (m.issueMovement t).merge_relisted t fun x hx => hkinds' x (m.issueMovement_tasks_subset t hx)
  have hlist := hmerged.list (hmoved.list hmarked)
  have hend := hmerged.out.2 (hmoved.out.2 hout)
  generalize (m.issueMovement t).merge t = e at *
  exact { hlist.congr with working := ⟨fun _ => by simpa using hend, fun _ => by simp⟩, idle := fun hl => absurd (by simp) hl }

end

end Sys2Proof.Machine

namespace Sys2Proof.Machine

set_option Elab.async false

/-! ## What each effect makes of the task list's law -/

section
variable {s u : State} {t : TaskRecord}

theorem State.TaskLaw.changeZone (law : s.TaskLaw) (z : ZoneNumber) (f : Zone → Zone) (hf : ∀ x, (f x).presence = x.presence := by exact fun _ => rfl) :
    (s.changeZone z f).TaskLaw :=
  law.aside (hzones := fun y => by rw [State.zone_changeZone]; split <;> simp [*])

/-! ### The robot's reports -/

theorem serveReady_taskLaw (law : s.TaskLaw) (known : Bool) (position : Option RawCoord) (r : TagReport) :
    (serveReady known position r s).1.TaskLaw := by
  unfold serveReady
  split
  · exact law
  · next p _ =>
    split
    · exact law
    · have hback : s.readyTakesBack.Cleared := by
        unfold State.readyTakesBack
        split
        · exact State.takeBack_cleared law
        · next h => exact (law.cleared (by simp [h])).aside
        · next h => exact (law.cleared (by simp [h])).aside
        · next h _ _ => exact law.cleared h
      have hreconciled := (State.reconcile_relisted s.readyTakesBack (s.readyTakesBack.loadOf r)).cleared hback
      dsimp only
      split
      · exact State.Cleared.taskLaw hreconciled.aside (by simp)
      · refine State.Cleared.taskLaw hreconciled.aside ?_
        have hl : readyState s.link.state p ≠ .working := by
          unfold readyState
          split
          · simp
          · split <;> simp
        simpa [accept] using hl

theorem State.dispatchTake_taskLaw (law : s.TaskLaw) (hidle : s.link.state = .idle) : s.dispatchTake.1.TaskLaw := by
  have hchecked := s.withdrawWhere_relisted fun t => s.disagrees t
  unfold State.dispatchTake
  split
  · exact law
  · dsimp only
    split
    · exact hchecked.taskLaw law
    · exact (hchecked.raise _ _).taskLaw law
    · next t ht => exact State.issue_taskLaw (hchecked.cleared (law.cleared (by simp [hidle]))) (State.choice_task ht).1

theorem serveTake_taskLaw (law : s.TaskLaw) : (serveTake s).1.TaskLaw := by
  unfold serveTake
  split
  · next h => exact State.dispatchTake_taskLaw law h
  · split <;> exact law
  · exact law.aside (u := { s with link := { s.link with homeOrder := some (s.link.homeOrder.getD Config.homeAllowance) } })
  · exact law.aside (u := { s with link := { s.link with homeOrder := some (s.link.homeOrder.getD Config.homeAllowance) } })
  all_goals exact law

theorem serveHomed_taskLaw (law : s.TaskLaw) : (serveHomed s).1.TaskLaw := by
  unfold serveHomed
  dsimp only
  split
  · next h => exact State.Cleared.taskLaw (law.cleared (by simp [h])).aside (by simp [accept])
  · next h => exact State.Cleared.taskLaw (law.cleared (by simp [h])).aside (by simp [accept])
  · exact law.aside
  all_goals exact law

theorem State.verifyFailed_taskLaw (law : s.TaskLaw) (hout : s.OnlyOut t) (r : FailReason) (tag : Option TagId) :
    (s.verifyFailed t r tag).1.TaskLaw := by
  unfold State.verifyFailed
  dsimp only
  split
  · next c _ =>
    exact State.endIdle_taskLaw (((s.suspectOccupied_relisted c).record _ _ _ _).list law.list)
      (hout.subset (by simpa using s.suspectOccupied_tasks_subset c)) _
  · exact State.endIdle_taskLaw (((Relisted.refl s).record _ _ _ _).list law.list) (hout.subset (by simp)) _

theorem State.verified_taskLaw (law : s.TaskLaw) (hw : s.link.state = .working) : (s.verified t).1.TaskLaw := by
  unfold State.verified
  dsimp only
  split
  · exact law.relink hw
  · exact law.relink hw

theorem serveArrived_taskLaw (law : s.TaskLaw) (r : TaskRef) (tag : TagReport) : (serveArrived r tag s).1.TaskLaw := by
  refine State.onReport_cases (P := State.TaskLaw) law fun t ht => ?_
  obtain ⟨hmem, hq⟩ := State.judge_current ht
  have hw := law.working_of_mem hmem hq
  have hout := State.OnlyOut.of_mem law.list hmem hq
  split
  · exact State.endIdle_taskLaw law.list.congr (hout.subset (by simp)) _
  · split
    · have hset : ((s.setPosition (some (t.firstPoint s))).setDeadline t.kind).TaskLaw := law.relink hw
      have hsetOut : ((s.setPosition (some (t.firstPoint s))).setDeadline t.kind).OnlyOut t := hout.subset (by simp)
      have hsetWorking : ((s.setPosition (some (t.firstPoint s))).setDeadline t.kind).link.state = .working := by simpa using hw
      generalize (s.setPosition (some (t.firstPoint s))).setDeadline t.kind = v at *
      unfold State.verify
      split
      · split
        · exact State.verified_taskLaw hset hsetWorking
        · exact State.verifyFailed_taskLaw hset hsetOut _ _
      · split
        · exact (State.changeTask_relisted v _ _ (by exact fun _ _ _ => ⟨rfl, rfl, rfl, id⟩) (by exact fun _ _ _ => rfl)).taskLaw hset
        · exact State.verifyFailed_taskLaw hset hsetOut _ _
    · exact law

theorem State.pick_taskLaw (law : s.TaskLaw) (hmem : t ∈ s.tasks) (hq : t.queued = false) (hmove : t.isMovement = true) (w : Nat) :
    (s.pick t w).TaskLaw := by
  have hcarried : ∀ v : State, v.tasks = s.tasks → Relisted s v →
      ((v.changeTask t.number fun x => { x with phase := some .carried }).setDeadline t.kind).TaskLaw := fun v hv hrel => by
    have hlink : v.link.state = .working := by rw [hrel.link]; exact law.working_of_mem hmem hq
    refine State.TaskLaw.relink (s := v.changeTask t.number fun x => { x with phase := some .carried }) ?_ (by simpa using hlink)
      (by simpa using hlink)
    · refine (hrel.trans (State.changeTask_relisted v _ _ ?_ ?_)).taskLaw law
      case refine_2 => exact fun _ _ _ => rfl
      refine fun x hx hn => ⟨rfl, rfl, rfl, fun hshape => ?_⟩
      rw [law.list.eq_of_number (hv ▸ hx) hmem hn] at hshape ⊢
      unfold TaskRecord.isMovement at hmove
      unfold TaskRecord.Shaped at hshape ⊢
      split at hmove
      · simp_all
      · cases hmove
  unfold State.pick
  split
  · exact hcarried _ (by simp) (((Relisted.refl s).setSlot _ _).changeWheel _ _)
  · exact hcarried _ (by simp) ((Relisted.refl s).changeWheel _ _)

theorem servePicked_taskLaw (law : s.TaskLaw) (r : TaskRef) : (servePicked r s).1.TaskLaw := by
  refine State.onReport_cases (P := State.TaskLaw) law fun t ht => ?_
  obtain ⟨hmem, hq⟩ := State.judge_current ht
  split
  · exact State.endIdle_taskLaw law.list (State.OnlyOut.of_mem law.list hmem hq) _
  · split
    · next h =>
      split
      · next w _ =>
        obtain ⟨⟨hmove, _⟩, _⟩ := by simpa using h
        exact State.pick_taskLaw law hmem hq hmove w
      · exact law
    · exact law

theorem serveSlotRead_taskLaw (law : s.TaskLaw) (r : TaskRef) (n : Nat) (tag : TagReport) : (serveSlotRead r n tag s).1.TaskLaw := by
  refine State.onReport_cases (P := State.TaskLaw) law fun t ht => ?_
  obtain ⟨hmem, hq⟩ := State.judge_current ht
  have hw := law.working_of_mem hmem hq
  split
  · exact State.endIdle_taskLaw law.list.congr ((State.OnlyOut.of_mem law.list hmem hq).subset (by simp)) _
  · split
    · next range hkind hrange =>
      split
      · split
        · unfold State.applySurvey
          have hcompared := s.compare_relisted (t.place.at s ‹_›) (classify tag)
          have hsub : (s.compare (t.place.at s ‹_›) (classify tag)).1.tasks ⊆ s.tasks := State.compare_tasks_subset _ _ _
          have hset : ((s.compare (t.place.at s ‹_›) (classify tag)).1.setPosition (some (t.place.at s ‹_›))).setDeadline .survey |>.TaskLaw :=
            (hcompared.taskLaw law).relink (by rw [hcompared.link]; exact hw) (by simp [hcompared.link, hw])
          refine (State.changeTask_relisted _ _ _ ?_ ?_).taskLaw hset
          case refine_2 => exact fun _ _ _ => rfl
          refine fun x hx hn => ⟨rfl, rfl, rfl, fun hshape => ?_⟩
          rw [law.list.eq_of_number (hsub (by simpa using hx)) hmem hn] at hshape ⊢
          simp_all [TaskRecord.Shaped]
        · exact law
      · exact law
    · exact law

/-! ### The ends of a task's work -/

theorem State.finish_taskLaw (law : s.TaskLaw) (hmem : t ∈ s.tasks) (hq : t.queued = false) (a b : Bool) : (s.finish t a b).TaskLaw := by
  have hout := State.OnlyOut.of_mem law.list hmem hq
  have hended : ∀ v : State, Relisted s v → v.tasks = s.tasks → (v.endTask t t.doneEnding).Cleared := fun v hv htasks =>
    State.endTask_cleared (hv.list law.list) (hout.subset (by rw [htasks]; exact List.Subset.refl _)) _
  have hdone : (if t.isMovement then s.complete t else if t.isCare then s.credit t a b else s).endTask t t.doneEnding |>.Cleared := by
    split
    · exact hended _ (s.complete_relisted t) (s.complete_tasks t)
    · split
      · exact hended _ (s.credit_relisted t a b) (s.credit_tasks t a b)
      · exact hended _ (.refl s) rfl
  unfold State.finish
  exact State.Cleared.taskLaw hdone.aside (by simp)

theorem serveDone_taskLaw (law : s.TaskLaw) (r : TaskRef) (a b : Bool) : (serveDone r a b s).1.TaskLaw := by
  refine State.onReport_cases (P := State.TaskLaw) law fun t ht => ?_
  obtain ⟨hmem, hq⟩ := State.judge_current ht
  split
  · exact State.finish_taskLaw law hmem hq a b
  · split
    · exact State.endIdle_taskLaw law.list (State.OnlyOut.of_mem law.list hmem hq) _
    · exact law

end

end Sys2Proof.Machine

namespace Sys2Proof.Machine

set_option Elab.async false

section
variable {s u : State} {t : TaskRecord}

/-! ### Faults and expiries -/

theorem State.robotFault_taskLaw (law : s.TaskLaw) (k : FaultKind) : (s.robotFault k).1.TaskLaw := by
  have hback : (if s.link.state = .working then s.takeBack else s).Cleared := by
    split
    · exact State.takeBack_cleared law
    · next h => exact law.cleared h
  have hl : faultState s.link.state (min 3 (s.link.faults + 1)) ≠ .working := by
    unfold faultState
    split
    · simp
    · split <;> simp
  unfold State.robotFault
  exact State.Cleared.taskLaw hback.aside (by simpa using hl)

theorem State.blockedVisit_taskLaw (law : s.TaskLaw) (hout : s.OnlyOut t) (c : Coord) : (s.blockedVisit t c).1.TaskLaw := by
  have hset : (s.setPosition (some c)).TaskLaw := law.aside
  have hlist := (((State.suspectOccupied_relisted (s.setPosition (some c)) c).record .blocked (some c) (s.slot c).handle none).list hset.list)
  have houtV := (hout.subset (u := s.setPosition (some c)) (by simp)).subset
    (u := ((s.setPosition (some c)).suspectOccupied c).record .blocked (some c) (s.slot c).handle none)
    (by simpa using State.suspectOccupied_tasks_subset (s.setPosition (some c)) c)
  unfold State.blockedVisit
  dsimp only
  split <;> exact State.endIdle_taskLaw hlist houtV _

theorem State.blockedDrop_taskLaw (law : s.TaskLaw) (hw : s.link.state = .working) (w : Nat) (i : Intent) (d : Coord) :
    (s.blockedDrop t w i d).1.TaskLaw := by
  have hset : (s.setPosition (some d)).TaskLaw := law.aside
  have hdoubted := ((State.makeSuspect_relisted (s.setPosition (some d)) d none).record .blocked (some d) none none)
  have hlink : (((s.setPosition (some d)).makeSuspect d none).record .blocked (some d) none none).link.state = .working := by simpa using hw
  unfold State.blockedDrop
  dsimp only
  generalize ((s.setPosition (some d)).makeSuspect d none).record .blocked (some d) none none = v at *
  have hverified : ({ v with link := { v.link with verified := true } } : State).TaskLaw := (hdoubted.taskLaw hset).relink hlink
  have hretargeted := (((Relisted.refl { v with link := { v.link with verified := true } }).setIntent w
    (some (retargetIntent i d))).alignTask w).trans (State.stampIssue_relisted _ t.number)
  have hstill := (congrArg RobotLink.state hretargeted.link).trans hlink
  have hlaw := hretargeted.taskLaw hverified
  generalize State.stampIssue _ t.number = e at *
  exact hlaw.relink hstill

theorem State.takeFault_taskLaw (law : s.TaskLaw) (k : FaultKind) : (s.takeFault k).1.TaskLaw := by
  unfold State.takeFault
  split
  · next hw hout =>
    split
    · split
      · split
        · exact State.blockedDrop_taskLaw law hw _ _ _
        · exact State.robotFault_taskLaw law _
      · exact State.blockedVisit_taskLaw law (State.OnlyOut.of_out law.list hout) _
    · exact State.robotFault_taskLaw law _
  · exact State.robotFault_taskLaw law _

theorem serveFault_taskLaw (law : s.TaskLaw) (form : BodyForm) (k : FaultKind) (r : Option TaskRef) :
    (serveFault form k r s).1.TaskLaw := by
  unfold serveFault
  split
  · refine State.onReport_cases (P := State.TaskLaw) law fun t ht => ?_
    split
    · exact law
    · exact State.takeFault_taskLaw law k
  · split
    · exact law
    · split
      · exact law
      · exact law
      · exact law
      · exact State.takeFault_taskLaw law k

theorem State.expireTask_taskLaw (law : s.TaskLaw) : s.expireTask.TaskLaw := by
  have hgranted : (s.grantInternal .taskDeadline).TaskLaw := law.aside
  unfold State.expireTask
  dsimp only
  split
  · exact State.Cleared.taskLaw (State.takeBack_cleared hgranted).aside (by simp)
  · exact hgranted

theorem State.expireHome_taskLaw (law : s.TaskLaw) : s.expireHome.TaskLaw := by
  have hgranted : (s.grantInternal .homeDeadline).TaskLaw := law.aside
  unfold State.expireHome
  dsimp only
  split
  · next h => exact State.Cleared.taskLaw (hgranted.cleared fun hw => by rcases h.2 with h | h <;> rw [h] at hw <;> cases hw).aside (by simp)
  · exact hgranted

/-! ### The host's requests -/

theorem State.onWheel_taskLaw (law : s.TaskLaw) {w : Nat} {k : Wheel → State × Reply} (hk : ∀ x, s.wheel w = some x → (k x).1.TaskLaw) :
    (s.onWheel w k).1.TaskLaw :=
  State.onWheel_cases (P := State.TaskLaw) law fun x _ hx => hk x hx

theorem State.onBoard_taskLaw (law : s.TaskLaw) {l p : Nat} {k : Coord → State × Reply} (hk : ∀ c, (k c).1.TaskLaw) :
    (s.onBoard l p k).1.TaskLaw :=
  State.onBoard_cases (P := State.TaskLaw) law fun c _ => hk c

theorem serveHold_taskLaw (law : s.TaskLaw) (form : BodyForm) (w : Nat) (k : Hold) : (serveHold form w k s).1.TaskLaw := by
  refine State.onWheel_taskLaw law fun x _ => ?_
  split
  · exact law
  · split
    · exact law
    · split
      · exact law
      · exact (((Relisted.refl s).changeWheel _ _).withdrawWhere _).taskLaw law
    · exact (((Relisted.refl s).changeWheel _ _).withdrawWhere _).taskLaw law

theorem serveBookIn_taskLaw (law : s.TaskLaw) (tag : TagId) (b e c : Nat) (slot : SlotChoice) (q : Bool) :
    (serveBookIn tag b e c slot q s).1.TaskLaw := by
  unfold serveBookIn
  repeat' split
  all_goals first
    | exact law
    | exact (Relisted.trans (.aside) (State.offerMovement_relisted law.list.congr _)).taskLaw law

theorem serveRelocate_taskLaw (law : s.TaskLaw) (a b c d : Nat) : (serveRelocate a b c d s).1.TaskLaw := by
  unfold serveRelocate
  split
  · split
    · unfold State.relocate
      split
      · exact law
      · split
        · exact law
        · split
          · exact law
          · split
            · exact law
            · exact (State.startMove_relisted law.list _ _).taskLaw law
    · exact law
  · exact law

theorem serveBookOut_taskLaw (law : s.TaskLaw) (w : Nat) : (serveBookOut w s).1.TaskLaw := by
  refine State.onWheel_taskLaw law fun x _ => ?_
  split
  · split
    · have hwithdrawn : Relisted s (s.withdrawMovement w) := (Relisted.refl s).withdrawWhere _
      rw [accept_fst]
      unfold State.bookOutInfeed
      split
      · exact ((hwithdrawn.freeDestination _ _).deleteWheel _).taskLaw law
      · exact (hwithdrawn.deleteWheel _).taskLaw law
    · exact law
  · split
    · exact (State.startMove_relisted law.list _ _).taskLaw law
    · exact law
  · exact law

theorem State.requestAbort_taskLaw (law : s.TaskLaw) (hmem : t ∈ s.tasks) (hq : t.queued = false) : (s.requestAbort t.number).TaskLaw := by
  refine ((State.changeTask_relisted s t.number (fun t => { t with state := .aborting }) (by exact fun _ _ _ => ⟨rfl, rfl, rfl, id⟩) ?_).raise
    .robot .abortRequested).taskLaw law
  intro x hx hn
  rw [law.list.eq_of_number hx hmem hn, hq]
  rfl

theorem serveCancelMove_taskLaw (law : s.TaskLaw) (w : Nat) : (serveCancelMove w s).1.TaskLaw := by
  refine State.onWheel_taskLaw law fun x _ => ?_
  split
  · exact law
  · split
    · exact law
    · split
      · next ht =>
        have hq := List.find?_some ht
        split
        · exact law
        · exact State.requestAbort_taskLaw law (List.mem_of_find?_eq_some ht) (by simp only [Bool.and_eq_true, Bool.not_eq_true'] at hq; exact hq.2)
      · exact (((Relisted.refl s).withdrawWhere _).endIntent _ _).taskLaw law

theorem State.abortQueued_taskLaw (law : s.TaskLaw) (t : TaskRecord) : (s.abortQueued t).TaskLaw := by
  have hwithdrawn : Relisted s (s.withdraw t.number) := (Relisted.refl s).withdrawWhere _
  unfold State.abortQueued
  dsimp only
  split
  · split
    · exact (hwithdrawn.endIntent _ _).taskLaw law
    · exact hwithdrawn.taskLaw law
  · exact hwithdrawn.taskLaw law

theorem serveAbortTask_taskLaw (law : s.TaskLaw) (n : Nat) : (serveAbortTask n s).1.TaskLaw := by
  unfold serveAbortTask
  split
  · split
    · exact law
    · next t ht =>
      split
      · exact law
      · split
        · exact law
        · split
          · exact State.abortQueued_taskLaw law t
          · next hq => exact State.requestAbort_taskLaw law (List.mem_of_find?_eq_some ht) (by simpa using hq)
  · exact law

theorem serveRequestSurvey_taskLaw (law : s.TaskLaw) (l a b : Nat) : (serveRequestSurvey l a b s).1.TaskLaw := by
  unfold serveRequestSurvey
  split
  · split
    · unfold State.enterSurvey
      split
      · next ho =>
        exact (State.offerNonCare_relisted law.list ho ⟨rfl, ⟨_, _, rfl⟩, rfl, rfl, rfl⟩ rfl).after.taskLaw law
      · exact law
    · exact law
  · exact law

theorem State.releaseWheel_relisted (s : State) (w : Nat) : Relisted s (s.releaseWheel w) := by
  unfold State.releaseWheel
  split
  · split <;> exact .aside
  · exact .aside

theorem State.clearSlot_relisted (s : State) (c : Coord) : Relisted s (s.clearSlot c).1 := by
  unfold State.clearSlot
  split
  · exact ((Relisted.refl s).setSlot _ _).trans (State.releaseWheel_relisted _ _)
  · exact .aside
  · exact .aside

theorem State.assign_relisted (s : State) (c : Coord) (tag : TagId) : Relisted s (s.assign c tag).1 := by
  have hvacated : ∀ w x, Relisted s (s.vacate w x) := fun w x => by
    unfold State.vacate
    split
    · exact ((Relisted.refl s).withdrawWhere _).setSlot _ _
    · exact .refl s
  have hassigned : ∀ w x, Relisted s (s.assignTo c w x).1 := fun w x => by
    unfold State.assignTo
    split
    · exact .aside
    · dsimp only
      split
      · exact ((hvacated w x).trans (State.releaseWheel_relisted _ _)).placeIn _ _
      · exact (hvacated w x).placeIn _ _
  unfold State.assign
  split
  · exact .refl s
  · split
    · exact .refl s
    · split
      · exact .refl s
      · split
        · exact .refl s
        · split
          · exact .refl s
          · exact hassigned _ _

/-! ### The sweep -/

theorem State.visitMovement_relisted (law : s.ListLaw) (w : Nat) (x : Wheel) : Relisted s (s.visitMovement w x).1 := by
  unfold State.visitMovement
  split
  · exact .refl s
  · split
    · split
      · next ho => exact State.offerNonCare_relisted law ho (s.movementTask_shaped _ _ _) rfl
      · exact .refl s
    · exact .refl s

theorem State.offerCandidate_relisted (law : s.ListLaw) {x : TaskRecord} (hshape : x.Shaped) (hcare : x.isCare = true) :
    Relisted s (s.offerCandidate x).1 := by
  unfold State.offerCandidate
  split
  · next ho => exact State.offerCare_relisted law ho hshape hcare
  · exact (Relisted.refl s).raise _ _

theorem State.visitFlip_relisted (law : s.ListLaw) (w : Nat) (x : Wheel) : Relisted s (s.visitFlip w x).1 := by
  unfold State.visitFlip
  split
  · split
    · exact State.offerCandidate_relisted law ⟨rfl, ⟨_, rfl⟩, rfl, rfl, rfl⟩ rfl
    · exact .refl s
  · exact .refl s

theorem State.visitBrush_relisted (law : s.ListLaw) (w : Nat) (x : Wheel) : Relisted s (s.visitBrush w x).1 := by
  unfold State.visitBrush
  split
  · split
    · exact State.offerCandidate_relisted law ⟨rfl, ⟨_, rfl⟩, rfl, rfl, rfl⟩ rfl
    · exact .refl s
  · exact .refl s

theorem State.visitOffers_relisted (law : s.ListLaw) (w : Nat) (x : Wheel) : Relisted s (s.visitOffers w x).1 := by
  have hmove := State.visitMovement_relisted law w x
  have hflip := State.visitFlip_relisted (hmove.list law) w x
  have hbrush := State.visitBrush_relisted (hflip.list (hmove.list law)) w x
  exact (hmove.trans hflip).trans hbrush

theorem State.sweepVisit_taskLaw (law : s.TaskLaw) : s.sweepVisit.TaskLaw := by
  have hgranted : (s.grantSweep).TaskLaw := law.aside
  unfold State.sweepVisit
  split
  · dsimp only
    split
    · next w _ _ =>
      have hvisited : Relisted s.grantSweep (s.grantSweep.visit w) := by
        unfold State.visit
        dsimp only
        split
        · exact (Relisted.refl _).computeDues _
        · exact (((Relisted.refl _).computeDues _).trans (State.visitOffers_relisted hgranted.list.congr w _)).testIf _
      exact (hvisited.taskLaw hgranted).aside
    · exact hgranted.aside
  · exact law

end

end Sys2Proof.Machine

namespace Sys2Proof.Machine

set_option Elab.async false

section
variable {s : State}

theorem State.endExclusion_taskLaw (law : s.TaskLaw) (z : ZoneNumber) : (s.endExclusion z).TaskLaw := by
  have hcleared : (s.changeZone z fun x => { x with exclusion := .none }).TaskLaw := law.changeZone _ _
  unfold State.endExclusion
  generalize s.changeZone z (fun x => { x with exclusion := .none }) = v at *
  exact hcleared.aside

theorem Zone.update_presence (z : Zone) (l : ZoneLimits) (now : Nat) (r : ZoneReadings) : (z.update l now r).presence = z.presence := by
  unfold Zone.update
  split
  · unfold Zone.quietUpdate
    dsimp only
    split <;> rfl
  · unfold Zone.liveUpdate Zone.append
    dsimp only
    split <;> rfl

theorem State.takeHanded_taskLaw (law : s.TaskLaw) : s.takeHanded.TaskLaw := by
  have hgranted : (s.grantInternal .zoneUpdate).TaskLaw := law.aside
  unfold State.takeHanded
  dsimp only
  split
  · exact hgranted
  · next p rest _ =>
    have hupdated : ∀ u : State, u.TaskLaw → (u.updateZones p).TaskLaw := fun u hu => by
      have hzoned : ({ u with zones := u.updatedZones p } : State).TaskLaw :=
        hu.aside rfl rfl rfl rfl rfl rfl fun z => by simp [State.zone, State.updatedZones, Zone.update_presence]
      unfold State.updateZones State.zoneNotices
      dsimp only
      generalize ({ u with zones := u.updatedZones p } : State) = v at *
      exact ((Relisted.withdrawWhere .aside _).testIf _).taskLaw hzoned
    exact hupdated _ (hgranted.aside rfl rfl rfl rfl rfl rfl fun _ => rfl)

theorem State.countMinute_taskLaw (law : s.TaskLaw) : s.countMinute.TaskLaw := by
  have htick : ∀ z : ZoneNumber, (s.countMinute.zone z).presence = (s.zone z).presence := fun z => by
    simp [State.zone, State.countMinute, Zone.tick]
  by_cases hw : s.link.state = .working
  · exact law.relink hw hw rfl rfl
  · have hnone := (law.cleared hw).deadline
    exact State.Cleared.taskLaw ((law.cleared hw).aside rfl rfl (by simp [State.countMinute, countDown, hnone]) rfl rfl htick) hw

theorem serveWriteZoneMap_relisted (s : State) (a : Nat) (zs : Vector Nat 12) : Relisted s (serveWriteZoneMap a zs s).1 := by
  unfold serveWriteZoneMap
  split
  · split
    · unfold State.takeZoneMap
      exact ((Relisted.trans .aside (State.withdrawWhere_relisted _ _)).testIf true)
    · exact .refl s
  · exact .refl s

theorem serveLimits_taskLaw (law : s.TaskLaw) (z : Nat) (l : RawLimits) : (serveLimits z l s).1.TaskLaw := by
  unfold serveLimits
  split
  · exact law
  · refine onZone_cases law fun _ => ?_
    split
    · exact law
    · exact law.aside

theorem serveWriteCareClass_taskLaw (law : s.TaskLaw) (n : Nat) (x : RawClass) : (serveWriteCareClass n x s).1.TaskLaw := by
  unfold serveWriteCareClass
  split
  · split
    · exact law
    · split
      · exact law
      · exact law.aside rfl rfl rfl rfl rfl rfl fun _ => rfl
  · exact law

theorem serveWriteRobot_taskLaw (law : s.TaskLaw) (r : RawRobot) : (serveWriteRobot r s).1.TaskLaw := by
  unfold serveWriteRobot
  split
  · exact law.aside rfl rfl rfl rfl rfl rfl fun _ => rfl
  · exact law

theorem serveWriteSweep_taskLaw (law : s.TaskLaw) (p : Nat) : (serveWriteSweep p s).1.TaskLaw := by
  unfold serveWriteSweep
  split
  · exact law.aside rfl rfl rfl rfl rfl rfl fun _ => rfl
  · exact law

theorem serveWriteSensor_taskLaw (law : s.TaskLaw) (p : Nat) (hs : Vector (Option Nat) 24) : (serveWriteSensor p hs s).1.TaskLaw := by
  unfold serveWriteSensor
  split
  · exact law.aside rfl rfl rfl rfl rfl rfl fun _ => rfl
  · exact law

theorem effectOf_taskLaw (c : Instr) (s : State) (law : s.TaskLaw) : (effectOf c s).TaskLaw := by
  cases c with
  | ready f k p r => exact serveReady_taskLaw law k p r
  | take f => exact serveTake_taskLaw law
  | homed f => exact serveHomed_taskLaw law
  | arrived f r tag => exact serveArrived_taskLaw law r tag
  | picked f r => exact servePicked_taskLaw law r
  | slotRead f r n tag => exact serveSlotRead_taskLaw law r n tag
  | doneReport f r a b => exact serveDone_taskLaw law r a b
  | faultReport f k r => exact serveFault_taskLaw law _ k r
  | slotBlocked f r => exact serveFault_taskLaw law _ _ r
  | holdWheel f w k => exact serveHold_taskLaw law _ w k
  | bookIn f tag b e c sl q => exact serveBookIn_taskLaw law tag b e c sl q
  | relocate f a b c d => exact serveRelocate_taskLaw law a b c d
  | bookOut f w => exact serveBookOut_taskLaw law w
  | cancelMove f w => exact serveCancelMove_taskLaw law w
  | abortTask f n => exact serveAbortTask_taskLaw law n
  | requestSurvey f l a b => exact serveRequestSurvey_taskLaw law l a b
  | setZoneLimits f z l => exact serveLimits_taskLaw law z l
  | writeConfigZone f z l => exact named_cases law (serveLimits_taskLaw law z l)
  | ackZone f z => exact onZone_cases law fun z => by dsimp only [accept_fst]; exact law.changeZone _ _
  | startCapture f z n =>
    refine onZone_cases law fun _ => ?_
    split
    · dsimp only [accept_fst]
      exact law.changeZone _ _
    · exact law
  | stopCapture f z => exact onZone_cases law fun z => by dsimp only [accept_fst]; exact law.changeZone _ _
  | readCapture f z n =>
    refine onZone_cases law fun _ => ?_
    split
    · dsimp only [accept_fst]
      exact law.changeZone _ _
    · exact law
  | endExclusion f z =>
    refine onZone_cases law fun _ => ?_
    split
    · exact law
    · exact State.endExclusion_taskLaw law _
  | requestExclusion f z m => exact onZone_cases law fun z => by dsimp only [accept_fst]; exact law.changeZone _ _
  | setSlotFault f l p =>
    refine State.onBoard_taskLaw law fun c => ?_
    split
    · exact law.aside
    · exact law
  | clearSlotFault f l p =>
    refine State.onBoard_taskLaw law fun c => ?_
    split
    · exact law.aside
    · exact law
  | setClass f w n =>
    refine State.onWheel_taskLaw law fun x _ => ?_
    split
    · exact law.aside
    · exact law
  | release f w =>
    refine State.onWheel_taskLaw law fun x _ => ?_
    split
    · exact law
    · exact law.aside (u := s.setHold w .none) rfl rfl rfl rfl rfl rfl fun _ => rfl
  | clearCareFault f w =>
    refine State.onWheel_taskLaw law fun x _ => ?_
    split
    · exact law.aside
    · exact law
  | pauseDispatch f => exact law.aside rfl rfl rfl rfl rfl rfl fun _ => rfl
  | resumeDispatch f => exact law.aside rfl rfl rfl rfl rfl rfl fun _ => rfl
  | clearRobotHalt f =>
    show (serveClearRobotHalt s).1.TaskLaw
    unfold serveClearRobotHalt
    split
    · next h => exact State.Cleared.taskLaw (law.cleared (by simp [h])).aside (by simp)
    · exact law
  | resolveSlotConfirm f l p =>
    refine State.onBoard_taskLaw law fun c => named_cases law ?_
    unfold State.confirm
    split
    · exact law.aside
    · exact law
  | resolveSlotClear f l p => exact State.onBoard_taskLaw law fun c => named_cases law ((s.clearSlot_relisted c).taskLaw law)
  | resolveSlotAssign f l p tag => exact State.onBoard_taskLaw law fun c => named_cases law ((s.assign_relisted c tag).taskLaw law)
  | resolveWheelPlaceAt f w l p =>
    refine State.onBoard_taskLaw law fun c => State.onWheel_taskLaw law fun x _ => named_cases law ?_
    unfold State.placeAt
    split
    · exact law
    · split
      · exact law
      · split
        · exact law
        · exact law.aside
  | resolveWheelDelete f w =>
    refine State.onWheel_taskLaw law fun x _ => named_cases law ?_
    split
    · exact law.aside
    · exact law
  | writeConfigGeometry f a l n q =>
    refine named_cases law ?_
    unfold serveWriteGeometry
    split
    · exact law
    · split
      · exact law.aside rfl rfl rfl rfl rfl rfl fun _ => rfl
      · exact law
  | writeConfigZoneMap f a zs => exact named_cases law ((serveWriteZoneMap_relisted s a zs).taskLaw law)
  | writeConfigCareClass f n x => exact named_cases law (serveWriteCareClass_taskLaw law _ _)
  | writeConfigRobot f r => exact named_cases law (serveWriteRobot_taskLaw law _)
  | writeConfigSweep f p => exact named_cases law (serveWriteSweep_taskLaw law _)
  | writeConfigSensor f p hs => exact named_cases law (serveWriteSensor_taskLaw law _ _)
  | minuteEvent => exact State.countMinute_taskLaw law
  | sweepVisit => exact State.sweepVisit_taskLaw law
  | taskDeadlineExpiry => exact State.expireTask_taskLaw law
  | homeOrderExpiry => exact State.expireHome_taskLaw law
  | exclusionEnding z =>
    have hgranted : (s.grantInternal (.exclusionEnd z)).TaskLaw := law.aside
    show (s.exclusionEnding z).TaskLaw
    unfold State.exclusionEnding
    dsimp only
    split
    · exact State.endExclusion_taskLaw hgranted z
    · exact hgranted
  | zoneUpdate => exact State.takeHanded_taskLaw law
  | _ => exact law

theorem Alike.taskLaw {t : State} (law : s.TaskLaw) (h : Alike s t) : t.TaskLaw :=
  law.aside h.tasks (by rw [h.dispatch]) (by rw [h.link]) (by rw [h.link]) (by rw [h.link]) (by rw [h.link])
    fun z => by rw [State.zone_congr h.zones]

theorem State.restarted_taskLaw (s : State) (i : StartInputs) : (s.restarted i).TaskLaw := by
  refine ⟨List.nodup_nil, by simp [State.restarted], ⟨List.Pairwise.nil, by simp [State.restarted]⟩, ⟨Nat.zero_le _, Nat.zero_le _,
    Nat.zero_le _⟩, Nat.zero_le _, by simp [State.restarted, RobotLink.initial], fun _ => ⟨rfl, rfl, rfl, fun z => ?_⟩⟩
  have hz : (s.restarted i).zone z = Zone.initial := by simp [State.restarted, State.zone]
  rw [hz]
  rfl

end

/-- Settles O56: the effect of every command keeps the law, and a start empties the list. -/
theorem stepsKeepTheTaskList : Obligations.StepsKeepTheTaskList := fun _ _ law hstep =>
  step_keeps_of_effects (P := State.TaskLaw) Alike.taskLaw effectOf_taskLaw (fun s i lost _ => (s.kept lost).restarted_taskLaw i) law hstep

end Sys2Proof.Machine


namespace Sys2Proof.Machine

set_option Elab.async false

/-! ## The arbiter's rule (R186) -/

/-- In a list whose values rise, a search finds the element of least value among those that pass. -/
theorem find?_of_least {α : Type} {l : List α} {f : α → Nat} {w : α → Bool} {c : α} (hrising : l.Pairwise (f · < f ·))
    (hmem : c ∈ l) (hpass : w c = true) (hleast : ∀ d ∈ l, w d = true → f c ≤ f d) : l.find? w = some c := by
  induction l with
  | nil => simp at hmem
  | cons a l ih =>
    obtain ⟨ha, hl⟩ := List.pairwise_cons.1 hrising
    by_cases hwa : w a = true
    · have hca : f c ≤ f a := hleast a (by simp) hwa
      obtain rfl | hcl := List.mem_cons.1 hmem
      · simp [hwa]
      · have := ha c hcl; omega
    · have hcl : c ∈ l := (List.mem_cons.1 hmem).resolve_left (by rintro rfl; exact hwa hpass)
      rw [List.find?_cons_of_neg hwa]
      exact ih hl hcl fun d hd => hleast d (List.mem_cons_of_mem _ hd)

/-- How far a place of the cycle stands behind the place after another. -/
def CyclePlace.behind (last c : CyclePlace) : Nat :=
  let turn : List Requester := [.port .management, .port .robot, .port .climate, .sweep]
  (turn.idxOf c.requester + 3 - turn.idxOf last.requester) % 4

/-- The places that follow a place stand in the order of their distance. -/
theorem CyclePlace.following_rising (last : CyclePlace) : last.following.Pairwise (last.behind · < last.behind ·) := by
  obtain (_ | _ | _) | _ := last <;> decide

theorem CyclePlace.mem_following (last c : CyclePlace) : c ∈ last.following := by
  obtain (_ | _ | _) | _ := last <;> obtain (_ | _ | _) | _ := c <;> decide

/-- Each requester of the cycle has its place. -/
theorem CyclePlace.exists_requester {r : Requester}
    (h : r ∈ [Requester.port .management, .port .robot, .port .climate, .sweep]) : ∃ c : CyclePlace, c.requester = r := by
  fin_cases h
  exacts [⟨.port .management, rfl⟩, ⟨.port .robot, rfl⟩, ⟨.port .climate, rfl⟩, ⟨.sweep, rfl⟩]

theorem CyclePlace.requester_mem (c : CyclePlace) :
    c.requester ∈ [Requester.port .management, .port .robot, .port .climate, .sweep] := by
  obtain (_ | _ | _) | _ := c <;> simp [CyclePlace.requester]

/-- A place waits when its requester does. -/
theorem State.placeWaits_iff (s : State) (ports : List Port) (c : CyclePlace) :
    s.placeWaits ports c = true ↔ (∃ p ∈ ports, c.requester = .port p) ∨ (c.requester = .sweep ∧ s.sweep.running = true) := by
  cases c <;> simp [State.placeWaits, CyclePlace.requester]

/-- Settles O6: the rule's three ranks in their order; within the cycle by the distance from the place granted last. -/
theorem arbiterGrantsByTheRule : Obligations.ArbiterGrantsByTheRule := by
  unfold Obligations.ArbiterGrantsByTheRule
  intro s ports turn waits place last distance
  have hplace : ∀ c : CyclePlace, distance c.requester = s.arbiter.cycleLast.behind c := by
    intro c
    rcases h : s.arbiter.cycleLast with p | _ <;> simp only [distance, last, h] <;> rfl
  refine ⟨fun hrun hfour => by simp [State.nextGrant, hrun, hfour], fun hother => ?_⟩
  have hsweep : ¬ (s.sweep.running = true ∧ 4 ≤ s.arbiter.passedOver) := by
    rintro ⟨hrun, hfour⟩
    rcases hother with h | h
    · simp [h] at hrun
    · omega
  refine ⟨fun i rest hasked => by simp [State.nextGrant, hsweep, hasked], fun hasked => ?_⟩
  have hgrant : s.nextGrant ports =
      (s.arbiter.cycleLast.following.find? fun c => s.placeWaits ports c).map CyclePlace.requester := by
    simp [State.nextGrant, hsweep, hasked]
  rw [hgrant]
  constructor
  · intro r hr hwaits hleast
    obtain ⟨c, rfl⟩ := CyclePlace.exists_requester hr
    have hfound : s.arbiter.cycleLast.following.find? (s.placeWaits ports) = some c := by
      refine find?_of_least s.arbiter.cycleLast.following_rising (s.arbiter.cycleLast.mem_following c)
        ((s.placeWaits_iff ports c).2 hwaits) fun d _ hd => ?_
      rw [← hplace, ← hplace]
      exact hleast _ d.requester_mem ((s.placeWaits_iff ports d).1 hd)
    rw [hfound]
    rfl
  · intro hnone
    have hfound : s.arbiter.cycleLast.following.find? (s.placeWaits ports) = none := by
      rw [List.find?_eq_none]
      intro c _ hc
      exact hnone _ c.requester_mem ((s.placeWaits_iff ports c).1 hc)
    rw [hfound]
    rfl

/-! ## READ_NOTICES and SET_NOTICE_MASK -/

theorem readNotices_permitted (p : Port) : RequestKind.readNotices.permitted p = true := by cases p <;> rfl
theorem setNoticeMask_permitted (p : Port) : RequestKind.setNoticeMask.permitted p = true := by cases p <;> rfl

/-- A request whose effect writes the record of its own port, in fields that the receiver does not look at, is answered as by a port
that held the record so written from the start. -/
theorem request_writes_port {s : State} {p : Port} (h : s.serves p) {k : RequestKind} (hk : k.permitted p = true)
    {effect : State → State × Reply} {b : Body} {r : PortRecord}
    (he : effect ((s.received p).grantPort p) = accept (((s.received p).grantPort p).setPort p r.received) b) :
    s.request (proper p) k effect = (((s.setPort p r).received p).grantPort p).answer p k.code ⟨.ok, b⟩ := by
  rw [request_served h hk, he]
  simp [State.received, State.grantPort_setPort, accept]

theorem received_sets_notices (r : PortRecord) (set : List Notice) :
    { r with notices := set }.received = { r.received with notices := set } := by
  simp only [received_eq, PortRecord.rxAfter]

theorem received_sets_mask (r : PortRecord) (mask : List Notice) :
    { r with mask := mask }.received = { r.received with mask := mask } := by
  simp only [received_eq, PortRecord.rxAfter]

/-- An answer keeps the notice set of its port. -/
theorem answer_notices (r : PortRecord) (code : Nat) (reply : Reply) : (r.answer code reply).notices = r.notices := by
  unfold PortRecord.answer; split <;> rfl

/-- R185: a list with one flag for each kind of a port fits, and sets the kinds flagged. -/
theorem flagsFit_map (p : Port) (enable : Notice → Bool) : flagsFit p ((portNotices p).map fun n => (n, enable n)) = true := by
  simp [flagsFit, Function.comp_def]

theorem maskOf_map (p : Port) (enable : Notice → Bool) :
    maskOf p ((portNotices p).map fun n => (n, enable n)) = (portNotices p).filter enable := by
  refine List.filter_congr fun n hn => ?_
  rw [Bool.eq_iff_iff]
  simp [hn]

theorem maskFlags_filter (p : Port) (enable : Notice → Bool) :
    maskFlags p ((portNotices p).filter enable) = (portNotices p).map fun n => (n, enable n) := by
  refine List.map_congr_left fun n hn => ?_
  rw [Prod.mk.injEq, Bool.eq_iff_iff]
  simp [hn]

theorem portNotices_nodup (p : Port) : (portNotices p).Nodup := by cases p <;> decide

/-- R185: a list of flags that carries a kind of another port does not fit: it has no room left for one of the port's own. -/
theorem flagsFit_foreign {p : Port} {flags : List (Notice × Bool)} (h : ∃ e ∈ flags, e.1 ∉ portNotices p) :
    flagsFit p flags = false := by
  rw [Bool.eq_false_iff]
  intro hfit
  obtain ⟨e, he, hforeign⟩ := h
  simp only [flagsFit, Bool.and_eq_true, beq_iff_eq, List.all_eq_true, List.contains_iff_mem] at hfit
  obtain ⟨hlength, hall⟩ := hfit
  have hcons : (e.1 :: portNotices p).Nodup := List.nodup_cons.2 ⟨hforeign, portNotices_nodup p⟩
  have hsub : e.1 :: portNotices p ⊆ flags.map Prod.fst := by
    intro n hn
    obtain rfl | hn := List.mem_cons.1 hn
    · exact List.mem_map_of_mem he
    · exact hall n hn
  have := (List.subperm_of_subset hcons hsub).length_le
  simp at this
  omega

/-- R185: a list of flags that does not fit is refused. -/
theorem serveSetNoticeMask_of_unfit {s : State} {p : Port} {flags : List (Notice × Bool)} (h : flagsFit p flags = false) :
    serveSetNoticeMask p flags s = refuse s .badField := by
  simp [serveSetNoticeMask, h]

/-- Settles O9: READ_NOTICES, the mask set and refused, and the attention line. -/
theorem noticesAreRaisedReadAndMasked : Obligations.NoticesAreRaisedReadAndMasked := by
  unfold Obligations.NoticesAreRaisedReadAndMasked
  refine ⟨fun s p hs => ?read, fun s p enable hs => ?mask, fun s p flags hs hforeign => ?foreign, fun s p => ?line⟩
  case read =>
    have hreq : s.request (proper p) .readNotices (serveReadNotices p) =
        (((s.setPort p { s.port p with notices := [] }).received p).grantPort p).answer p RequestKind.readNotices.code
          ⟨.ok, .notices (s.port p).notices⟩ := by
      refine request_writes_port hs (readNotices_permitted p) ?_
      simp [serveReadNotices, received_sets_notices]
    refine ⟨_, rfl, (congrArg State.inside hreq).trans (by simp), ?_, hreq ▸ served_granted _ p _ _⟩
    exact (congrArg (fun t => (State.port t p).notices) hreq).trans (by simp [answer_notices])
  case mask =>
    have hreq : s.request (proper p) .setNoticeMask (serveSetNoticeMask p ((portNotices p).map fun n => (n, enable n))) =
        (((s.setPort p { s.port p with mask := (portNotices p).filter enable }).received p).grantPort p).answer p
          RequestKind.setNoticeMask.code ⟨.ok, .mask ((portNotices p).map fun n => (n, enable n))⟩ := by
      refine request_writes_port hs (setNoticeMask_permitted p) ?_
      simp [serveSetNoticeMask, flagsFit_map, maskOf_map, maskFlags_filter, received_sets_mask]
    exact ⟨_, rfl, (congrArg State.inside hreq).trans (by simp), hreq ▸ served_granted _ p _ _⟩
  case foreign =>
    exact ⟨_, rfl, request_refused hs (setNoticeMask_permitted p) (serveSetNoticeMask_of_unfit (flagsFit_foreign hforeign))⟩
  case line => simp [State.attention]

end Sys2Proof.Machine


namespace Sys2Proof.Machine

set_option Elab.async false

/-- The state at the start of the grant of a port's request. -/
abbrev State.inGrant (s : State) (p : Port) : State := (s.received p).grantPort p

/-! ## Requests that name a board, a wheel, or an unlisted value -/

/-- The window of a port stands through the start of a grant. -/
@[simp] theorem State.window_granted (s : State) (p q : Port) :
    (((s.received p).grantPort p).port q).window = (s.port q).window := by
  by_cases h : q = p
  · subst h; simp [received_eq]
  · simp [h]

/-- The boards that management requests name are the same in the grant. -/
theorem State.sourceBoard_granted (s : State) (p : Port) (level position : Nat) :
    ((s.received p).grantPort p).sourceBoard level position = s.sourceBoard level position := by
  have hwindow := s.window_granted p .management
  simp only [State.port, Ports.get] at hwindow
  unfold State.sourceBoard State.boardIn
  rw [hwindow]
  rfl

/-- R11: parts inside the geometry name their board. -/
theorem State.boardIn_of_inside {s : State} {c : Coord} (hlevel : c.level.val < s.config.geometry.levels)
    (hposition : c.position.val < s.config.geometry.positions) : s.boardIn c.aisle c.level c.position = some c := by
  simp [State.boardIn, Coord.ofParts, hlevel, hposition]

/-- R11: a level or position outside the geometry names no board. -/
theorem State.boardIn_of_outside {s : State} {aisle : Fin 16} {level position : Nat} (h : s.outside level position) :
    s.boardIn aisle level position = none := by
  have hout : ¬ (level < s.config.geometry.levels ∧ position < s.config.geometry.positions) := by
    rintro ⟨hl, hp⟩
    rcases h with h | h <;> omega
  simp [State.boardIn, hout]

/-- R11: a request that names a board the window reaches works on it. -/
theorem State.onBoard_of_reaches {s : State} {c : Coord} (h : s.reaches c) (k : Coord → State × Reply) :
    ((s.received .management).grantPort .management).onBoard c.level c.position k = k c := by
  obtain ⟨haisle, hlevel, hposition⟩ := h
  have hboard : s.sourceBoard c.level c.position = some c := by
    have hinside := State.boardIn_of_inside hlevel hposition
    rw [haisle] at hinside
    exact hinside
  simp [State.onBoard, State.sourceBoard_granted, hboard]

/-- R11: a request that names no board of the geometry is refused. -/
theorem State.onBoard_of_outside {s : State} {level position : Nat} (h : s.outside level position) (k : Coord → State × Reply) :
    ((s.received .management).grantPort .management).onBoard level position k =
      refuse ((s.received .management).grantPort .management) .badField := by
  have hboard : s.sourceBoard level position = none := State.boardIn_of_outside h
  simp [State.onBoard, State.sourceBoard_granted, hboard]

/-- 02 section 2.4: a request that names a wheel works on its record. -/
theorem State.onWheel_of_some {s : State} {w : Nat} {x : Wheel} (hw : w < Config.handles) (hx : s.wheel w = some x)
    (k : Wheel → State × Reply) : s.onWheel w k = k x := by
  simp [State.onWheel, hw, hx]

/-- 02 section 2.4: a free handle is NOT_FOUND. -/
theorem State.onWheel_of_none {s : State} {w : Nat} (hw : w < Config.handles) (hx : s.wheel w = none)
    (k : Wheel → State × Reply) : s.onWheel w k = refuse s .notFound := by
  simp [State.onWheel, hw, hx]

/-- 02 section 2.4: a handle above 8191 is BAD_FIELD. -/
theorem State.onWheel_of_above {s : State} {w : Nat} (hw : Config.handles ≤ w) (k : Wheel → State × Reply) :
    s.onWheel w k = refuse s .badField := by
  simp [State.onWheel, Nat.not_lt.2 hw]

/-- A zone number below 8 names its zone. -/
theorem onZone_of_fin (s : State) (z : ZoneNumber) (k : ZoneNumber → State × Reply) : onZone s z k = k z := by
  simp [onZone]

/-- A zone number above 7 is BAD_FIELD. -/
theorem onZone_of_above {s : State} {n : Nat} (hn : 8 ≤ n) (k : ZoneNumber → State × Reply) :
    onZone s n k = refuse s .badField := by
  simp [onZone, Nat.not_lt.2 hn]

/-- A frame that carries an unlisted name is admitted as a proper one. -/
theorem State.request_badName (s : State) (p : Port) (k : RequestKind) (effect : State → State × Reply) :
    s.request { port := p, form := .badName } k effect = s.request (proper p) k effect := by
  simp [State.request, State.receive, State.admission, proper]

/-! ## The reads -/

theorem listLevel_permitted {p : Port} (h : p ≠ .climate) : RequestKind.listLevel.permitted p = true := by
  cases p
  exacts [rfl, rfl, absurd rfl h]

/-- R13: in a hall of at most 48 positions every position of a level has its board. -/
theorem State.levelStates_eq {s : State} (hpositions : s.config.geometry.positions ≤ 48) (aisle : Fin 16) {level : Fin 12}
    (hlevel : level.val < s.config.geometry.levels) :
    s.levelStates aisle level =
      (List.range s.config.geometry.positions).map fun n => (s.slot ⟨aisle, level, Fin.ofNat 48 n⟩).name := by
  rw [State.levelStates, ← List.filterMap_eq_map]
  refine List.filterMap_congr fun n hn => ?_
  have hn' : n < s.config.geometry.positions := List.mem_range.1 hn
  have hboard : s.boardIn aisle level n = some ⟨aisle, level, Fin.ofNat 48 n⟩ := by
    have hmod : n % 48 = n := Nat.mod_eq_of_lt (by omega)
    have := State.boardIn_of_inside (s := s) (c := ⟨aisle, level, Fin.ofNat 48 n⟩) hlevel (by simpa [Fin.ofNat, hmod] using hn')
    simpa [Fin.ofNat, hmod] using this
  simp [hboard]

/-- R13: LIST_LEVEL of a level of the hall answers the states of its boards. -/
theorem serveListLevel_granted {s : State} (p : Port) {level : Nat} (h : level < s.config.geometry.levels) :
    serveListLevel p level ((s.received p).grantPort p) =
      accept ((s.received p).grantPort p)
        (.level (s.port p).window.source level s.config.geometry.positions (s.levelStates (s.port p).window.source level)) := by
  have hlevel : level < ((s.received p).grantPort p).config.geometry.levels := h
  rw [serveListLevel, if_pos hlevel, State.window_granted]
  rfl

theorem serveListLevel_of_above {s : State} (p : Port) {level : Nat} (h : s.config.geometry.levels ≤ level) :
    serveListLevel p level s = refuse s .badField := by
  simp [serveListLevel, Nat.not_lt.2 h]

theorem serveReadWheel_of_some {s : State} {w : Nat} {x : Wheel} (hw : w < Config.handles) (hx : s.wheel w = some x) :
    serveReadWheel w s = accept s (.wheel w x) :=
  State.onWheel_of_some hw hx _

theorem serveReadTasks_of_below {s : State} {n : Nat} (h : n < 64) :
    serveReadTasks n s =
      accept s (.tasks s.tasks.length s.careCount s.nonCareCount (((s.tasks.drop n).take 4).map s.taskLine)) := by
  simp [serveReadTasks, h]

theorem serveReadTasks_of_above {s : State} {n : Nat} (h : 64 ≤ n) : serveReadTasks n s = refuse s .badField := by
  simp [serveReadTasks, Nat.not_lt.2 h]

/-- R187: READ_CONFIG of a section that exists answers it. -/
theorem serveReadConfig_of_some {s : State} {name : SectionName} {b : SectionBody} (h : s.section name = some b) :
    serveReadConfig .fits name s = accept s (.configSection b) := by
  simp [serveReadConfig, named, h]

/-- R1, R4, R41, R187: READ_CONFIG of a section that does not exist is refused. -/
theorem serveReadConfig_of_none {s : State} {name : SectionName} (h : s.section name = none) (form : BodyForm) :
    serveReadConfig form name s = refuse s .badField := by
  simp [serveReadConfig, named, h]

/-- R187: READ_CONFIG of an unlisted section is refused. -/
theorem serveReadConfig_of_badName (s : State) (name : SectionName) : serveReadConfig .badName name s = refuse s .badField := by
  simp [serveReadConfig, named]

end Sys2Proof.Machine


namespace Sys2Proof.Machine

set_option Elab.async false

/-! ## The reads, settled -/

/-- R183: a READ_CONFIG that its port may make is a request like any other. -/
theorem exec_readConfig {f : Frame} {name : SectionName} (hallowed : readConfigAllowed f name = true)
    (hpermitted : RequestKind.readConfig.permitted f.port = true) (s : State) :
    exec (.readConfig f name) s = .next (s.request f .readConfig (serveReadConfig f.form name)) := by
  have hexec : exec (.readConfig f name) s = execReadConfig f name s := rfl
  rw [hexec, execReadConfig, hallowed, State.request, hpermitted]

/-- R187: READ_CONFIG of a section that exists answers it and changes nothing. -/
theorem readConfig_answers {s : State} {p : Port} (hs : s.serves p) {name : SectionName} {b : SectionBody}
    (hallowed : readConfigAllowed (proper p) name = true) (hpermitted : RequestKind.readConfig.permitted p = true)
    (hsection : s.section name = some b) :
    ∃ t, exec (.readConfig (proper p) name) s = .next t ∧ t.inside = s.inside ∧
      Served s t p .readConfig ⟨.ok, .configSection b⟩ [] :=
  ⟨_, exec_readConfig hallowed hpermitted s,
    request_read hs hpermitted (serveReadConfig_of_some (s := (s.received p).grantPort p) hsection)⟩

/-- R187: READ_CONFIG of a section that does not exist is refused. -/
theorem readConfig_refuses {s : State} {p : Port} (hs : s.serves p) {name : SectionName}
    (hallowed : readConfigAllowed (proper p) name = true) (hpermitted : RequestKind.readConfig.permitted p = true)
    (hsection : s.section name = none) :
    ∃ t, exec (.readConfig (proper p) name) s = .next t ∧ RefusedWith s t p .readConfig .badField :=
  ⟨_, exec_readConfig hallowed hpermitted s,
    request_refused hs hpermitted (serveReadConfig_of_none (s := (s.received p).grantPort p) hsection _)⟩

/-- R187: READ_CONFIG of an unlisted section is refused on the management port. -/
theorem readConfig_badName {s : State} (hs : s.serves .management) (name : SectionName) :
    ∃ t, exec (.readConfig { port := .management, form := .badName } name) s = .next t ∧
      RefusedWith s t .management .readConfig .badField := by
  refine ⟨_, exec_readConfig (f := { port := .management, form := .badName }) (by cases name <;> rfl) rfl s, ?_⟩
  rw [State.request_badName]
  exact request_refused hs rfl (serveReadConfig_of_badName _ _)

theorem readConfig_permitted {p : Port} (h : p ≠ .robot) : RequestKind.readConfig.permitted p = true := by
  cases p
  exacts [rfl, absurd rfl h, rfl]

theorem readConfigAllowed_zone {p : Port} (h : p ≠ .robot) (n : Nat) : readConfigAllowed (proper p) (.zone n) = true := by
  cases p
  exacts [rfl, absurd rfl h, rfl]

theorem readConfigAllowed_sensor {p : Port} (h : p ≠ .robot) : readConfigAllowed (proper p) .sensor = true := by
  cases p
  exacts [rfl, absurd rfl h, rfl]

theorem readConfigAllowed_management (name : SectionName) : readConfigAllowed (proper .management) name = true := by
  cases name <;> rfl

theorem readHeads_permitted {p : Port} (h : p ≠ .robot) : RequestKind.readHeads.permitted p = true := by
  cases p
  exacts [rfl, absurd rfl h, rfl]

theorem readZone_permitted {p : Port} (h : p ≠ .robot) : RequestKind.readZone.permitted p = true := by
  cases p
  exacts [rfl, absurd rfl h, rfl]

/-- The sections whose number does not exist. -/
theorem State.section_above (s : State) :
    (∀ n, 8 ≤ n → s.section (.zone n) = none) ∧ (∀ n, 16 ≤ n → s.section (.zoneMap n) = none) ∧
      ∀ n, 16 ≤ n → s.section (.careClass n) = none := by
  refine ⟨fun n hn => ?_, fun n hn => ?_, fun n hn => ?_⟩ <;> simp [State.section, Nat.not_lt.2 hn]

/-- The sections whose number exists. -/
theorem State.section_fin (s : State) :
    (∀ z : ZoneNumber, s.section (.zone z) = some (.zone s.config.zones[z])) ∧
      (∀ a : Fin 16, s.section (.zoneMap a) = some (.zoneMap s.config.zoneMap[a])) ∧
      ∀ n : Fin 16, s.section (.careClass n) =
        some (.careClass s.config.classes[n] (s.wheels.countP fun e => e.2.cls == n)) := by
  refine ⟨fun z => ?_, fun a => ?_, fun n => ?_⟩ <;> simp [State.section, State.references]

/-- R69, R93: the tasks answered stand in enqueue order. -/
theorem State.TaskLaw.lines_rise {s : State} (law : s.TaskLaw) (n : Nat) :
    ((((s.tasks.drop n).take 4).map s.taskLine).map fun l => l.task.sequence).Pairwise (· < ·) := by
  have hsub : (((s.tasks.drop n).take 4).map TaskRecord.sequence).Sublist (s.tasks.map TaskRecord.sequence) :=
    ((List.take_sublist _ _).trans (List.drop_sublist _ _)).map _
  rw [List.map_map]
  exact law.order.1.sublist hsub

/-- Settles O10, request by request: each effect is an answer or a refusal of the granted state. -/
theorem readsChangeNothing : Obligations.ReadsChangeNothing := by
  unfold Obligations.ReadsChangeNothing
  refine ⟨fun s p hp hs => ⟨fun level hlevel hpositions => ?level, fun level hlevel => ?noLevel⟩,
    fun s hs => ⟨?status, fun w x hw hx => ?wheel, fun w hw hx => ?freeWheel, fun w hw => ?aboveWheel⟩,
    fun s hs law => ⟨fun n hn => ?tasks, fun n hn => ?noTasks⟩, fun s p hp hs => ?climate⟩
  case level =>
    refine ⟨_, s.levelStates (s.port p).window.source level, rfl, ?_⟩
    have hread := request_read hs (listLevel_permitted hp) (serveListLevel_granted (s := s) p hlevel)
    refine ⟨hread.1, hread.2, ?_, fun n hn => ?_⟩
    · simp [State.levelStates_eq hpositions _ hlevel]
    · rw [State.levelStates_eq hpositions _ hlevel]
      simp [hn]
  case noLevel => exact ⟨_, rfl, request_refused hs (listLevel_permitted hp) (serveListLevel_of_above p hlevel)⟩
  case status => exact ⟨_, rfl, request_read hs rfl rfl⟩
  case wheel =>
    exact ⟨_, rfl, request_read hs rfl (serveReadWheel_of_some (s := (s.received _).grantPort _) hw hx)⟩
  case freeWheel =>
    exact ⟨_, rfl, request_refused hs rfl (State.onWheel_of_none (s := (s.received _).grantPort _) hw hx _)⟩
  case aboveWheel => exact ⟨_, rfl, request_refused hs rfl (State.onWheel_of_above hw _)⟩
  case tasks =>
    have hread := request_read hs (k := .readTasks) rfl (serveReadTasks_of_below (s := (s.received .management).grantPort .management) hn)
    refine ⟨_, ((s.tasks.drop n).take 4).map s.taskLine, rfl, hread.1, hread.2, ?_, law.lines_rise n, fun l hl => ?_⟩
    · simp [State.taskLine, Function.comp_def]
    · obtain ⟨t, -, rfl⟩ := List.mem_map.1 hl
      exact ⟨rfl, rfl⟩
  case noTasks => exact ⟨_, rfl, request_refused hs rfl (serveReadTasks_of_above hn)⟩
  case climate =>
    obtain ⟨hzones, hmaps, hclasses⟩ := s.section_fin
    obtain ⟨hnoZone, hnoMap, hnoClass⟩ := s.section_above
    refine ⟨⟨_, rfl, request_read hs (readHeads_permitted hp) rfl⟩, fun z => ?_, fun n hn => ?_, ?_, fun z => ?_, fun n hn => ?_, ?_⟩
    · exact ⟨_, rfl, request_read hs (readZone_permitted hp) (onZone_of_fin _ z _)⟩
    · exact ⟨_, rfl, request_refused hs (readZone_permitted hp) (onZone_of_above hn _)⟩
    · exact readConfig_answers hs (readConfigAllowed_sensor hp) (readConfig_permitted hp) rfl
    · exact readConfig_answers hs (readConfigAllowed_zone hp z) (readConfig_permitted hp) (hzones z)
    · exact readConfig_refuses hs (readConfigAllowed_zone hp n) (readConfig_permitted hp) (hnoZone n hn)
    · rintro rfl
      have reads {name : SectionName} {b : SectionBody} (h : s.section name = some b) :=
        readConfig_answers hs (readConfigAllowed_management name) rfl h
      have refuses {name : SectionName} (h : s.section name = none) :=
        readConfig_refuses hs (readConfigAllowed_management name) rfl h
      exact ⟨reads rfl, reads rfl, reads rfl, fun a => reads (hmaps a), fun n => reads (hclasses n),
        fun n hn => ⟨refuses (hnoMap n hn), refuses (hnoClass n hn)⟩, readConfig_badName hs⟩

/-! ## Boards -/

/-- Settles O11: each request by what the board it names holds. -/
theorem slotFaultsAreSetAndCleared : Obligations.SlotFaultsAreSetAndCleared := by
  unfold Obligations.SlotFaultsAreSetAndCleared
  intro s hs
  have hslot (c : Coord) : ((s.received .management).grantPort .management).slot c = s.slot c := rfl
  refine ⟨fun c hc => ⟨fun h => ?_, fun h => ?_, fun h => ?_, fun h => ?_⟩, fun level position hout => ⟨?_, ?_⟩⟩
  · refine ⟨_, rfl, request_taken_quietly (v := ((s.received .management).grantPort .management).setSlot c .faulted) hs rfl
      ((State.onBoard_of_reaches hc _).trans ?_) rfl rfl⟩
    simp [hslot, h]
  · exact ⟨_, rfl, request_refused hs rfl ((State.onBoard_of_reaches hc _).trans (by simp [hslot, h]))⟩
  · refine ⟨_, rfl, request_taken_quietly (v := ((s.received .management).grantPort .management).setSlot c .empty) hs rfl
      ((State.onBoard_of_reaches hc _).trans ?_) rfl rfl⟩
    simp [hslot, h]
  · exact ⟨_, rfl, request_refused hs rfl ((State.onBoard_of_reaches hc _).trans (by simp [hslot, h]))⟩
  · exact ⟨_, rfl, request_refused hs rfl (State.onBoard_of_outside hout _)⟩
  · exact ⟨_, rfl, request_refused hs rfl (State.onBoard_of_outside hout _)⟩

/-! ## The time base -/

theorem State.whenRunning_of_running {s : State} (h : s.supply.state = .running) (f : State → State) : s.whenRunning f = f s := by
  simp [State.whenRunning, h]

/-- R117, R179: what a minute event asks of the arbiter. -/
theorem State.minuteAsks_eq (s : State) :
    s.minuteAsks = (if s.link.deadline = some 1 then [.taskDeadline] else []) ++
      (if s.link.homeOrder = some 1 then [.homeDeadline] else []) ++
        ((List.finRange 8).filter fun z => (s.zone z).exclusion == .active 1).map .exclusionEnd := by
  simp [State.minuteAsks, State.endingZones, reachesZero]

/-- R16: SET_CLOCK within the clock's range is taken. -/
theorem serveSetClock_of_le {s : State} {m : Nat} (h : m ≤ Config.maxMinute) :
    serveSetClock m s = accept { s with clock := { minute := m, unset := false } } := by
  simp [serveSetClock, h]

/-- Settles O12: the counters of the two events, and SET_CLOCK. -/
theorem timeBaseAndClock : Obligations.TimeBaseAndClock := by
  unfold Obligations.TimeBaseAndClock
  refine ⟨fun s hs => ⟨⟨{ s.countMinute with clock := s.clock.tick }, ?_, rfl, rfl, ?_⟩, ?_⟩, fun s m hs hm => ?_⟩
  · exact congrArg (fun u : State => Host.Outcome.next { u with clock := s.clock.tick }) (State.whenRunning_of_running hs _)
  · exact congrArg (fun asks => { s.arbiter with asked := s.arbiter.asked ++ asks }) s.minuteAsks_eq
  · exact congrArg Host.Outcome.next (State.whenRunning_of_running hs _)
  · exact ⟨_, rfl, request_taken_quietly hs rfl (serveSetClock_of_le (s := (s.received _).grantPort _) hm) rfl rfl⟩

end Sys2Proof.Machine


namespace Sys2Proof.Machine

set_option Elab.async false

/-! ## States that differ in the Port Unit and the arbiter alone

A request's effect is made in the granted state, which differs from the state before the command in the Port Unit and the arbiter
alone. No operation of the model looks at those two but to raise notices, so each leaves two such states such a pair again. -/

/-- Two states agree apart from the Port Unit and the arbiter. -/
structure SameInside (s t : State) : Prop where
  inside : s.inside = t.inside

namespace SameInside

variable {s t u : State}

theorem refl (s : State) : SameInside s s := ⟨rfl⟩

theorem symm (h : SameInside s t) : SameInside t s := ⟨h.inside.symm⟩

theorem trans (h : SameInside s t) (h' : SameInside t u) : SameInside s u := ⟨h.inside.trans h'.inside⟩

/-- The state at the start of a request's grant. -/
theorem granted (s : State) (p : Port) : SameInside ((s.received p).grantPort p) s := ⟨by simp⟩

theorem grantInternal (s : State) (i : InternalRequest) : SameInside (s.grantInternal i) s := ⟨by simp⟩

/-- What is read off neither the Port Unit nor the arbiter is the same. -/
theorem congr {α : Type} (h : SameInside s t) (f : State → α) (hf : ∀ s, f s.inside = f s := by intro _; rfl) : f s = f t := by
  rw [← hf s, h.inside, hf]

/-- An update that looks at neither. -/
theorem map (h : SameInside s t) (f : State → State) (hf : ∀ s, (f s.inside).inside = (f s).inside := by intro _; rfl) :
    SameInside (f s) (f t) :=
  ⟨h.congr (fun u => (f u).inside) hf⟩

theorem wheel (h : SameInside s t) (w : Nat) : s.wheel w = t.wheel w := h.congr fun u => u.wheel w
theorem slot (h : SameInside s t) (c : Coord) : s.slot c = t.slot c := h.congr fun u => u.slot c
theorem tasks (h : SameInside s t) : s.tasks = t.tasks := h.congr State.tasks
theorem link (h : SameInside s t) : s.link = t.link := h.congr State.link
theorem clock (h : SameInside s t) : s.clock = t.clock := h.congr State.clock

theorem setSlot (h : SameInside s t) (c : Coord) (e : SlotEntry) : SameInside (s.setSlot c e) (t.setSlot c e) :=
  h.map fun u => u.setSlot c e

theorem changeWheel (h : SameInside s t) (w : Nat) (f : Wheel → Wheel) : SameInside (s.changeWheel w f) (t.changeWheel w f) :=
  h.map fun u => u.changeWheel w f

theorem changeTask (h : SameInside s t) (n : Fin 64) (f : TaskRecord → TaskRecord) : SameInside (s.changeTask n f) (t.changeTask n f) :=
  h.map fun u => u.changeTask n f

theorem changeZone (h : SameInside s t) (z : ZoneNumber) (f : Zone → Zone) : SameInside (s.changeZone z f) (t.changeZone z f) :=
  h.map fun u => u.changeZone z f

theorem createWheel (h : SameInside s t) (w : Nat) (x : Wheel) : SameInside (s.createWheel w x) (t.createWheel w x) :=
  h.map fun u => u.createWheel w x

theorem computeDues (h : SameInside s t) (w : Nat) : SameInside (s.computeDues w) (t.computeDues w) :=
  h.map fun u => u.computeDues w

theorem placeIn (h : SameInside s t) (w : Nat) (c : Coord) : SameInside (s.placeIn w c) (t.placeIn w c) :=
  h.map fun u => u.placeIn w c

theorem setTasks (h : SameInside s t) (f : List TaskRecord → List TaskRecord) :
    SameInside { s with tasks := f s.tasks } { t with tasks := f t.tasks } :=
  h.map fun u => { u with tasks := f u.tasks }

theorem setLink (h : SameInside s t) (f : RobotLink → RobotLink) : SameInside { s with link := f s.link } { t with link := f t.link } :=
  h.map fun u => { u with link := f u.link }

theorem deleteWheel (h : SameInside s t) (w : Nat) : SameInside (s.deleteWheel w) (t.deleteWheel w) := by
  unfold State.deleteWheel
  rw [h.wheel w]
  cases t.wheel w with
  | none => exact h
  | some x => exact h.map fun u => { u with wheels := u.wheels.drop w, tags := u.tags.drop x.tag.toNat }

theorem withdrawWhere (h : SameInside s t) (p : TaskRecord → Bool) : SameInside (s.withdrawWhere p) (t.withdrawWhere p) :=
  ⟨by rw [← State.withdrawWhere_inside, h.inside, State.withdrawWhere_inside]⟩

/-- A withdrawal whose test looks at neither. -/
theorem withdrawTest (h : SameInside s t) (p : State → TaskRecord → Bool) (hp : ∀ s, p s.inside = p s := by intro _; rfl) :
    SameInside (s.withdrawWhere (p s)) (t.withdrawWhere (p t)) := by
  rw [h.congr p hp]
  exact h.withdrawWhere _

theorem checkList (h : SameInside s t) : SameInside s.checkList t.checkList :=
  h.withdrawTest State.disagrees

/-- A choice whose condition is the same. -/
theorem ite {c c' : Prop} [Decidable c] [Decidable c'] {s' t' : State} (hc : c ↔ c') (h : SameInside s t) (h' : SameInside s' t') :
    SameInside (if c then s else s') (if c' then t else t') := by
  by_cases g : c
  · rwa [if_pos g, if_pos (hc.1 g)]
  · rwa [if_neg g, if_neg (mt hc.2 g)]

theorem markTask (h : SameInside s t) (v : TaskRecord) (b : Bool) : SameInside (s.markTask v b) (t.markTask v b) := by
  unfold State.markTask
  cases v.wheel with
  | none => exact h
  | some w => exact h.changeWheel w _

theorem raise_left (h : SameInside s t) (p : Port) (n : Notice) : SameInside (s.raise p n) t :=
  ⟨(State.inside_raise s p n).trans h.inside⟩

theorem raise (h : SameInside s t) (p : Port) (n : Notice) : SameInside (s.raise p n) (t.raise p n) :=
  (h.symm.raise_left p n).symm.raise_left p n

theorem raiseIf_left (h : SameInside s t) (b : Bool) (p : Port) (n : Notice) : SameInside (s.raiseIf b p n) t :=
  ⟨(State.inside_raiseIf s b p n).trans h.inside⟩

theorem raiseIf (h : SameInside s t) (b : Bool) (p : Port) (n : Notice) : SameInside (s.raiseIf b p n) (t.raiseIf b p n) :=
  (h.symm.raiseIf_left b p n).symm.raiseIf_left b p n

theorem testAvailable_left (h : SameInside s t) : SameInside s.testAvailable t :=
  ⟨(State.inside_testAvailable s).trans h.inside⟩

theorem testAvailable (h : SameInside s t) : SameInside s.testAvailable t.testAvailable :=
  h.symm.testAvailable_left.symm.testAvailable_left

theorem testIf_left (h : SameInside s t) (b : Bool) : SameInside (s.testIf b) t :=
  ⟨(State.inside_testIf s b).trans h.inside⟩

theorem record (h : SameInside s t) (k : DiscrepancyKind) (c : Option Coord) (w : Option Nat) (x : Option TagId) :
    SameInside (s.record k c w x) (t.record k c w x) := by
  refine ite (by rw [h.congr State.discrepancies]) ?_ (h.raise _ _)
  exact (h.map fun u => { u with discrepancies := u.discrepancies ++ [⟨k, u.clock.minute, c, w, x⟩] }).raise _ _

theorem makeSuspect (h : SameInside s t) (c : Coord) (w : Option Nat) : SameInside (s.makeSuspect c w) (t.makeSuspect c w) :=
  (h.setSlot c _).withdrawWhere _

theorem suspectOccupied (h : SameInside s t) (c : Coord) : SameInside (s.suspectOccupied c) (t.suspectOccupied c) := by
  unfold State.suspectOccupied
  rw [h.slot c]
  split
  · exact h.makeSuspect c _
  · exact h

theorem freeReserved (h : SameInside s t) (c : Coord) (r : Role) (w : Nat) :
    SameInside (s.freeReserved c r w) (t.freeReserved c r w) := by
  unfold State.freeReserved
  rw [h.slot c]
  split
  · exact h.setSlot c _
  · exact h

theorem freeDestination (h : SameInside s t) (w : Nat) (i : Intent) : SameInside (s.freeDestination w i) (t.freeDestination w i) := by
  unfold State.freeDestination
  cases i.destination with
  | slot c => exact h.freeReserved c _ w
  | infeed => exact h
  | outfeed => exact h

theorem freeReturn (h : SameInside s t) (w : Nat) (i : Intent) : SameInside (s.freeReturn w i) (t.freeReturn w i) := by
  unfold State.freeReturn
  cases i.returnSlot with
  | none => exact h
  | some r => exact h.freeReserved r _ w

theorem endIntent (h : SameInside s t) (w : Nat) (e : Ending) : SameInside (s.endIntent w e) (t.endIntent w e) := by
  unfold State.endIntent
  rw [h.wheel w]
  cases (t.wheel w).bind Wheel.intent with
  | none => exact h
  | some i => exact (h.freeDestination w i).changeWheel w _

theorem alignTask (h : SameInside s t) (w : Nat) : SameInside (s.alignTask w) (t.alignTask w) := by
  unfold State.alignTask
  rw [h.wheel w]
  cases t.wheel w with
  | none => exact h
  | some x =>
    dsimp only
    cases x.intent with
    | none => exact h
    | some i => exact h.setTasks _

theorem releaseWheel (h : SameInside s t) (w : Nat) : SameInside (s.releaseWheel w) (t.releaseWheel w) := by
  unfold State.releaseWheel
  rw [h.wheel w]
  cases (t.wheel w).bind Wheel.intent with
  | none => exact h.changeWheel w _
  | some i =>
    dsimp only
    split
    · exact (h.changeWheel w _).endIntent w _
    · exact h.changeWheel w _

theorem completeIntent (h : SameInside s t) (w : Nat) (i : Intent) : SameInside (s.completeIntent w i) (t.completeIntent w i) := by
  unfold State.completeIntent
  split
  · exact (h.placeIn w _).changeWheel w _
  · exact ((h.freeReturn w i).placeIn w _).changeWheel w _
  · exact ((h.freeReturn w i).changeWheel w _).deleteWheel w
  · exact (h.changeWheel w _).changeWheel w _
  · exact h

theorem leaveZones (h : SameInside s t) : SameInside s.leaveZones t.leaveZones :=
  ((h.map fun u => { u with zones := u.zones.map Zone.leave }).raiseIf_left _ _ _).symm.raiseIf_left _ _ _ |>.symm

theorem clearOut (h : SameInside s t) : SameInside s.clearOut t.clearOut :=
  (h.setLink fun l => { l with verified := false, issuedTag := none, deadline := none }).leaveZones

theorem endEffects (h : SameInside s t) (v : TaskRecord) (e : Ending) : SameInside (s.endEffects v e) (t.endEffects v e) := by
  unfold State.endEffects
  cases v.wheel with
  | none => exact h
  | some w =>
    dsimp only
    split
    · split
      · exact h.endIntent w _
      · exact h
    · split
      · exact h.endIntent w _
      · exact h
    · exact h
    · exact h
    · split
      · exact (h.changeWheel w _).withdrawWhere _
      · exact h
    · exact h

theorem recordSurvey (h : SameInside s t) (v : TaskRecord) (e : Ending) : SameInside (s.recordSurvey v e) (t.recordSurvey v e) :=
  h.map (fun u => u.recordSurvey v e) fun u => by unfold State.recordSurvey; split <;> rfl

theorem endTask (h : SameInside s t) (v : TaskRecord) (e : Ending) : SameInside (s.endTask v e) (t.endTask v e) :=
  ((((((h.setTasks fun l => l.filter fun x => x.number != v.number).markTask v false).clearOut).endEffects v e).recordSurvey v
    e).raiseIf _ _ _).raiseIf _ _ _

theorem requeue (h : SameInside s t) (v : TaskRecord) : SameInside (s.requeue v) (t.requeue v) :=
  (h.changeTask _ _).clearOut

theorem takeBack (h : SameInside s t) : SameInside s.takeBack t.takeBack := by
  unfold State.takeBack
  rw [h.congr State.out]
  cases t.out with
  | none => exact h
  | some v =>
    dsimp only
    split
    · exact h.endTask v _
    · split
      · exact h.requeue v
      · split
        · exact h.endTask v _
        · exact h.requeue v

theorem loseWheel (h : SameInside s t) (w : Nat) : SameInside (s.loseWheel w) (t.loseWheel w) := by
  unfold State.loseWheel
  rw [h.wheel w]
  have hwithdrawn : SameInside (s.withdrawMovement w) (t.withdrawMovement w) := h.withdrawWhere _
  cases (t.wheel w).bind Wheel.intent with
  | none => exact ((hwithdrawn.changeWheel w _).record _ _ _ _).raise _ _
  | some i => exact ((((hwithdrawn.freeDestination w i).freeReturn w i).changeWheel w _).record _ _ _ _).raise _ _

theorem loseWheels (h : SameInside s t) (l : List Nat) : SameInside (l.foldl State.loseWheel s) (l.foldl State.loseWheel t) := by
  induction l generalizing s t with
  | nil => exact h
  | cons w l ih => exact ih (h.loseWheel w)

theorem reconcileNamed (h : SameInside s t) (w : Nat) (tag : TagId) :
    SameInside (s.reconcileNamed w tag) (t.reconcileNamed w tag) := by
  unfold State.reconcileNamed
  rw [h.wheel w]
  split
  · exact ((((h.setSlot _ _).withdrawWhere _).changeWheel w _).alignTask w).record _ _ _ _
  · exact ((h.changeWheel w _).alignTask w).record _ _ _ _
  · unfold State.findLost
    rw [h.wheel w]
    have hwithdrawn : SameInside (s.withdrawMovement w) (t.withdrawMovement w) := h.withdrawWhere _
    cases (t.wheel w).bind Wheel.intent with
    | none => exact hwithdrawn.changeWheel w _
    | some i => exact (hwithdrawn.freeDestination w i).changeWheel w _
  · exact h
  · exact h

theorem reconcile (h : SameInside s t) (l : Load) : SameInside (s.reconcile l) (t.reconcile l) := by
  unfold State.reconcile
  rw [h.congr State.inGripper]
  cases l with
  | none => exact h.loseWheels _
  | wheel w tag => exact (h.loseWheels _).reconcileNamed w tag
  | unknown tag => exact (h.loseWheels _).record _ _ _ _

theorem makeRoomInSequence (h : SameInside s t) : SameInside s.makeRoomInSequence t.makeRoomInSequence :=
  ite (by rw [h.congr State.dispatch])
    (h.map fun u => { u with tasks := restamp 0 u.tasks, dispatch := { u.dispatch with sequence := u.tasks.length } }) h

/-- An entry into the list: the same number, and states that agree again. -/
theorem enter (h : SameInside s t) (v : TaskRecord) :
    (s.enter v).map (fun e => (e.1.inside, e.2)) = (t.enter v).map fun e => (e.1.inside, e.2) := by
  unfold State.enter
  rw [h.congr State.freeNumber, Option.map_map, Option.map_map]
  refine Option.map_congr fun n _ => Prod.ext ?_ rfl
  have hentered := h.makeRoomInSequence.map (fun u => State.markTask { u with
    tasks := u.tasks ++ [u.entry v n], dispatch := { u.dispatch with sequence := u.dispatch.sequence + 1 } } (u.entry v n) true)
    fun u => by simp only [State.markTask, State.entry]; cases v.wheel <;> rfl
  exact hentered.inside

theorem offerNonCare (h : SameInside s t) (v : TaskRecord) :
    (s.offerNonCare v).map (fun e => (e.1.inside, e.2)) = (t.offerNonCare v).map fun e => (e.1.inside, e.2) := by
  unfold State.offerNonCare
  rw [h.congr State.nonCareCount, h.congr State.hasRoom, h.congr State.evictee]
  split
  · split
    · exact h.enter v
    · split
      · rfl
      · exact (h.withdrawWhere _).enter v
  · rfl

/-- An offer that enters a task in one of the states does in the other. -/
theorem offerNonCare_some (h : SameInside s t) {v : TaskRecord} {n : Fin 64} (hu : t.offerNonCare v = some (u, n)) :
    ∃ w, s.offerNonCare v = some (w, n) ∧ SameInside w u := by
  have hmap := h.offerNonCare v
  rw [hu] at hmap
  obtain ⟨⟨w, m⟩, hw, heq⟩ := Option.map_eq_some_iff.1 hmap
  obtain ⟨hin, rfl⟩ := Prod.mk.inj heq
  exact ⟨w, hw, ⟨hin⟩⟩

theorem offerNonCare_none (h : SameInside s t) {v : TaskRecord} (hu : t.offerNonCare v = none) : s.offerNonCare v = none := by
  have hmap := h.offerNonCare v
  rw [hu] at hmap
  simpa using hmap

end SameInside

end Sys2Proof.Machine


namespace Sys2Proof.Machine

set_option Elab.async false

/-! ## What an effect raises -/

/-- From one state to another the Port Unit changes by the notices raised alone, and the arbiter not at all. -/
structure Emits (s t : State) (raised : List (Port × Notice)) : Prop where
  arbiter : t.arbiter = s.arbiter
  sans : ∀ q, (t.port q).sansNotices = (s.port q).sansNotices
  notices : Raised s t raised

namespace Emits

variable {s t u : State} {raised raised' : List (Port × Notice)}

/-- An effect that touches neither the ports nor the arbiter. -/
theorem silent (hports : t.ports = s.ports := by simp) (harbiter : t.arbiter = s.arbiter := by simp) : Emits s t [] :=
  ⟨harbiter, fun q => by rw [State.port_congr hports q], raised_congr hports fun _ _ _ => by simp⟩

theorem refl (s : State) : Emits s s [] := silent rfl rfl

theorem trans (h : Emits s t raised) (h' : Emits t u raised') : Emits s u (raised ++ raised') :=
  ⟨h'.arbiter.trans h.arbiter, fun q => (h'.sans q).trans (h.sans q), fun q n hn => by
    rw [h'.notices q n hn, h.notices q n hn, List.mem_append, or_assoc]⟩

/-- A further effect that raises nothing. -/
theorem thenSilent (h : Emits s t raised) (hports : u.ports = t.ports := by simp) (harbiter : u.arbiter = t.arbiter := by simp) :
    Emits s u raised := by
  simpa using h.trans (silent hports harbiter)

/-- The notices raised are read as a set. -/
theorem of_mem_iff (h : Emits s t raised) (hmem : ∀ x, x ∈ raised ↔ x ∈ raised') : Emits s t raised' :=
  ⟨h.arbiter, h.sans, fun q n hn => by rw [h.notices q n hn, hmem]⟩

theorem portsAlone (h : Emits s t raised) : PortsAlone s t raised := ⟨h.sans, h.notices⟩

theorem raise (s : State) (p : Port) (n : Notice) : Emits s (s.raise p n) [(p, n)] :=
  ⟨rfl, fun q => sansNotices_raise s p q n, raised_raise p n (refl s).notices⟩

theorem raiseIf (s : State) (b : Bool) (p : Port) (n : Notice) : Emits s (s.raiseIf b p n) (if b then [(p, n)] else []) := by
  cases b
  · exact refl s
  · exact raise s p n

theorem record (s : State) (k : DiscrepancyKind) (c : Option Coord) (w : Option Nat) (x : Option TagId) :
    Emits s (s.record k c w x) s.recordNotice := by
  refine ⟨by simp, fun q => ?_, State.raised_record k c w x⟩
  unfold State.record
  split
  · rw [sansNotices_raise]
    rfl
  · rw [sansNotices_raise]

theorem testAvailable (s : State) : Emits s s.testAvailable s.availableNow :=
  ⟨by simp, sansNotices_testAvailable s, State.raised_testAvailable (refl s).notices⟩

theorem testIf (s : State) (b : Bool) : Emits s (s.testIf b) (if b then s.availableNow else []) := by
  cases b
  · exact refl s
  · exact testAvailable s

end Emits

/-- A request's effect that raises notices and changes nothing else of the Port Unit is answered so. -/
theorem request_emits {s v e : State} {p : Port} (h : s.serves p) {k : RequestKind} (hk : k.permitted p = true)
    {effect : State → State × Reply} {r : Reply} {raised : List (Port × Notice)}
    (he : effect ((s.received p).grantPort p) = (v, r)) (hsame : SameInside v e)
    (hemits : Emits ((s.received p).grantPort p) v raised) :
    (s.request (proper p) k effect).inside = e.inside ∧ Served s (s.request (proper p) k effect) p k r raised := by
  rw [request_served h hk, he]
  refine ⟨(State.inside_answer _ _ _ _).trans hsame.inside, served_answer k r hemits.arbiter hemits.sans fun q n hn => ?_⟩
  rw [hemits.notices q n hn, raised_granted s p q n hn]
  simp

/-! ## The notices of the shared operations -/

namespace Emits

variable (s : State)

theorem leaveZones : Emits s s.leaveZones s.leaveNotices := by
  have hraise := raiseIf { s with zones := s.zones.map Zone.leave } (s.zones.toList.any Zone.promotes) .climate .exclusionGranted
  refine (((silent rfl rfl : Emits s { s with zones := s.zones.map Zone.leave } []).trans hraise)).of_mem_iff fun x => ?_
  have hany : (s.zones.toList.any Zone.promotes) = true ↔ ∃ z : ZoneNumber, (s.zone z).promotes = true := by
    simp only [List.any_eq_true, Vector.mem_toList_iff, Vector.mem_iff_getElem, State.zone]
    exact ⟨by rintro ⟨_, ⟨i, hi, rfl⟩, h⟩; exact ⟨⟨i, hi⟩, h⟩, fun ⟨z, h⟩ => ⟨_, ⟨z, z.2, rfl⟩, h⟩⟩
  simp only [State.leaveNotices, hany, List.nil_append]

theorem clearOut : Emits s s.clearOut s.leaveNotices :=
  (silent rfl rfl : Emits s { s with link := { s.link with verified := false, issuedTag := none, deadline := none } } []).trans
    (leaveZones _)

end Emits

@[simp] theorem State.withdrawCare_ports (s : State) (w : Nat) : (s.withdrawCare w).ports = s.ports := State.withdrawWhere_ports _ _
@[simp] theorem State.withdrawCare_arbiter (s : State) (w : Nat) : (s.withdrawCare w).arbiter = s.arbiter :=
  State.withdrawWhere_arbiter _ _

@[simp] theorem State.withdrawMovement_ports (s : State) (w : Nat) : (s.withdrawMovement w).ports = s.ports :=
  State.withdrawWhere_ports _ _
@[simp] theorem State.withdrawMovement_arbiter (s : State) (w : Nat) : (s.withdrawMovement w).arbiter = s.arbiter :=
  State.withdrawWhere_arbiter _ _

/-- What an ending does to the wheel and to the survey record raises nothing. -/
theorem Emits.endEffects (s : State) (v : TaskRecord) (e : Ending) : Emits s (s.endEffects v e) [] := by
  unfold State.endEffects
  split
  · exact refl s
  · split
    · split
      · exact silent
      · exact refl s
    · split
      · exact silent
      · exact refl s
    · exact refl s
    · exact refl s
    · split
      · exact silent (State.withdrawCare_ports _ _) (State.withdrawCare_arbiter _ _)
      · exact refl s
    · exact refl s

theorem Emits.recordSurvey (s : State) (v : TaskRecord) (e : Ending) : Emits s (s.recordSurvey v e) [] := by
  unfold State.recordSurvey
  split
  · exact silent rfl rfl
  · exact refl s

/-- R100, R178: the notices of a task that ends. -/
theorem Emits.endTask (s : State) (v : TaskRecord) (e : Ending) : Emits s (s.endTask v e) (s.endNotices v e) := by
  have hleft : Emits s (State.markTask { s with tasks := s.tasks.filter fun x => x.number != v.number } v false) [] :=
    silent (State.markTask_ports ..) (State.markTask_arbiter ..)
  have hcleared := hleft.trans (clearOut _)
  have hnotices : (State.markTask { s with tasks := s.tasks.filter fun x => x.number != v.number } v false).leaveNotices =
      s.leaveNotices := by
    unfold State.leaveNotices State.zone
    rw [State.markTask_zones]
  rw [hnotices, List.nil_append] at hcleared
  have hended := ((hcleared.trans (endEffects _ v e)).trans (recordSurvey _ v e)).trans
    ((raiseIf _ e.isFailed .management .taskFailed).trans (raiseIf _ v.isMovement .management .moveEnded))
  simp only [List.append_nil, ← List.append_assoc] at hended
  exact hended

/-- R99, R178: the notices of the task that is out as it is taken back. -/
theorem Emits.takeBack (s : State) : Emits s s.takeBack s.takeBackNotices := by
  have hrequeue (v : TaskRecord) : Emits s (s.requeue v) s.leaveNotices :=
    (silent rfl rfl : Emits s (s.changeTask v.number fun x =>
      { x with state := .queued, attempts := min Config.maxAttempts (x.attempts + 1) }) []).trans (clearOut _)
  have hattempts : Config.maxAttempts = 3 := rfl
  rcases hout : s.out with _ | v
  · simp only [State.takeBack, State.takeBackNotices, hout]
    exact refl s
  · simp only [State.takeBack, State.takeBackNotices, hout]
    split
    · exact endTask s v _
    · by_cases hcarried : v.phase = some .carried
      · simpa only [hcarried, if_true, true_or] using hrequeue v
      · by_cases hlast : 3 ≤ v.attempts + 1
        · simpa only [hcarried, hattempts, hlast, Nat.not_lt.2 hlast, if_true, if_false, or_false] using endTask s v _
        · simpa only [hcarried, hattempts, hlast, Nat.not_le.1 hlast, if_true, if_false, or_true] using hrequeue v

/-! ## The notices of gripper reconciliation -/

/-- The notices of so many discrepancy entries made on a list that holds so many (R145). -/
def foundNotices (held entries : Nat) : List (Port × Notice) :=
  (if 0 < entries ∧ held < 32 then [(.management, .discrepancy)] else []) ++
    if 0 < entries ∧ 32 < held + entries then [(.management, .discrepancyFull)] else []

/-- The number of entries a list holds after so many more have been made (R145). -/
def heldAfter (held entries : Nat) : Nat := max held (min 32 (held + entries))

theorem mem_foundNotices (held entries : Nat) (x : Port × Notice) : x ∈ foundNotices held entries ↔
    0 < entries ∧ ((x = (.management, .discrepancy) ∧ held < 32) ∨ (x = (.management, .discrepancyFull) ∧ 32 < held + entries)) := by
  unfold foundNotices
  by_cases h : 0 < entries <;> by_cases g : held < 32 <;> by_cases k : 32 < held + entries <;> simp [h, g, k]

/-- Entries made one batch after another. -/
theorem mem_foundNotices_add (held a b : Nat) (x : Port × Notice) :
    x ∈ foundNotices held (a + b) ↔ x ∈ foundNotices held a ∨ x ∈ foundNotices (heldAfter held a) b := by
  simp only [mem_foundNotices, heldAfter]
  by_cases hx : x = (.management, .discrepancy)
  · subst hx
    simp only [true_and, Prod.mk.injEq, reduceCtorEq, and_false, false_and, or_false]
    omega
  · simp only [hx, false_and, false_or]
    by_cases hy : x = (.management, .discrepancyFull)
    · simp only [hy, true_and]
      omega
    · simp only [hy, false_and, and_false, or_self]

theorem State.recordNotice_eq (s : State) : s.recordNotice = foundNotices s.discrepancies.length 1 := by
  unfold State.recordNotice foundNotices
  by_cases h : s.discrepancies.length < 32
  · have : ¬ 32 < s.discrepancies.length + 1 := by omega
    simp [h, this]
  · have : 32 < s.discrepancies.length + 1 := by omega
    simp [h, this]

theorem State.record_held (s : State) (k : DiscrepancyKind) (c : Option Coord) (w : Option Nat) (x : Option TagId) :
    (s.record k c w x).discrepancies.length = heldAfter s.discrepancies.length 1 := by
  have hroom : Config.discrepancyRoom = 32 := rfl
  rw [State.record_discrepancies', heldAfter, hroom]
  split
  · rw [List.length_append, List.length_singleton]
    omega
  · omega

theorem heldAfter_add (held a b : Nat) : heldAfter (heldAfter held a) b = heldAfter held (a + b) := by
  unfold heldAfter
  omega

/-- A wheel lost from the gripper, but for the entry and the notice: its movement task is withdrawn, its reservations are released, it
is UNKNOWN without an intent (R134). -/
def State.unhand (s : State) (w : Nat) : State :=
  (match (s.wheel w).bind Wheel.intent with
    | some i => (s.withdrawMovement w).freeIntent w i
    | none => s.withdrawMovement w).changeWheel w fun x =>
    { x with location := .unknown, intent := none, lastOutcome := some (.failed .lostLoad) }

theorem State.loseWheel_eq (s : State) (w : Nat) :
    s.loseWheel w = ((s.unhand w).record .gripperEmpty none (some w) none).raise .management .moveEnded := rfl

theorem State.unhand_frame (s : State) (w : Nat) :
    (s.unhand w).ports = s.ports ∧ (s.unhand w).arbiter = s.arbiter ∧ (s.unhand w).discrepancies = s.discrepancies := by
  unfold State.unhand
  cases (s.wheel w).bind Wheel.intent <;>
    simp [State.freeIntent, State.withdrawMovement]

/-- R134, R145: the notices of a wheel lost from the gripper. -/
theorem Emits.loseWheel (s : State) (w : Nat) :
    Emits s (s.loseWheel w) (foundNotices s.discrepancies.length 1 ++ [(.management, .moveEnded)]) := by
  obtain ⟨hports, harbiter, hheld⟩ := s.unhand_frame w
  have hnotice : (s.unhand w).recordNotice = foundNotices s.discrepancies.length 1 := by rw [State.recordNotice_eq, hheld]
  rw [State.loseWheel_eq, ← hnotice]
  exact ((silent hports harbiter).trans (record _ _ _ _ _)).trans (raise _ _ _)

theorem State.loseWheel_held (s : State) (w : Nat) : (s.loseWheel w).discrepancies.length = heldAfter s.discrepancies.length 1 := by
  obtain ⟨-, -, hheld⟩ := s.unhand_frame w
  rw [State.loseWheel_eq, State.raise_discrepancies, State.record_held, hheld]

theorem State.loseWheels_held (l : List Nat) (s : State) :
    (l.foldl State.loseWheel s).discrepancies.length = heldAfter s.discrepancies.length l.length := by
  induction l generalizing s with
  | nil => simp [heldAfter]
  | cons w l ih => rw [List.foldl_cons, ih, State.loseWheel_held, heldAfter_add, List.length_cons, Nat.add_comm]

/-- R134, R145: the notices of wheels lost one after the other. -/
theorem Emits.loseWheels (l : List Nat) (s : State) : Emits s (l.foldl State.loseWheel s)
    (foundNotices s.discrepancies.length l.length ++ if 0 < l.length then [(.management, .moveEnded)] else []) := by
  induction l generalizing s with
  | nil => exact (refl s).of_mem_iff fun x => by simp [mem_foundNotices]
  | cons w l ih =>
    refine ((loseWheel s w).trans (ih (s.loseWheel w))).of_mem_iff fun x => ?_
    have hadd := mem_foundNotices_add s.discrepancies.length 1 l.length x
    rw [Nat.add_comm] at hadd
    simp only [State.loseWheel_held, List.length_cons, List.mem_append, hadd, Nat.succ_pos, if_true]
    split <;> simp only [List.mem_singleton, List.not_mem_nil] <;> tauto

/-- R134: a wheel lost leaves the record of every other wheel as it is. -/
theorem State.wheel_loseWheel_other (s : State) {v w : Nat} (h : v ≠ w) : (s.loseWheel w).wheel v = s.wheel v := by
  have hfreed (u : State) (i : Intent) : (u.freeIntent w i).wheel v = u.wheel v := by
    unfold State.freeIntent State.wheel
    rw [State.freeReturn_wheels, State.freeDestination_wheels]
  have hunhand : (s.loseWheel w).wheel v = (s.withdrawMovement w).wheel v := by
    have hraise (u : State) : (State.raise u .management .moveEnded).wheel v = u.wheel v := rfl
    have hrecord (u : State) : (u.record .gripperEmpty none (some w) none).wheel v = u.wheel v := by
      unfold State.wheel
      rw [State.record_wheels]
    rw [State.loseWheel_eq, hraise, hrecord, State.unhand, State.wheel_changeWheel, if_neg h]
    cases (s.wheel w).bind Wheel.intent with
    | none => rfl
    | some i => exact hfreed _ i
  have hnone : List.filter (fun t => t.wheel == some v) (List.filter (fun t => t.queued && (t.isMovement && t.names w)) s.tasks) = [] := by
    rw [List.filter_filter, List.filter_eq_nil_iff]
    rintro t - ht
    simp only [TaskRecord.names, Bool.and_eq_true, beq_iff_eq] at ht
    exact h (Option.some.inj (ht.1.symm.trans ht.2.2.2))
  rw [hunhand, State.withdrawMovement, State.withdrawWhere, State.wheel_markAll, hnone]
  exact Option.map_id'

theorem State.wheel_loseWheels_other (l : List Nat) (s : State) {v : Nat} (h : v ∉ l) :
    (l.foldl State.loseWheel s).wheel v = s.wheel v := by
  induction l generalizing s with
  | nil => rfl
  | cons w l ih =>
    rw [List.foldl_cons, ih _ (fun hv => h (List.mem_cons_of_mem _ hv)),
      s.wheel_loseWheel_other (by rintro rfl; exact h List.mem_cons_self)]

/-- Bringing a movement task to its intent touches the task list alone. -/
theorem State.alignTask_eq (s : State) (w : Nat) : s.alignTask w = { s with tasks := (s.alignTask w).tasks } := by
  unfold State.alignTask
  cases s.wheel w with
  | none => rfl
  | some x =>
    dsimp only
    cases x.intent <;> rfl

@[simp] theorem State.alignTask_ports (s : State) (w : Nat) : (s.alignTask w).ports = s.ports := by rw [s.alignTask_eq w]
@[simp] theorem State.alignTask_arbiter (s : State) (w : Nat) : (s.alignTask w).arbiter = s.arbiter := by rw [s.alignTask_eq w]
@[simp] theorem State.alignTask_discrepancies (s : State) (w : Nat) : (s.alignTask w).discrepancies = s.discrepancies := by
  rw [s.alignTask_eq w]

/-- R135 to R137, R145: the notices of the wheel a load names. -/
theorem Emits.reconcileNamed (s : State) (w : Nat) (tag : TagId) :
    Emits s (s.reconcileNamed w tag) (foundNotices s.discrepancies.length (s.loadEntries (.wheel w tag))) := by
  have hfound {u : State} (hports : u.ports = s.ports) (harbiter : u.arbiter = s.arbiter) (hheld : u.discrepancies = s.discrepancies)
      (c : Option Coord) : Emits s (u.record .gripperUnexpected c (some w) (some tag)) (foundNotices s.discrepancies.length 1) := by
    have hnotice : u.recordNotice = foundNotices s.discrepancies.length 1 := by rw [State.recordNotice_eq, hheld]
    rw [← hnotice]
    exact (silent hports harbiter).trans (record _ _ _ _ _)
  have hnone : foundNotices s.discrepancies.length 0 = [] := by simp [foundNotices]
  unfold State.reconcileNamed State.loadEntries
  dsimp only
  rcases (s.wheel w).map Wheel.location with _ | (_ | c | _ | _) <;> dsimp only
  · rw [hnone]; exact refl s
  · refine hfound ?_ ?_ ?_ none <;> simp
  · refine hfound ?_ ?_ ?_ (some c) <;> simp [State.withdrawCare]
  · rw [hnone]; exact refl s
  · rw [hnone]
    unfold State.findLost
    cases (s.wheel w).bind Wheel.intent with
    | none => exact silent
    | some i => exact silent

/-- The notices of reconciliation, by the number of wheels lost. -/
theorem State.reconcileNotices_eq (s : State) (l : Load) {lost : Nat}
    (h : lost = s.wheels.countP fun e => e.2.location == .inGripper && !l.names e.1) :
    s.reconcileNotices l = foundNotices s.discrepancies.length (lost + s.loadEntries l) ++
      if 0 < lost then [(.management, .moveEnded)] else [] := by
  subst h
  rfl

/-- R133 to R137, R145: the notices of gripper reconciliation. -/
theorem Emits.reconcile (s : State) (l : Load) : Emits s (s.reconcile l) (s.reconcileNotices l) := by
  have hall : s.inGripper.length = s.wheels.countP fun e => e.2.location == .inGripper && !false := by
    simp [State.inGripper, List.countP_eq_length_filter]
  cases l with
  | none =>
    rw [s.reconcileNotices_eq .none hall]
    exact loseWheels s.inGripper s
  | unknown tag =>
    have hrecord := record (s.inGripper.foldl State.loseWheel s) .gripperUnknown none none tag
    rw [s.reconcileNotices_eq (.unknown tag) hall]
    refine ((loseWheels s.inGripper s).trans hrecord).of_mem_iff fun x => ?_
    have hadd := mem_foundNotices_add s.discrepancies.length s.inGripper.length 1 x
    simp only [State.loadEntries, State.recordNotice_eq, State.loseWheels_held, List.mem_append, hadd]
    tauto
  | wheel w tag =>
    have hothers : (s.inGripper.filter fun v => v != w).length =
        s.wheels.countP fun e => e.2.location == .inGripper && !Load.names (.wheel w tag) e.1 := by
      rw [List.countP_eq_length_filter, State.inGripper, List.filter_map, List.length_map, List.filter_filter]
      refine congrArg List.length (List.filter_congr fun e _ => ?_)
      have hname : Load.names (.wheel w tag) e.1 = (e.1 == w) := BEq.comm
      rw [hname, Function.comp_apply, bne, Bool.and_comm]
    have hload : ((s.inGripper.filter fun v => v != w).foldl State.loseWheel s).loadEntries (.wheel w tag) =
        s.loadEntries (.wheel w tag) := by
      have hwheel := State.wheel_loseWheels_other (s.inGripper.filter fun v => v != w) s (v := w) (by simp)
      unfold State.loadEntries
      dsimp only
      rw [hwheel]
    have hnamed := reconcileNamed ((s.inGripper.filter fun v => v != w).foldl State.loseWheel s) w tag
    rw [s.reconcileNotices_eq _ hothers]
    refine ((loseWheels (s.inGripper.filter fun v => v != w) s).trans hnamed).of_mem_iff fun x => ?_
    have hadd := mem_foundNotices_add s.discrepancies.length (s.inGripper.filter fun v => v != w).length
      (s.loadEntries (.wheel w tag)) x
    simp only [hload, State.loseWheels_held, List.mem_append, hadd]
    tauto

end Sys2Proof.Machine


namespace Sys2Proof.Machine

set_option Elab.async false

/-! ## Wheel records -/

/-- A change of a record depends on what it makes of that record alone. -/
theorem Table.change_congr {α : Type} {t : Table α} {k : Nat} {f g : α → α} (h : ∀ v, t.find k = some v → f v = g v) :
    t.change k f = t.change k g := by
  induction t with
  | nil => rfl
  | cons e t ih =>
    obtain ⟨j, v⟩ := e
    by_cases hj : j = k
    · simp [Table.change, hj, h v (by simp [Table.find, hj])]
    · simp only [Table.change, hj, if_false]
      rw [ih fun w hw => h w (by simpa [Table.find, hj] using hw)]

theorem State.changeWheel_congr {s : State} {w : Nat} {x : Wheel} {f g : Wheel → Wheel} (hx : s.wheel w = some x)
    (h : f x = g x) : s.changeWheel w f = s.changeWheel w g := by
  unfold State.changeWheel
  rw [Table.change_congr fun v hv => ?_]
  cases hx.symm.trans hv
  exact h

/-- A change that leaves the record as it is changes nothing. -/
theorem State.changeWheel_self {s : State} {w : Nat} {f : Wheel → Wheel} (h : ∀ x, s.wheel w = some x → f x = x) :
    s.changeWheel w f = s := by
  have hid (t : Table Wheel) : t.change w id = t := by
    induction t with
    | nil => rfl
    | cons e t ih =>
      obtain ⟨j, v⟩ := e
      simp only [Table.change, id, ih]
      split <;> rfl
  unfold State.changeWheel
  rw [Table.change_congr (g := id) h, hid]

/-! ## The dues -/

/-- R43 to R49: the dues of a wheel on a board. -/
theorem State.computeDues_of_inSlot {s : State} {w : Nat} {x : Wheel} (hx : s.wheel w = some x) {c : Coord}
    (hc : x.location = .inSlot c) : s.computeDues w = s.changeWheel w fun y => y.withDues s.config.classes[x.cls] s.clock.minute
      ((s.zone (s.zoneOf c)).careHumidity s.config.classes[x.cls]) := by
  refine State.changeWheel_congr hx ?_
  simp only [hc]

/-- R43: a wheel elsewhere keeps its dues. -/
theorem State.computeDues_of_elsewhere {s : State} {w : Nat} {x : Wheel} (hx : s.wheel w = some x)
    (h : ∀ c, x.location ≠ .inSlot c) : s.computeDues w = s := by
  refine State.changeWheel_self fun y hy => ?_
  cases hx.symm.trans hy
  split
  · exact absurd ‹_› (h _)
  · rfl

/-- R47, R48: the interval as the spec writes it, over the integers. -/
theorem careInterval_eq (base : Nat) (adj : Int) :
    careInterval base (careFactor adj) = (max 30 (min 43200 ((base : Int) * max 250 (min 2000 (1000 - adj)) / 1000))).toNat := by
  obtain ⟨n, hn⟩ : ∃ n : Nat, max 250 (min 2000 (1000 - adj)) = n := ⟨_, (Int.toNat_of_nonneg (by omega)).symm⟩
  have hfactor : careFactor adj = n := by rw [careFactor, hn, Int.toNat_natCast]
  have hdiv : (base : Int) * n / 1000 = ((base * n / 1000 : Nat) : Int) := by push_cast; rfl
  rw [hfactor, hn, hdiv, careInterval]
  omega

theorem ite_none_bind {α β : Type} {p : Prop} [Decidable p] {a : α} {f : α → Option β} :
    (if p then none else some a).bind f = if p then none else f a := by
  split <;> rfl

/-- Settles O17: the dues of a wheel on a board, and of one elsewhere. -/
theorem duesFollowTheProfile : Obligations.DuesFollowTheProfile := by
  unfold Obligations.DuesFollowTheProfile
  refine fun s w x hx => ⟨fun c hc => ?_, State.computeDues_of_elsewhere hx⟩
  dsimp only
  rw [State.computeDues_of_inSlot hx hc]
  refine State.changeWheel_congr hx ?_
  simp only [Wheel.withDues, CareClass.flipInterval, CareClass.brushInterval, careInterval_eq, adjustment, CareClass.band, ageDays,
    Zone.careHumidity, dueFrom, Wheel.mk.injEq, true_and, and_true]
  exact ⟨rfl, ite_none_bind⟩

/-! ## The arithmetic of care and of the filter -/

/-- R48: an interval lies within its clamps, and falls with the factor. -/
theorem careInterval_bounds (base factor : Nat) : 30 ≤ careInterval base factor ∧ careInterval base factor ≤ 43200 := by
  unfold careInterval
  omega

theorem careInterval_mono (base : Nat) {f g : Nat} (h : f ≤ g) : careInterval base f ≤ careInterval base g := by
  have hdiv : base * f / 1000 ≤ base * g / 1000 := Nat.div_le_div_right (Nat.mul_le_mul_left base h)
  unfold careInterval
  omega

/-- R46, R47: a wetter zone never raises the factor. -/
theorem careFactor_antitone {d e : Int} (h : d ≤ e) (k : Nat) : careFactor (adjustment e k) ≤ careFactor (adjustment d k) := by
  have hadj : adjustment d k ≤ adjustment e k := by
    have hmul : d * k ≤ e * k := Int.mul_le_mul_of_nonneg_right h (Int.natCast_nonneg k)
    unfold adjustment
    generalize d * k = a at *
    generalize e * k = b at *
    have hsign : Int.sign 10 = 1 := rfl
    rw [Int.tdiv_eq_ediv, Int.tdiv_eq_ediv, hsign]
    split <;> split <;> omega
  unfold careFactor
  omega

/-- R163: the raw mean, with halves up. -/
theorem rawMean_bounds {r : ZoneReadings} (h : 0 < r.count) :
    2 * r.sum < (2 * rawMean r + 1) * r.count ∧ 2 * rawMean r * r.count ≤ 2 * r.sum + r.count := by
  unfold rawMean
  have hdiv := Nat.div_add_mod (r.sum + r.count / 2) r.count
  have hmod := Nat.mod_lt (r.sum + r.count / 2) h
  generalize (r.sum + r.count / 2) / r.count = q at *
  generalize (r.sum + r.count / 2) % r.count = m at *
  rw [Nat.add_mul, Nat.mul_assoc, Nat.mul_comm q]
  omega

/-- Settles O18: the intervals by the clamps and the monotone steps, the mean and the filter by their bounds. -/
theorem humidityArithmeticStaysInBounds : Obligations.HumidityArithmeticStaysInBounds := by
  unfold Obligations.HumidityArithmeticStaysInBounds
  refine ⟨fun c age hz hz' hle => ?_, filterStep_between, fun r hr => rawMean_bounds hr⟩
  have hdeviation : (hz : Int) - c.setpoint ≤ (hz' : Int) - c.setpoint := by omega
  refine ⟨(careInterval_bounds _ _).1, (careInterval_bounds _ _).2, careInterval_mono _ (careFactor_antitone hdeviation _),
    fun i hi => ?_, fun i j hi hj => ?_⟩
  · unfold CareClass.brushInterval at hi
    split at hi
    · cases hi
    · cases hi
      exact careInterval_bounds _ _
  · unfold CareClass.brushInterval at hi hj
    split at hi
    · cases hi
    · next hbase =>
      rw [if_neg hbase] at hj
      cases hi
      cases hj
      exact careInterval_mono _ (careFactor_antitone hdeviation _)

end Sys2Proof.Machine


namespace Sys2Proof.Machine

set_option Elab.async false

/-! ## SET_CLASS, HOLD, RELEASE, CLEAR_CARE_FAULT -/

section
variable {s : State} {w : Nat} {x : Wheel} (hw : w < Config.handles) (hx : s.wheel w = some x)
include hw hx

/-- R30: a valid class replaces the wheel's. -/
theorem serveSetClass_valid {n : Fin 16} (h : (s.config.classes[n]).valid = true) :
    serveSetClass w n s = accept (s.changeWheel w fun y => { y with cls := n }) := by
  have hclass : s.validClass n = some n := by
    have h' : (s.config.classes[n.val]).valid = true := h
    simp [State.validClass, h']
  rw [serveSetClass, State.onWheel_of_some hw hx, hclass]

theorem serveSetClass_invalid {n : Fin 16} (h : (s.config.classes[n]).valid = false) :
    serveSetClass w n s = refuse s .badField := by
  have hclass : s.validClass n = none := by
    have h' : (s.config.classes[n.val]).valid = false := h
    simp [State.validClass, h']
  rw [serveSetClass, State.onWheel_of_some hw hx, hclass]

theorem serveSetClass_above {n : Nat} (h : 16 ≤ n) : serveSetClass w n s = refuse s .badField := by
  rw [serveSetClass, State.onWheel_of_some hw hx]
  simp [State.validClass, Nat.not_lt.2 h]

/-- R32: the QUEUED care tasks of a wheel held for inspection, as the spec names them. -/
theorem serveHold_inspect (h : x.hold ≠ .quarantine ∨ s.boundToQuarantine x = false) :
    serveHold .fits w .inspect s =
      accept (State.withdrawWhere (s.changeWheel w fun y => { y with hold := .inspect }) fun v => v.isCare && v.wheel == some w)
        (.hold .inspect) := by
  have hfree : ¬ (x.hold = .quarantine ∧ s.boundToQuarantine x = true) := by
    rintro ⟨hhold, hbound⟩
    rcases h with h | h
    · exact h hhold
    · simp [h] at hbound
  rw [serveHold, State.onWheel_of_some hw hx]
  dsimp only
  rw [if_neg (by decide), if_neg hfree]
  rfl

theorem serveHold_inspect_bound (hhold : x.hold = .quarantine) (hbound : s.boundToQuarantine x = true) :
    serveHold .fits w .inspect s = refuse s .state := by
  rw [serveHold, State.onWheel_of_some hw hx]
  simp [hhold, hbound]

theorem serveHold_none :
    serveHold .fits w .none s = refuse s .badField := by
  rw [serveHold, State.onWheel_of_some hw hx]
  rfl

/-- R32: an unlisted kind of hold. -/
theorem serveHold_badName (k : Hold) :
    serveHold .badName w k s = refuse s .badField := by
  rw [serveHold, State.onWheel_of_some hw hx]
  rfl

theorem serveHold_quarantine :
    serveHold .fits w .quarantine s =
      accept (State.withdrawWhere (s.changeWheel w fun y => { y with hold := .quarantine })
        fun v => v.kind == .brush && v.wheel == some w) (.hold .quarantine) := by
  rw [serveHold, State.onWheel_of_some hw hx]
  rfl

end

/-- 02 section 2.4: what each of the four requests makes of a handle it refuses. -/
theorem request_wheel_refused {s : State} (hs : s.serves .management) {w : Nat} {code : ResultCode}
    (hcode : (8192 ≤ w ∧ code = .badField) ∨ (w < 8192 ∧ s.wheel w = none ∧ code = .notFound))
    {kind : RequestKind} (hk : kind.permitted .management = true) (k : State → Wheel → State × Reply) :
    RefusedWith s (s.request (proper .management) kind fun u => u.onWheel w (k u)) .management kind code := by
  rcases hcode with ⟨hw, rfl⟩ | ⟨hw, hx, rfl⟩
  · exact request_refused hs hk (State.onWheel_of_above hw _)
  · exact request_refused hs hk (State.onWheel_of_none (s := s.inGrant _) hw hx _)

/-- Settles O15: the four requests by what the wheel's record holds, then a handle they refuse. -/
theorem wheelSettingsAreJudged : Obligations.WheelSettingsAreJudged := by
  unfold Obligations.WheelSettingsAreJudged
  refine ⟨fun s w x hs hw hx => ⟨fun n hn => ?goodClass, fun n hn => ?badClass, fun n hn => ?noClass⟩,
    fun s w x hs hw hx => ⟨fun hhold hbound => ?inspectBound, fun hfree => ?inspect, ?quarantine, ?noHold, fun k => ?badHold⟩,
    fun s w x hs hw hx => ⟨fun hbound => ?releaseBound, fun hfree => ?release, fun hfault => ?noFault, fun hfault => ?fault⟩,
    fun s w n k hs => ?handles⟩
  case goodClass => exact ⟨_, rfl, request_emits hs rfl (serveSetClass_valid (s := s.inGrant _) hw hx hn)
      ((SameInside.granted s _).changeWheel w _) Emits.silent⟩
  case badClass => exact ⟨_, rfl, request_refused hs rfl (serveSetClass_invalid (s := s.inGrant _) hw hx hn)⟩
  case noClass => exact ⟨_, rfl, request_refused hs rfl (serveSetClass_above (s := s.inGrant _) hw hx hn)⟩
  case inspectBound =>
    exact ⟨_, rfl, request_refused hs rfl (serveHold_inspect_bound (s := s.inGrant _) hw hx hhold hbound)⟩
  case inspect =>
    exact ⟨_, rfl, request_emits hs rfl (serveHold_inspect (s := s.inGrant _) hw hx hfree)
      (((SameInside.granted s _).changeWheel w _).withdrawWhere _) Emits.silent⟩
  case quarantine =>
    exact ⟨_, rfl, request_emits hs rfl (serveHold_quarantine (s := s.inGrant _) hw hx)
      (((SameInside.granted s _).changeWheel w _).withdrawWhere _) Emits.silent⟩
  case noHold => exact ⟨_, rfl, request_refused hs rfl (serveHold_none (s := s.inGrant _) hw hx)⟩
  case badHold =>
    refine ⟨_, rfl, ?_⟩
    rw [State.request_badName]
    exact request_refused hs rfl (serveHold_badName (s := s.inGrant _) hw hx k)
  case releaseBound =>
    exact ⟨_, rfl, request_refused hs rfl ((State.onWheel_of_some (s := s.inGrant _) hw hx _).trans (if_pos hbound))⟩
  case release =>
    have hserve : serveRelease w (s.inGrant .management) = accept ((s.inGrant .management).setHold w .none) :=
      (State.onWheel_of_some (s := s.inGrant _) hw hx _).trans (if_neg (by exact ne_true_of_eq_false hfree))
    exact ⟨_, rfl, request_emits hs rfl hserve ((SameInside.granted s _).changeWheel w _) Emits.silent⟩
  case noFault =>
    exact ⟨_, rfl, request_refused hs rfl ((State.onWheel_of_some (s := s.inGrant _) hw hx _).trans
      (by simp only [hfault]))⟩
  case fault =>
    obtain ⟨f, hf⟩ := Option.ne_none_iff_exists'.1 hfault
    have hserve : serveClearCareFault w (s.inGrant .management) =
        accept ((s.inGrant .management).changeWheel w fun y => { y with careFault := none }) :=
      (State.onWheel_of_some (s := s.inGrant _) hw hx _).trans (by simp only [hf])
    exact ⟨_, rfl, request_emits hs rfl hserve ((SameInside.granted s _).changeWheel w _) Emits.silent⟩
  case handles =>
    have hall {code : ResultCode}
        (hcode : (8192 ≤ w ∧ code = .badField) ∨ (w < 8192 ∧ s.wheel w = none ∧ code = .notFound)) :
        (∃ t, exec (.setClass (proper .management) w n) s = .next t ∧ RefusedWith s t .management .setClass code) ∧
        (∃ t, exec (.holdWheel (proper .management) w k) s = .next t ∧ RefusedWith s t .management .hold code) ∧
        (∃ t, exec (.release (proper .management) w) s = .next t ∧ RefusedWith s t .management .release code) ∧
        ∃ t, exec (.clearCareFault (proper .management) w) s = .next t ∧ RefusedWith s t .management .clearCareFault code :=
      ⟨⟨_, rfl, request_wheel_refused hs hcode rfl _⟩, ⟨_, rfl, request_wheel_refused hs hcode rfl _⟩,
        ⟨_, rfl, request_wheel_refused hs hcode rfl _⟩, ⟨_, rfl, request_wheel_refused hs hcode rfl _⟩⟩
    exact ⟨fun h => hall (.inl ⟨h, rfl⟩), fun h hx => hall (.inr ⟨h, hx, rfl⟩)⟩

/-! ## Care classes -/

/-- R37: a class has no references exactly when no wheel holds it. -/
theorem State.references_eq_zero (s : State) (n : Fin 16) : s.references n = 0 ↔ ∀ e ∈ s.wheels, e.2.cls ≠ n := by
  simp [State.references, List.countP_eq_zero]

/-- Settles O16: the judgement of R38 in its order. -/
theorem careClassWriteIsTakenWhole : Obligations.CareClassWriteIsTakenWhole := by
  unfold Obligations.CareClassWriteIsTakenWhole
  intro s f hs inRange
  have hfits : RawClass.fits f = true ↔ inRange := RawClass.fits_iff f
  have hfin (n : Fin 16) (u : State) : serveWriteCareClass n f u =
      if !RawClass.fits f then refuse u .badField
      else if f.valid = false ∧ 0 < u.references n then refuse u .state
      else accept (u.takeClass n (RawClass.record f)) := by
    simp [serveWriteCareClass]
  refine ⟨fun n hn => ⟨_, rfl, request_refused hs rfl ?_⟩, fun n hin hvalid hheld => ⟨_, rfl, request_refused hs rfl ?_⟩,
    fun n hin hfree => 
    ⟨_, rfl, request_taken_quietly (v := (s.inGrant .management).takeClass n (RawClass.record f)) hs rfl ?_ rfl rfl⟩⟩
  · refine (if_neg (by decide)).trans ?_
    by_cases hlt : n < 16
    · have hout : RawClass.fits f = false := by
        rw [Bool.eq_false_iff]
        exact mt hfits.1 (hn.resolve_left (by omega))
      exact (hfin ⟨n, hlt⟩ _).trans (by simp [hout])
    · simp [serveWriteCareClass, hlt]
  · obtain ⟨e, he, hclass⟩ := hheld
    have hpos : 0 < s.references n := by
      rw [Nat.pos_iff_ne_zero, Ne, State.references_eq_zero]
      exact fun h => h e he hclass
    refine (if_neg (by decide)).trans ((hfin n _).trans ?_)
    rw [if_neg (by simp [hfits.2 hin]), if_pos ⟨hvalid, hpos⟩]
  · have hnone : ¬ (f.valid = false ∧ 0 < s.references n) := by
      rintro ⟨hvalid, hpos⟩
      rcases hfree with h | h
      · simp [h] at hvalid
      · have := (s.references_eq_zero n).2 h
        omega
    refine (if_neg (by decide)).trans ((hfin n _).trans ?_)
    rw [if_neg (by simp [hfits.2 hin])]
    exact if_neg hnone

end Sys2Proof.Machine


namespace Sys2Proof.Machine

set_option Elab.async false

/-! ## The sections of the hall -/

/-- What GEOMETRY makes of a window, a grant, and a receiver commute. -/
theorem State.takeGeometry_ports (s : State) (g : Geometry) : ((s.inGrant .management).takeGeometry g).ports =
    (State.inGrant { s with ports :=
      ⟨s.ports.management.fitWindow g.aisles, s.ports.robot.fitWindow g.aisles, s.ports.climate.fitWindow g.aisles⟩ }
      .management).ports := by
  simp only [State.takeGeometry, State.inGrant, State.grantPort_ports, State.received, State.setPort, Ports.set, State.port, Ports.get,
    received_eq, PortRecord.fitWindow, PortRecord.rxAfter]

/-- A request whose effect leaves the ports that the same grant would leave of another state is answered as on that state. -/
theorem request_taken_as {s s' v : State} {p : Port} (h : s.serves p) {k : RequestKind} (hk : k.permitted p = true)
    {effect : State → State × Reply} {b : Body} (he : effect (s.inGrant p) = accept v b)
    (hports : v.ports = (s'.inGrant p).ports) (harbiter : v.arbiter = (s'.inGrant p).arbiter) :
    (s.request (proper p) k effect).inside = v.inside ∧ Served s' (s.request (proper p) k effect) p k ⟨.ok, b⟩ [] := by
  rw [request_served h hk, he]
  exact ⟨State.inside_answer _ _ _ _,
    served_answer (v := v) k _ harbiter (fun q => by rw [State.port_congr hports q]) (raised_congr hports (raised_granted s' p))⟩

/-- R4: twelve zones below 8 are taken as they are. -/
theorem zonesOf_fin {n : Nat} (v : Vector ZoneNumber n) : zonesOf (v.map Fin.val) = some v := by
  have hall : (v.map Fin.val).toList.all (fun z => decide (z < 8)) = true := by
    rw [vector_all_iff]
    intro i
    simp
  rw [zonesOf, if_pos hall]
  refine congrArg some (Vector.ext fun i hi => ?_)
  simp [Fin.ofNat, Nat.mod_eq_of_lt (v[i]).isLt]

theorem zonesOf_above {n : Nat} {v : Vector Nat n} (h : ∃ i : Fin n, 8 ≤ v[i]) : zonesOf v = none := by
  have hnot : ¬ v.toList.all (fun z => decide (z < 8)) = true := by
    rw [vector_all_iff]
    obtain ⟨i, hi⟩ := h
    intro hall
    have := hall i
    simp at this
    have hi' : 8 ≤ v[i.val] := hi
    omega
  rw [zonesOf, if_neg hnot]

/-- R4, R87, R91: what a ZONE_MAP write makes of the state before the test. -/
def State.mapped (s : State) (aisle : Fin 16) (zones : Vector ZoneNumber 12) : State :=
  let u := { s with config := { s.config with zoneMap := s.config.zoneMap.set aisle zones } }
  u.withdrawWhere fun t => u.dryBrush t

theorem SameInside.mapped {s t : State} (h : SameInside s t) (aisle : Fin 16) (zones : Vector ZoneNumber 12) :
    SameInside (s.mapped aisle zones) (t.mapped aisle zones) :=
  (h.map fun u => { u with config := { u.config with zoneMap := u.config.zoneMap.set aisle zones } }).withdrawTest State.dryBrush

/-- A request whose effect ends in the test of R91 raises what the test finds. -/
theorem request_tested {s v e : State} {p : Port} (h : s.serves p) {k : RequestKind} (hk : k.permitted p = true)
    {effect : State → State × Reply} {b : Body} {raised : List (Port × Notice)} (he : effect (s.inGrant p) = accept v.testAvailable b)
    (hsame : SameInside v e) (hemits : Emits (s.inGrant p) v raised) :
    (s.request (proper p) k effect).inside = e.inside ∧
      Served s (s.request (proper p) k effect) p k ⟨.ok, b⟩ (raised ++ e.availableNow) := by
  rw [← State.availableNow_congr hsame.inside]
  exact request_emits h hk he hsame.testAvailable_left (hemits.trans (.testAvailable v))

/-- Settles O13: GEOMETRY by the judgement of R1, ZONE_MAP by its ranges. -/
theorem hallSectionsAreWritten : Obligations.HallSectionsAreWritten := by
  unfold Obligations.HallSectionsAreWritten
  refine ⟨?geometry, fun s hs => ⟨fun aisle zones => ?zoneMap, fun aisle zones hout => ?noMap⟩⟩
  case geometry =>
    intro s a l n q hs inRange g fit c
    have hjudge : judgeGeometry a l n q = if inRange then some g else none := judgeGeometry_eq a l n q
    refine ⟨fun hout => ⟨_, rfl, request_refused hs rfl ?_⟩, fun hin hheld => ⟨_, rfl, request_refused hs rfl ?_⟩,
      fun hin hwheels htasks => ⟨_, rfl, request_taken_as (v := (s.inGrant .management).takeGeometry g) hs rfl ?_
        (s.takeGeometry_ports g) rfl⟩⟩
    · refine (if_neg (by decide)).trans ?_
      rw [serveWriteGeometry, hjudge, if_neg hout]
    · refine (if_neg (by decide)).trans ?_
      rw [serveWriteGeometry, hjudge, if_pos hin]
      exact if_neg fun h => hheld.elim (· h.1) (· h.2)
    · refine (if_neg (by decide)).trans ?_
      rw [serveWriteGeometry, hjudge, if_pos hin]
      exact if_pos ⟨hwheels, htasks⟩
  case zoneMap =>
    have hserve (u : State) : serveWriteZoneMap aisle (zones.map Fin.val) u = accept (u.mapped aisle zones).testAvailable := by
      simp [serveWriteZoneMap, zonesOf_fin, State.takeZoneMap, State.mapped]
    exact ⟨_, rfl, request_tested hs rfl ((if_neg (by decide)).trans (hserve _)) ((SameInside.granted s _).mapped aisle zones)
      (Emits.silent (by simp [State.mapped]) (by simp [State.mapped]))⟩
  case noMap =>
    refine ⟨_, rfl, request_refused hs rfl ((if_neg (by decide)).trans ?_)⟩
    unfold serveWriteZoneMap
    split
    · rw [zonesOf_above (hout.resolve_left (by omega))]
    · rfl

end Sys2Proof.Machine


namespace Sys2Proof.Machine

set_option Elab.async false

/-! ## The sections SWEEP, ROBOT and SENSOR -/

/-- R5: the parts of a coordinate name it. -/
theorem coordOf_parts (c : Coord) : coordOf ⟨c.aisle, c.level, c.position⟩ = some c := by
  simp [coordOf, Coord.ofParts]

theorem coordOf_outside {r : RawCoord} (h : ¬ (r.aisle < 16 ∧ r.level < 12 ∧ r.position < 48)) : coordOf r = none := by
  simp only [coordOf, Coord.ofParts, h, dite_false]

/-- R5, R117, R187: a ROBOT section in its ranges. -/
theorem judgeRobot_inRange (i o h : Coord) {a : Vector Nat 8} {ca cl boost : Nat} (ha : ∀ k : Fin 8, 1 ≤ a[k] ∧ a[k] ≤ 60)
    (hca : ca ≤ 255) (hcl : cl ≤ 63) (hboost : boost ≤ 4095) :
    judgeRobot ⟨⟨i.aisle, i.level, i.position⟩, ⟨o.aisle, o.level, o.position⟩, ⟨h.aisle, h.level, h.position⟩, a, ca, cl, boost⟩ =
      some ⟨i, o, h, a, ca, cl, boost⟩ := by
  have hall : a.toList.all (fun x => decide (1 ≤ x) && decide (x ≤ 60)) = true := by
    rw [vector_all_iff]
    intro k
    simpa using ha k
  simp only [judgeRobot, coordOf_parts]
  exact if_pos ⟨hall, hca, hcl, hboost⟩

/-- R5, R117, R187: a ROBOT section out of its ranges in any field. -/
theorem judgeRobot_outOfRange {r : RawRobot} (h : coordOf r.infeed = none ∨ coordOf r.outfeed = none ∨ coordOf r.home = none ∨
    (∃ k : Fin 8, r.allowances[k] = 0 ∨ 60 < r.allowances[k]) ∨ 255 < r.ca ∨ 63 < r.cl ∨ 4095 < r.boost) :
    judgeRobot r = none := by
  unfold judgeRobot
  split
  · next hi ho hh =>
    have hfields := ((h.resolve_left (by simp [hi])).resolve_left (by simp [ho])).resolve_left (by simp [hh])
    refine if_neg ?_
    rintro ⟨hall, hca, hcl, hboost⟩
    rw [vector_all_iff] at hall
    rcases hfields with ⟨k, hk⟩ | hfields
    · have := hall k
      simp only [Bool.and_eq_true, decide_eq_true_eq] at this
      omega
    · omega
  · rfl

/-- R156: a SENSOR section in its ranges. -/
theorem judgeSensor_inRange {period : Nat} (zones : Vector (Option ZoneNumber) 24) (h10 : 10 ≤ period) (h600 : period ≤ 600) :
    judgeSensor period (zones.map fun z => z.map Fin.val) = some ⟨period, zones⟩ := by
  have hall : (zones.map fun z => z.map Fin.val).toList.all assignmentFits = true := by
    rw [vector_all_iff]
    intro k
    rw [Fin.getElem_fin, Vector.getElem_map]
    cases zones[k.val] <;> simp [assignmentFits]
  rw [judgeSensor, if_pos ⟨h10, h600, hall⟩]
  refine congrArg (fun a => some (SensorSection.mk period a)) (Vector.ext fun i hi => ?_)
  rw [Vector.getElem_map, Vector.getElem_map, Option.map_map]
  have hid : (fun n => Fin.ofNat 8 n) ∘ Fin.val = (id : ZoneNumber → ZoneNumber) := funext fun z => by simp
  rw [hid, Option.map_id_fun, id]

theorem judgeSensor_outOfRange {period : Nat} {zones : Vector (Option Nat) 24}
    (h : period < 10 ∨ 600 < period ∨ ∃ (k : Fin 24) (z : Nat), zones[k] = some z ∧ 8 ≤ z) : judgeSensor period zones = none := by
  refine if_neg ?_
  rintro ⟨h10, h600, hall⟩
  obtain ⟨k, z, hz, hz8⟩ := (h.resolve_left (by omega)).resolve_left (by omega)
  rw [vector_all_iff] at hall
  have := hall k
  simp only [hz, assignmentFits, decide_eq_true_eq] at this
  omega

/-- R156: a head whose assignment changes, as the spec writes it. -/
theorem Head.reassign_eq (h : Head) (before after : Option ZoneNumber) :
    h.reassign before after = if before = after then h else ⟨if after = none then .off else .probing, 0, none⟩ := by
  unfold Head.reassign
  cases after <;> simp

/-- A WRITE_CONFIG whose effect is taken and touches neither ports nor arbiter. -/
theorem section_taken {s v : State} (hs : s.serves .management) {effect : State → State × Reply}
    (he : effect (s.inGrant .management) = accept v) {e : State} (hsame : SameInside v e) (hports : v.ports = (s.inGrant .management).ports)
    (harbiter : v.arbiter = (s.inGrant .management).arbiter) :
    (s.request (proper .management) .writeConfig fun u => named .fits u (effect u)).inside = e.inside ∧
      Served s (s.request (proper .management) .writeConfig fun u => named .fits u (effect u)) .management .writeConfig
        ⟨.ok, .empty⟩ [] :=
  request_emits hs rfl ((if_neg (by decide)).trans he) hsame (Emits.silent hports harbiter)

/-- A WRITE_CONFIG whose effect is a refusal. -/
theorem section_refused {s : State} (hs : s.serves .management) {effect : State → State × Reply}
    (he : effect (s.inGrant .management) = refuse (s.inGrant .management) .badField) :
    RefusedWith s (s.request (proper .management) .writeConfig fun u => named .fits u (effect u)) .management .writeConfig
      .badField :=
  request_refused hs rfl ((if_neg (by decide)).trans he)

/-- Settles O19: the three sections by their ranges. -/
theorem sectionWritesAreJudgedWhole : Obligations.SectionWritesAreJudgedWhole := by
  unfold Obligations.SectionWritesAreJudgedWhole
  refine ⟨fun s p hs => ⟨fun hp => ?sweep, fun hp => ?noSweep⟩, ?sections⟩
  case sweep =>
    have hserve (u : State) : serveWriteSweep p u =
        accept { u with config := { u.config with period := p }, sweep := { u.sweep with timer := 0 } } := if_pos hp
    exact ⟨_, rfl, section_taken hs (hserve _) ((SameInside.granted s _).map fun u =>
      { u with config := { u.config with period := p }, sweep := { u.sweep with timer := 0 } }) rfl rfl⟩
  case noSweep => exact ⟨_, rfl, section_refused hs (if_neg (by omega))⟩
  case sections =>
    intro s hs takes refuses inHall raw
    refine ⟨fun i o h a ca cl boost ha hca hcl hboost => ?_, fun r hr => ?_, fun period zones h10 h600 => ?_,
      fun period zones hout => ?_, fun p => ?_⟩
    · refine ⟨_, rfl, section_taken hs (v := { s.inGrant .management with
        config := { s.config with robot := ⟨i, o, h, a, ca, cl, boost⟩ } }) ?_ ⟨rfl⟩ rfl rfl⟩
      rw [serveWriteRobot, judgeRobot_inRange i o h ha hca hcl hboost]
      rfl
    · refine ⟨_, rfl, section_refused hs ?_⟩
      have hnone : judgeRobot r = none := judgeRobot_outOfRange (by
        rcases hr with hr | hr | hr | hr
        · exact .inl (coordOf_outside hr)
        · exact .inr (.inl (coordOf_outside hr))
        · exact .inr (.inr (.inl (coordOf_outside hr)))
        · exact .inr (.inr (.inr hr)))
      rw [serveWriteRobot, hnone]
    · refine ⟨_, rfl, section_taken hs (v := (s.inGrant .management).takeSensor ⟨period, zones⟩) ?_ ⟨?_⟩ rfl rfl⟩
      · rw [serveWriteSensor, judgeSensor_inRange zones h10 h600]
      · simp only [State.takeSensor, Head.reassign_eq]
        rfl
    · refine ⟨_, rfl, section_refused hs ?_⟩
      rw [serveWriteSensor, judgeSensor_outOfRange hout]
    · refine ⟨_, rfl, ?_⟩
      rw [State.request_badName]
      exact request_refused hs rfl (if_pos rfl)

/-! ## Limits and captures -/

/-- R167: limits within their ranges and their band are taken as clamped. -/
theorem judgeLimits_eq (l : RawLimits) : judgeLimits l =
    if l.lo ≤ 1000 ∧ l.hi ≤ 1000 ∧ l.boost ≤ 4095 ∧ l.hold ≤ 720 ∧ l.shift ≤ 4 ∧
      (l.lo : Int) + (min 50 l.hy : Nat) ≤ (l.hi : Int) - (min 50 l.hy : Nat) then
      some ⟨l.lo, l.hi, min 50 l.hy, max 1 (min 30 l.dwell), l.boost, l.hold, l.shift⟩ else none := by
  unfold judgeLimits
  dsimp only
  by_cases hrange : 1000 < l.lo ∨ 1000 < l.hi ∨ 4095 < l.boost ∨ 720 < l.hold ∨ 4 < l.shift
  · rw [if_pos hrange, if_neg (by omega)]
  · rw [if_neg hrange]
    by_cases hband : l.hi < l.lo + 2 * min 50 l.hy
    · rw [if_pos hband, if_neg (by omega)]
    · rw [if_neg hband, if_pos (by omega)]

/-- R167: BUSY, the zone, the fields. -/
theorem serveLimits_busy {s : State} (h : s.memory.saving ≠ none) (n : Nat) (l : RawLimits) : serveLimits n l s = refuse s .busy := by
  simp [serveLimits, Option.isSome_iff_ne_none.2 h]

theorem serveLimits_refused {s : State} (hfree : s.memory.saving = none) {n : Nat} {l : RawLimits} (h : 8 ≤ n ∨ judgeLimits l = none) :
    serveLimits n l s = refuse s .badField := by
  rw [serveLimits, if_neg (by simp [hfree]), onZone]
  split
  · rw [h.resolve_left (by omega)]
  · rfl

theorem serveLimits_taken {s : State} (hfree : s.memory.saving = none) (z : ZoneNumber) {l : RawLimits} {x : ZoneLimits}
    (h : judgeLimits l = some x) : serveLimits z l s = accept (s.setLimits z x) (.limits x) := by
  rw [serveLimits, if_neg (by simp [hfree]), onZone_of_fin, h]

/-- Settles O50: the judgement of R167 on either command, then the requests on one zone. -/
theorem limitsCapturesAndAcknowledgements : Obligations.LimitsCapturesAndAcknowledgements := by
  unfold Obligations.LimitsCapturesAndAcknowledgements
  refine ⟨?limits, ?captures⟩
  case limits =>
    intro s p n l c k hp hs hc refuses stored stands
    have hjudge : judgeLimits l = if stands then some stored else none := judgeLimits_eq l
    -- Both commands serve the same effect under their own kind.
    obtain ⟨hexec, hk⟩ : exec c s = .next (s.request (proper p) k (serveLimits n l)) ∧ k.permitted p = true := by
      rcases hc with ⟨rfl, rfl⟩ | ⟨rfl, rfl, rfl⟩
      · refine ⟨rfl, ?_⟩
        cases p
        exacts [rfl, absurd rfl hp, rfl]
      · exact ⟨rfl, rfl⟩
    refine ⟨fun h => ⟨_, hexec, request_refused hs hk (serveLimits_busy (s := s.inGrant p) h n l)⟩,
      fun hfree hout => ⟨_, hexec, request_refused hs hk (serveLimits_refused (s := s.inGrant p) hfree ?_)⟩,
      fun z hfree hz hstands => ⟨_, hexec, ?_⟩⟩
    · exact hout.imp_right fun h => hjudge.trans (if_neg h)
    · subst hz
      exact request_emits (e := s.setLimits z stored) hs hk
        (serveLimits_taken (s := s.inGrant p) hfree z (hjudge.trans (if_pos hstands)))
        ((SameInside.granted s p).map fun u => u.setLimits z stored) (Emits.silent rfl rfl)
  case captures =>
    intro s p hp hs takes refuses
    have hpermitted : ∀ k ∈ [RequestKind.ackZone, .startCapture, .stopCapture, .readCapture], k.permitted p = true := by
      cases p
      exacts [by decide, absurd rfl hp, by decide]
    simp only [List.mem_cons, List.not_mem_nil, or_false, forall_eq_or_imp, forall_eq] at hpermitted
    obtain ⟨hack, hstart, hstop, hread⟩ := hpermitted
    have takenZone (z : ZoneNumber) (f : Zone → Zone) {k : RequestKind} (hk : k.permitted p = true) {b : Body}
        {effect : State → State × Reply} (he : effect (s.inGrant p) = accept ((s.inGrant p).changeZone z f) b) :
        (s.request (proper p) k effect).inside = { s.inside with zones := s.zones.set z (f (s.zone z)) } ∧
          Served s (s.request (proper p) k effect) p k ⟨.ok, b⟩ [] :=
      request_emits (e := s.changeZone z f) hs hk he ((SameInside.granted s p).changeZone z f) Emits.silent
    refine ⟨fun z => ⟨⟨_, rfl, takenZone z (fun r => { r with unacked := false }) hack (onZone_of_fin _ z _)⟩,
      ⟨_, rfl, takenZone z (fun r => { r with ring := [], overrun := false, capture := .continuous }) hstart (onZone_of_fin _ z _)⟩,
      fun n h1 h255 => ⟨_, rfl, takenZone z (fun r => { r with ring := [], overrun := false, capture := .counted n }) hstart
        ((onZone_of_fin _ z _).trans ?_)⟩,
      fun n h255 => ⟨_, rfl, request_refused hs hstart ((onZone_of_fin _ z _).trans (if_neg (by omega)))⟩,
      ⟨_, rfl, takenZone z (fun r => { r with capture := .off }) hstop (onZone_of_fin _ z _)⟩,
      fun n h1 h6 => ⟨_, rfl, takenZone z (fun r => { r with ring := r.ring.drop n }) hread
        ((onZone_of_fin _ z _).trans (if_pos ⟨h1, h6⟩))⟩,
      fun n hn => ⟨_, rfl, request_refused hs hread ((onZone_of_fin _ z _).trans (if_neg (by omega)))⟩⟩,
      fun z n hz => ⟨⟨_, rfl, request_refused hs hack (onZone_of_above hz _)⟩, ⟨_, rfl, request_refused hs hstart (onZone_of_above hz _)⟩,
        ⟨_, rfl, request_refused hs hstop (onZone_of_above hz _)⟩, ⟨_, rfl, request_refused hs hread (onZone_of_above hz _)⟩⟩⟩
    rw [if_pos h255, if_neg (by omega)]

end Sys2Proof.Machine


namespace Sys2Proof.Machine

set_option Elab.async false

/-! ## Exclusions -/

/-- R177: a request by what its zone's exclusion and mark make of it. -/
theorem serveRequestExclusion_eq {s : State} {z : ZoneNumber} {m : Nat} {x : Exclusion} {code : ResultCode}
    (h : (s.zone z).requestExclusion (max 1 (min 240 m)) = (x, code)) :
    serveRequestExclusion z m s = (s.changeZone z fun r => { r with exclusion := x }, ⟨code, .empty⟩) := by
  rw [serveRequestExclusion, onZone_of_fin]
  simp only [h]

theorem Emits.endExclusion (s : State) (z : ZoneNumber) :
    Emits s ((s.changeZone z fun r => { r with exclusion := .none }).raise .climate .exclusionEnded) [(.climate, .exclusionEnded)] :=
  (silent rfl rfl : Emits s (s.changeZone z fun r => { r with exclusion := .none }) []).trans (raise _ _ _)

theorem State.granted_eq (s : State) (i : InternalRequest) : s.grantInternal i = { s with arbiter := s.granted i } := by
  unfold State.grantInternal State.granted
  by_cases h : i ∈ s.arbiter.asked
  · rw [if_pos (by simpa using h), if_pos h]
    rfl
  · rw [if_neg (by simpa using h), if_neg h]

/-- What an effect in the grant of an internal requester raises, and the arbiter after it. -/
theorem Emits.afterGrant {s t : State} {i : InternalRequest} {raised : List (Port × Notice)}
    (h : Emits (s.grantInternal i) t raised) : t.arbiter = s.granted i ∧ PortsAlone s t raised := by
  have heq := State.granted_eq s i
  refine ⟨by rw [h.arbiter, heq], fun q => ?_, fun q n hn => ?_⟩
  · rw [h.sans q, heq]
    rfl
  · rw [h.notices q n hn, heq]
    rfl

/-- Settles O51: the table of R177, then the two endings of R179. -/
theorem exclusionsAreGrantedAndEnded : Obligations.ExclusionsAreGrantedAndEnded := by
  unfold Obligations.ExclusionsAreGrantedAndEnded
  refine ⟨?requested, fun s n m hs hn => ⟨_, rfl, request_refused hs rfl (onZone_of_above hn _)⟩, fun s p hp hs => ⟨?ended, ?noZone⟩,
    fun s z hs => ⟨fun hdue => ?granted, fun hother => ?void⟩⟩
  case requested =>
    intro s z m hs n answers
    have hanswers {x : Exclusion} {code : ResultCode} (h : (s.zone z).requestExclusion n = (x, code)) : answers x code :=
      ⟨_, rfl, request_emits hs rfl (serveRequestExclusion_eq (s := s.inGrant .climate) h)
        ((SameInside.granted s _).changeZone z _) Emits.silent⟩
    refine ⟨fun hnone hclear => hanswers ?_, fun hnone hmarked => hanswers ?_, fun q hpending _ => hanswers ?_,
      fun q hactive => hanswers ?_⟩
    · simp [Zone.requestExclusion, hnone, hclear]
    · simp [Zone.requestExclusion, hnone, hmarked]
    · simp [Zone.requestExclusion, hpending]
    · simp [Zone.requestExclusion, hactive]
  case ended =>
    have hpermitted : RequestKind.endExclusion.permitted p = true := by
      cases p
      exacts [rfl, absurd rfl hp, rfl]
    refine fun z => ⟨fun hsome => ⟨_, rfl, ?_⟩, fun hnone => ⟨_, rfl, request_refused hs hpermitted ?_⟩⟩
    · have hserve : serveEndExclusion z (s.inGrant p) = accept ((s.inGrant p).endExclusion z) := by
        refine (onZone_of_fin _ z _).trans ?_
        split
        · exact absurd ‹_› hsome
        · rfl
      exact request_tested hs hpermitted hserve (((SameInside.granted s p).changeZone z _).raise_left _ _) (Emits.endExclusion _ z)
    · refine (onZone_of_fin _ z _).trans ?_
      split
      · rfl
      · exact absurd hnone ‹_›
  case noZone =>
    have hpermitted : RequestKind.endExclusion.permitted p = true := by
      cases p
      exacts [rfl, absurd rfl hp, rfl]
    exact fun n hn => ⟨_, rfl, request_refused hs hpermitted (onZone_of_above hn _)⟩
  case granted =>
    have hstep : exec (.exclusionEnding z) s = .next ((s.grantInternal (.exclusionEnd z)).endExclusion z) := by
      have hdue' : ((s.grantInternal (.exclusionEnd z)).zone z).exclusion = .active 0 := by
        rw [State.granted_eq]
        exact hdue
      exact congrArg Host.Outcome.next ((State.whenRunning_of_running hs _).trans (if_pos hdue'))
    have hsame := ((SameInside.grantInternal s (.exclusionEnd z)).changeZone z fun r => { r with exclusion := .none }).raise_left
      .climate .exclusionEnded
    obtain ⟨harbiter, hports⟩ := ((Emits.endExclusion (s.grantInternal (.exclusionEnd z)) z).trans (.testAvailable _)).afterGrant
    refine ⟨_, hstep, harbiter, hsame.testAvailable_left.inside, ?_⟩
    rw [← State.availableNow_congr hsame.inside]
    exact hports
  case void =>
    have hother' : ((s.grantInternal (.exclusionEnd z)).zone z).exclusion ≠ .active 0 := by
      rw [State.granted_eq]
      exact hother
    exact congrArg Host.Outcome.next ((State.whenRunning_of_running hs _).trans ((if_neg hother').trans (State.granted_eq s _)))

end Sys2Proof.Machine


namespace Sys2Proof.Machine

set_option Elab.async false

/-! ## Every request is received -/

/-- R182, R183: the command of a listed kind is a frame received. But for READ_CONFIG on the climate port it is permitted by its kind. -/
theorem exec_of_request {c : Instr} {k : RequestKind} {f : Frame} (h : c.request = some (k, f)) :
    ∃ (allowed : Bool) (effect : State → State), (∀ s, exec c s = .next (s.receive f k.code allowed effect)) ∧
      ((f.port = .climate → k ≠ .readConfig) → allowed = k.permitted f.port) ∧ (k.permitted f.port = false → allowed = false) := by
  cases c
  case readConfig f' name =>
    cases h
    refine ⟨_, _, fun _ => rfl, fun hother => ?_, fun hno => by simp [readConfigAllowed, readConfigPermitted, hno]⟩
    have hport : f.port ≠ .climate := fun h => hother h rfl
    cases hp : f.port
    · simp [readConfigAllowed, readConfigPermitted, hp]
    · simp [readConfigAllowed, readConfigPermitted, hp]
    · exact absurd hp hport
  all_goals cases h <;> exact ⟨_, _, fun _ => rfl, fun _ => rfl, id⟩

/-- R182, R183: a request of a listed kind or not. -/
theorem exec_of_asks {c : Instr} {f : Frame} {code : Nat}
    (h : (∃ k : RequestKind, c.request = some (k, f) ∧ code = k.code) ∨ c = .unknownKindRequest f code) :
    ∃ (allowed : Bool) (effect : State → State), ∀ s, exec c s = .next (s.receive f code allowed effect) := by
  rcases h with ⟨k, hk, rfl⟩ | rfl
  · obtain ⟨allowed, effect, hexec, -⟩ := exec_of_request hk
    exact ⟨allowed, effect, hexec⟩
  · exact ⟨false, id, fun _ => rfl⟩

/-- R190: nothing is received in retention. -/
theorem State.receive_retention {s : State} (h : s.supply.state = .retention) (f : Frame) (code : Nat) (allowed : Bool)
    (effect : State → State) : s.receive f code allowed effect = s := by
  simp [State.receive, State.admission, h]

theorem State.whenRunning_retention {s : State} (h : s.supply.state = .retention) (f : State → State) : s.whenRunning f = s := by
  simp [State.whenRunning, h]

/-! ## Admission -/

/-- R181, R183: a request refused at its admission is answered without a grant, and changes nothing. -/
theorem turnedAway_of_admission {s : State} {f : Frame} {allowed : Bool} {r : ResultCode} (h : s.admission f allowed = .refused r)
    (code : Nat) (effect : State → State) : TurnedAway s (s.receive f code allowed effect) f.port code r := by
  have hreceive : s.receive f code allowed effect = (s.received f.port).answer f.port code ⟨r, .empty⟩ := by
    simp only [State.receive, h]
  rw [hreceive]
  refine ⟨by simp, rfl, ?_, fun q hq => by simp [hq], fun q n hn => ?_⟩
  · rw [State.port_answer, if_pos rfl, State.port_received, if_pos rfl, answer_received]
  · by_cases g : q = f.port
    · subst g
      simp [answer_notices]
    · simp [g]

/-- The order of R181 and R183 on a port that serves. -/
theorem State.admission_of_serves {s : State} {f : Frame} (h : s.serves f.port) (allowed : Bool) : s.admission f allowed =
    if f.result ≠ 0 then .refused .badField else if !allowed then .refused .notPermitted
    else if f.form = .badLength then .refused .badField else .granted := by
  simp [State.admission, h.1, turnsAway_of_serves h]

/-- R182: whether a BUSY waits. -/
theorem PortRecord.busyWaits_iff (r : PortRecord) : r.busyWaits = true ↔ ∃ x ∈ r.tx, x.place = .busy := by
  simp [PortRecord.busyWaits]

/-- R182: what a BUSY makes of a port's record. -/
theorem PortRecord.answerBusy_eq (r : PortRecord) (code : Nat) : r.answerBusy code =
    { r with tx := r.tx ++ if ∃ x ∈ r.tx, x.place = .busy then [] else [⟨code, ⟨.busy, .empty⟩, .busy⟩] } := by
  unfold PortRecord.answerBusy
  by_cases h : ∃ x ∈ r.tx, x.place = .busy
  · rw [if_pos ((busyWaits_iff r).2 h), if_pos h, List.append_nil]
  · rw [if_neg (mt (busyWaits_iff r).1 h), if_neg h]

/-- Settles O3: each order of admission in turn. -/
theorem requestsAreAdmittedInOrder : Obligations.RequestsAreAdmittedInOrder := by
  unfold Obligations.RequestsAreAdmittedInOrder
  intro asks turnedAway busy
  refine ⟨⟨?busyRequest, ?busyCommand⟩, ⟨?result, ?length, ?readConfigLength⟩, ?permission, ?readConfigName, ?unknown⟩
  case busyRequest =>
    intro c s f code hasks hrunning hheld
    obtain ⟨allowed, effect, hexec⟩ := exec_of_asks hasks
    have haway : (s.port f.port).turnsAway = true := by
      rcases hheld with (h | ⟨k, r, h⟩) | ⟨h, hbusy⟩
      · simp [PortRecord.turnsAway, h]
      · simp [PortRecord.turnsAway, h]
      · simp only [PortRecord.turnsAway, h]
        exact (PortRecord.busyWaits_iff _).2 hbusy
    have hreceive : s.receive f code allowed effect = (s.hunt f.port).answerBusy f.port code := by
      simp [State.receive, State.admission, hrunning, haway]
    refine ⟨_, (hexec s).trans (congrArg Host.Outcome.next hreceive), by simp, rfl, fun q hq => by simp [hq], ?_⟩
    simp [PortRecord.answerBusy_eq]
  case busyCommand =>
    intro s p code hrunning
    have hstep : exec (.requestBusy p code) s =
        .next (s.setPort p (PortRecord.answerBusy (PortRecord.holdsRequest { s.port p with rx := [] }) code)) :=
      congrArg Host.Outcome.next (State.whenRunning_of_running hrunning _)
    have hbusy {held : Outstanding} (h : (s.port p).outstanding.getD .accepted = held) :
        busy (.requestBusy p code) s p code (some held) := by
      refine ⟨_, hstep, by simp, rfl, fun q hq => by simp [hq], ?_⟩
      simp [PortRecord.answerBusy_eq, PortRecord.holdsRequest, h]
    refine ⟨fun hsome => ?_, fun hnone => hbusy (by simp [hnone]), fun hfree => ⟨_, hstep, hrunning, .inl ?_⟩⟩
    · obtain ⟨held, hheld⟩ := Option.ne_none_iff_exists'.1 hsome
      rw [hheld]
      exact hbusy (by simp [hheld])
    · rcases hfree with h | h <;> simp [PortRecord.answerBusy_eq, PortRecord.holdsRequest, h]
  case result =>
    intro c s f code hasks hs hresult
    obtain ⟨allowed, effect, hexec⟩ := exec_of_asks hasks
    exact ⟨_, hexec s, turnedAway_of_admission (by rw [State.admission_of_serves hs, if_pos hresult]) _ _⟩
  case length =>
    intro c s f k hk hs hresult hform hpermitted hother
    obtain ⟨allowed, effect, hexec, hallowed, -⟩ := exec_of_request hk
    refine ⟨_, hexec s, turnedAway_of_admission ?_ _ _⟩
    rw [State.admission_of_serves hs, hallowed hother]
    simp [hresult, hform, hpermitted]
  case readConfigLength =>
    intro s name hs hname
    refine ⟨_, rfl, turnedAway_of_admission (f := { port := .climate, form := .badLength }) ?_ _ _⟩
    rcases hname with ⟨n, rfl⟩ | rfl <;> exact State.admission_of_serves (f := { port := .climate, form := .badLength }) hs _
  case permission =>
    intro c s f k hk hs hresult hpermitted
    obtain ⟨allowed, effect, hexec, -, hdenied⟩ := exec_of_request hk
    refine ⟨_, hexec s, turnedAway_of_admission ?_ _ _⟩
    rw [State.admission_of_serves hs, hdenied hpermitted]
    simp [hresult]
  case readConfigName =>
    intro s form name hs hname
    have hdenied : readConfigAllowed { port := .climate, form := form } name = false := by
      rcases hname with ⟨hzone, hsensor⟩ | rfl
      · cases name
        case zone n => exact absurd rfl (hzone n)
        case sensor => exact absurd rfl hsensor
        all_goals rfl
      · simp [readConfigAllowed]
    refine ⟨_, rfl, turnedAway_of_admission (f := { port := .climate, form := form }) ?_ _ _⟩
    rw [State.admission_of_serves (f := { port := .climate, form := form }) hs, hdenied]
    rfl
  case unknown =>
    intro s f code hs hresult
    refine ⟨_, rfl, turnedAway_of_admission ?_ _ _⟩
    rw [State.admission_of_serves hs]
    simp [hresult]

/-! ## Retention -/

/-- Settles O4: requests are not received, events of the running part do nothing; the two events that act are written out. -/
theorem retentionHoldsStill : Obligations.RetentionHoldsStill := by
  unfold Obligations.RetentionHoldsStill
  refine ⟨fun c s hs => ⟨fun hminute hbattery hreturn => ?still, ?minute⟩, fun s => ⟨fun hs => ?entry, fun below => ?battery⟩⟩
  case still =>
    rcases hk : c.request with _ | ⟨k, f⟩
    · cases c
      case minuteEvent => exact absurd rfl hminute
      case batteryThreshold b => exact absurd rfl (hbattery b)
      case mainSupplyReturn i => exact absurd rfl (hreturn i)
      case unknownKindRequest f code => exact congrArg Host.Outcome.next (State.receive_retention hs _ _ _ _)
      all_goals
        cases hk <;> exact congrArg Host.Outcome.next (State.whenRunning_retention hs _)
    · obtain ⟨allowed, effect, hexec, -⟩ := exec_of_request hk
      exact (hexec s).trans (congrArg Host.Outcome.next (State.receive_retention hs _ _ _ _))
  case minute =>
    exact congrArg (fun u : State => Host.Outcome.next { u with clock := s.clock.tick }) (State.whenRunning_retention hs _)
  case entry => exact congrArg Host.Outcome.next (State.whenRunning_of_running hs _)
  case battery =>
    refine congrArg (fun intact => Host.Outcome.next { s with supply := ⟨s.supply.state, intact, below⟩ }) ?_
    cases s.supply.state <;> cases below <;> simp

end Sys2Proof.Machine


namespace Sys2Proof.Machine

set_option Elab.async false

/-! ## Frames and responses -/

/-- R180: a check of two bytes is read back as it was written. -/
theorem valueOf_bytesOf_two {n : Nat} (h : n < 65536) : valueOf (bytesOf 2 n) = n := by
  have hbytes : bytesOf 2 n = [BitVec.ofNat 8 (n / 256), BitVec.ofNat 8 n] := by simp [bytesOf, List.range_succ]
  rw [hbytes]
  simp only [valueOf, List.foldl_cons, List.foldl_nil, BitVec.toNat_ofNat]
  omega

/-- R180: a frame the part makes survives the tests, and carries its length, kind, result and body. -/
theorem frameBytes_survives (kind result : Byte) (body : List Byte) (h : body.length ≤ 253) :
    ∃ (l : Byte) (rest : List Byte), frameBytes kind result body = 0xA9#8 :: l :: rest ∧ l.toNat = body.length + 2 ∧
      frameSurvives l rest = true ∧ rest.take l.toNat = kind :: result :: body := by
  have hl : (BitVec.ofNat 8 (body.length + 2)).toNat = body.length + 2 := by
    rw [BitVec.toNat_ofNat]
    omega
  have htake (check : List Byte) : ((kind :: result :: body) ++ check).take (body.length + 2) = kind :: result :: body :=
    List.take_left' rfl
  have hdrop (check : List Byte) : ((kind :: result :: body) ++ check).drop (body.length + 2) = check :=
    List.drop_left' rfl
  have hcheck (covered : List Byte) :
      valueOf (bytesOf 2 (crc16 0xFFFF#16 covered).toNat) = (crc16 0xFFFF#16 covered).toNat :=
    valueOf_bytesOf_two (crc16 0xFFFF#16 covered).isLt
  refine ⟨BitVec.ofNat 8 (body.length + 2), (kind :: result :: body) ++
    bytesOf 2 (crc16 0xFFFF#16 (BitVec.ofNat 8 (body.length + 2) :: kind :: result :: body)).toNat, rfl, hl, ?_, ?_⟩
  · have hlength (n : Nat) : (bytesOf 2 n).length = 2 := by simp [bytesOf]
    rw [frameSurvives, hl, htake, hdrop, hcheck]
    simp [hlength]
  · rw [hl, htake]

/-- R182: a response that leaves frees its place. -/
theorem PortRecord.sent_of_free {r : PortRecord} (h : ∀ code reply, r.outstanding ≠ some (.answered code reply)) :
    r.sent = { r with tx := r.tx.tail } := by
  unfold PortRecord.sent
  split
  · exact absurd ‹_› (h _ _)
  · rfl

/-- R182: an answer finds its place unless an earlier answer holds it. -/
theorem PortRecord.answer_eq (r : PortRecord) (code : Nat) (reply : Reply) : r.answer code reply =
    if ∃ x ∈ r.tx, x.place = .answer then { r with outstanding := some (.answered code reply) }
    else { r with outstanding := none, tx := r.tx ++ [⟨code, reply, .answer⟩] } := by
  simp [PortRecord.answer]

/-- Settles O7: the receiver's events, the transmitter's, and the frames made. -/
theorem framesAndResponsesLeaveTheirPlaces : Obligations.FramesAndResponsesLeaveTheirPlaces := by
  unfold Obligations.FramesAndResponsesLeaveTheirPlaces
  refine ⟨fun s p hs => ⟨fun l rest hbad => ?_, fun b => ?_, fun hfree => ?_, fun code r hwaits hplace => ?_⟩, frameBytes_survives⟩
  · refine congrArg Host.Outcome.next ((State.whenRunning_of_running hs _).trans ?_)
    simp [hbad, State.hunt]
  · exact congrArg Host.Outcome.next (State.whenRunning_of_running hs _)
  · refine congrArg Host.Outcome.next ((State.whenRunning_of_running hs _).trans ?_)
    rw [PortRecord.sent_of_free hfree]
  · refine congrArg Host.Outcome.next ((State.whenRunning_of_running hs _).trans ?_)
    simp only [PortRecord.sent, hwaits, PortRecord.answer_eq]
    rw [if_neg (by simpa using hplace)]

/-! ## Saving -/

/-- Settles O52: the copy in the grant, and the completion by what is read back. -/
theorem savesCopyAndComplete : Obligations.SavesCopyAndComplete := by
  unfold Obligations.SavesCopyAndComplete
  refine ⟨fun s hs => ?_, fun s equal hs => ⟨fun hidle => ?_, ?_⟩⟩
  · have hstep : exec (.saveConfig (proper .management)) s = .next ((s.inGrant .management).beginSave .management) :=
      congrArg Host.Outcome.next (receive_served hs _ _)
    refine ⟨_, hstep, rfl, rfl, fun q hq => ?_, ?_⟩
    · cases q
      exacts [absurd rfl hq, rfl, rfl]
    · exact congrArg (fun r : PortRecord => { r with outstanding := some .saving }) (received_eq (s.port .management))
  · refine congrArg Host.Outcome.next ((State.whenRunning_of_running hs _).trans ?_)
    simp only [State.completeSave, hidle]
  · intro c hc reply
    refine congrArg Host.Outcome.next ((State.whenRunning_of_running hs _).trans ?_)
    simp only [State.completeSave, hc, State.answer, PortRecord.answer_eq]
    cases equal <;> rfl

/-! ## Withdrawals -/

/-- A kind that carries a flip. -/
def TaskKind.flips (k : TaskKind) : Bool := k == .flip || k == .flipBrush

/-- A kind that carries a brush. -/
def TaskKind.brushes (k : TaskKind) : Bool := k == .brush || k == .flipBrush

/-- A kind that carries a movement. -/
def TaskKind.moves (k : TaskKind) : Bool := !(k.flips || k.brushes || k == .survey)

/-- R23: the marks a kind stands for, set or cleared. -/
theorem Wheel.mark_clear (x : Wheel) (k : TaskKind) : x.mark k false = { x with
    flipMark := x.flipMark && !k.flips, brushMark := x.brushMark && !k.brushes, moveMark := x.moveMark && !k.moves } := by
  have hsurvey : TaskKind.survey.flips = false ∧ TaskKind.survey.brushes = false ∧ TaskKind.survey.moves = false := by decide
  cases k
  case survey => simp [Wheel.mark, hsurvey]
  all_goals simp [Wheel.mark, TaskKind.flips, TaskKind.brushes, TaskKind.moves]

/-- R23: clearing the marks of a list of tasks. -/
theorem Wheel.mark_all (l : List TaskRecord) (x : Wheel) : l.foldl (fun x t => x.mark t.kind false) x = { x with
    flipMark := x.flipMark && !l.any fun t => t.kind.flips
    brushMark := x.brushMark && !l.any fun t => t.kind.brushes
    moveMark := x.moveMark && !l.any fun t => t.kind.moves } := by
  induction l generalizing x with
  | nil => simp
  | cons t l ih =>
    rw [List.foldl_cons, ih, Wheel.mark_clear]
    simp only [List.any_cons, Bool.not_or, Bool.and_assoc]

/-- A withdrawal touches the task list and the marks alone. -/
theorem State.withdrawWhere_frame (s : State) (p : TaskRecord → Bool) : s.withdrawWhere p =
    { s with tasks := s.tasks.filter fun t => !(t.queued && p t), wheels := (s.withdrawWhere p).wheels } := by
  have hmarks (l : List TaskRecord) (u : State) : l.foldl (fun u t => u.markTask t false) u =
      { u with wheels := (l.foldl (fun u t => u.markTask t false) u).wheels } := by
    induction l generalizing u with
    | nil => rfl
    | cons t l ih =>
      have hone : u.markTask t false = { u with wheels := (u.markTask t false).wheels } := by
        unfold State.markTask
        cases t.wheel <;> rfl
      rw [List.foldl_cons, ih]
      generalize (l.foldl (fun u t => u.markTask t false) (u.markTask t false)).wheels = wheels
      rw [hone]
  exact hmarks _ _

/-- A withdrawal keeps the handles in use. -/
theorem State.withdrawWhere_handles (s : State) (p : TaskRecord → Bool) :
    (s.withdrawWhere p).wheels.map Prod.fst = s.wheels.map Prod.fst := by
  have hmarks (l : List TaskRecord) (u : State) :
      (l.foldl (fun u t => u.markTask t false) u).wheels.map Prod.fst = u.wheels.map Prod.fst := by
    induction l generalizing u with
    | nil => rfl
    | cons t l ih =>
      rw [List.foldl_cons, ih]
      unfold State.markTask
      cases t.wheel with
      | none => rfl
      | some w => exact Table.keys_change _ _ _
  exact hmarks _ _

/-- R85: the record of every wheel after a withdrawal. -/
theorem State.wheel_withdrawWhere (s : State) (p : TaskRecord → Bool) (v : Nat) :
    (s.withdrawWhere p).wheel v = (s.wheel v).map fun x =>
      ((s.tasks.filter fun t => t.queued && p t).filter fun t => t.wheel == some v).foldl (fun x t => x.mark t.kind false) x :=
  State.wheel_markAll _ v

/-- Settles O23: the frame of a withdrawal, and the marks it clears. -/
theorem withdrawalClearsMarksAlone : Obligations.WithdrawalClearsMarksAlone := by
  unfold Obligations.WithdrawalClearsMarksAlone
  intro s p gone flips brushes moves u
  refine ⟨s.withdrawWhere_frame p, s.withdrawWhere_handles p, fun v => ?_⟩
  have hany (kinds : TaskKind → Bool) :
      ((s.tasks.filter fun t => t.queued && p t).filter fun t => t.wheel == some v).any (fun t => kinds t.kind) = gone v kinds := by
    rw [List.any_filter, List.any_filter]
    simp only [gone, Bool.and_assoc]
  rw [State.wheel_withdrawWhere]
  refine congrArg (fun f => (s.wheel v).map f) (funext fun x => ?_)
  rw [Wheel.mark_all, hany TaskKind.flips, hany TaskKind.brushes, hany TaskKind.moves]
  rfl

end Sys2Proof.Machine


namespace Sys2Proof.Machine

set_option Elab.async false

/-! ## Surveys, boards in doubt, discrepancies -/

/-- An entry into the list touches neither the ports nor the arbiter. -/
theorem State.enter_ports {s u : State} {t : TaskRecord} {n : Fin 64} (h : s.enter t = some (u, n)) :
    u.ports = s.ports ∧ u.arbiter = s.arbiter := by
  have hroom : s.makeRoomInSequence.ports = s.ports ∧ s.makeRoomInSequence.arbiter = s.arbiter := by
    unfold State.makeRoomInSequence
    split <;> exact ⟨rfl, rfl⟩
  obtain ⟨-, rfl⟩ := State.enter_some h
  rw [State.markTask_ports, State.markTask_arbiter]
  exact hroom

/-- An offer that is entered is an entry, perhaps after a withdrawal. -/
theorem State.offerNonCare_enter {s u : State} {t : TaskRecord} {n : Fin 64} (h : s.offerNonCare t = some (u, n)) :
    ∃ v : State, v.enter t = some (u, n) ∧ (v = s ∨ ∃ m, v = s.withdraw m) := by
  unfold State.offerNonCare at h
  split at h
  · split at h
    · exact ⟨s, h, .inl rfl⟩
    · split at h
      · cases h
      · exact ⟨_, h, .inr ⟨_, rfl⟩⟩
  · cases h

theorem Emits.offerNonCare {s u : State} {t : TaskRecord} {n : Fin 64} (h : s.offerNonCare t = some (u, n)) : Emits s u [] := by
  obtain ⟨v, hv, hcases⟩ := State.offerNonCare_enter h
  obtain ⟨hports, harbiter⟩ := State.enter_ports hv
  refine silent (hports.trans ?_) (harbiter.trans ?_)
  · rcases hcases with rfl | ⟨m, rfl⟩
    exacts [rfl, State.withdrawWhere_ports _ _]
  · rcases hcases with rfl | ⟨m, rfl⟩
    exacts [rfl, State.withdrawWhere_arbiter _ _]

/-- R139: a survey of a range of the hall is offered. -/
theorem serveRequestSurvey_inHall {s : State} {l : Fin 12} {a b : Fin 48} (hl : l.val < s.config.geometry.levels)
    (hb : b.val < s.config.geometry.positions) (hab : a ≤ b) :
    serveRequestSurvey l a b s = s.enterSurvey (s.surveyTask l a b) := by
  have hbounds : l.val < 12 ∧ a.val < 48 ∧ b.val < 48 := ⟨l.2, a.2, b.2⟩
  rw [serveRequestSurvey, dif_pos hbounds, if_pos ⟨hl, hb, hab⟩]

theorem serveRequestSurvey_outside {s : State} {l a b : Nat}
    (h : s.config.geometry.levels ≤ l ∨ s.config.geometry.positions ≤ b ∨ b < a) :
    serveRequestSurvey l a b s = refuse s .badField := by
  unfold serveRequestSurvey
  split
  · exact if_neg (by omega)
  · rfl

/-- The survey a request offers, in the grant. -/
theorem State.surveyTask_granted (s : State) (p : Port) (l : Fin 12) (a b : Fin 48) :
    (s.inGrant p).surveyTask l a b = { TaskRecord.offered .survey none (.level (s.port .management).window.source l) s.clock.minute with
      range := some ⟨a, b, some a⟩ } := by
  have hwindow := s.window_granted p .management
  simp only [State.port, Ports.get] at hwindow
  unfold State.surveyTask
  rw [hwindow]
  rfl

/-- R86, R144, R145: a finding's frame, as the spec writes it. -/
theorem State.record_inside (s : State) (k : DiscrepancyKind) (c : Option Coord) (h : Option Nat) (x : Option TagId) :
    (s.record k c h x).inside = if s.discrepancies.length < 32 then
      { s.inside with discrepancies := s.discrepancies ++ [⟨k, s.clock.minute, c, h, x⟩] } else s.inside := by
  have hroom : Config.discrepancyRoom = 32 := rfl
  unfold State.record
  rw [hroom]
  split <;> rfl

/-- Settles O44: REQUEST_SURVEY by its range, boards and findings by their operations, READ_DISCREPANCY by the list. -/
theorem surveysAndDiscrepanciesAreKept : Obligations.SurveysAndDiscrepanciesAreKept := by
  unfold Obligations.SurveysAndDiscrepanciesAreKept
  refine ⟨fun s hs => ⟨?survey, fun l a b hout => ⟨_, rfl, request_refused hs rfl (serveRequestSurvey_outside hout)⟩⟩,
    ⟨fun s c w => ?suspect, ?finding⟩, fun s hs => ⟨fun d rest hlist => ?read, fun hempty => ?noEntry⟩⟩
  case survey =>
    intro l a b hl hb hab task
    have hserve : serveRequestSurvey l a b (s.inGrant .management) = (s.inGrant .management).enterSurvey task := by
      rw [serveRequestSurvey_inHall (s := s.inGrant .management) hl hb hab, State.surveyTask_granted]
    refine ⟨fun u n hoffer => ?_, fun hoffer => ?_⟩
    · obtain ⟨v, hv, hsame⟩ := (SameInside.granted s .management).offerNonCare_some hoffer
      exact ⟨_, rfl, request_tested hs rfl (hserve.trans (by rw [State.enterSurvey, hv])) hsame (Emits.offerNonCare hv)⟩
    · have hv := (SameInside.granted s .management).offerNonCare_none hoffer
      exact ⟨_, rfl, request_refused hs rfl (hserve.trans (by rw [State.enterSurvey, hv]))⟩
  case suspect =>
    unfold State.makeSuspect
    refine congrArg (State.withdrawWhere _) (funext fun t => ?_)
    unfold TaskRecord.worksOn
    cases t.isCare <;> simp [Bool.and_comm]
  case finding =>
    intro s k c h tag u
    have hemits := Emits.record s k c h tag
    refine ⟨hemits.portsAlone, hemits.arbiter, fun hroom => ?_, fun hfull => ?_⟩
    · exact (s.record_inside k c h tag).trans (if_pos hroom)
    · exact (s.record_inside k c h tag).trans (if_neg (by omega))
  case read =>
    have hserve : serveReadDiscrepancy (s.inGrant .management) =
        accept { s.inGrant .management with discrepancies := rest } (.discrepancy d rest.length) := by
      have hlist' : (s.inGrant .management).discrepancies = d :: rest := hlist
      rw [serveReadDiscrepancy, hlist']
    exact ⟨_, rfl, request_emits (e := { s with discrepancies := rest }) hs rfl hserve ⟨rfl⟩ (Emits.silent rfl rfl)⟩
  case noEntry =>
    have hempty' : (s.inGrant .management).discrepancies = [] := hempty
    exact ⟨_, rfl, request_refused hs rfl (by rw [serveReadDiscrepancy, hempty'])⟩

end Sys2Proof.Machine


namespace Sys2Proof.Machine

set_option Elab.async false

/-! ## The pair of a report -/

section
variable {s : State} {v : TaskRecord}

/-- R98: the pair of the task that is out is current. -/
theorem State.judge_of_out (law : s.TaskLaw) (hv : v ∈ s.tasks) (hq : v.queued = false) : s.judge ⟨v.number, v.issue⟩ = .current v := by
  have htask : s.task ⟨v.number.val, v.number.isLt⟩ = some v := State.task_of_mem law.numbers hv
  simp [State.judge, htask, hq]

theorem State.onReport_of_current {r : TaskRef} (h : s.judge r = .current v) (k : TaskRecord → State × Reply) : s.onReport r k = k v := by
  simp only [State.onReport, h]

theorem State.judge_above {r : TaskRef} (h : 64 ≤ r.task) : s.judge r = .badField := by
  simp [State.judge, Nat.not_lt.2 h]

/-- R98: the pair of another issue of the task that is out is stale. -/
theorem State.judge_otherIssue (law : s.TaskLaw) (hv : v ∈ s.tasks) (hq : v.queued = false) {r : TaskRef} (hn : v.number.val = r.task)
    (hissue : v.issue ≠ r.issue) : s.judge r = .stale := by
  have hlt : r.task < 64 := hn ▸ v.number.isLt
  have htask : s.task ⟨r.task, hlt⟩ = some v := by
    have hnumber : (⟨r.task, hlt⟩ : Fin 64) = v.number := Fin.ext hn.symm
    rw [hnumber]
    exact State.task_of_mem law.numbers hv
  simp only [State.judge, hlt, dite_true, htask, hq, Bool.false_eq_true, if_false, hissue]

/-- R98: the pair of a number that is not out is too late when it is the number's last issue, and else stale. -/
theorem State.judge_notOut {r : TaskRef} {n : Fin 64} (hn : n.val = r.task) (hqueued : ∀ v ∈ s.tasks, v.number = n → v.queued = true) :
    s.judge r = if r.issue = s.dispatch.lastIssue[n] then .tooLate else .stale := by
  have hlt : r.task < 64 := hn ▸ n.isLt
  have hnumber : (⟨r.task, hlt⟩ : Fin 64) = n := Fin.ext hn.symm
  simp only [State.judge, hlt, dite_true, hnumber]
  split
  · next t ht =>
    have hmem := List.mem_of_find?_eq_some ht
    have hnum : t.number = n := by simpa using List.find?_some ht
    rw [hqueued t hmem hnum, if_pos rfl]
  · rfl

/-- R98: a report is judged by its pair before anything else. -/
theorem exec_of_report {c : Instr} {k : RequestKind} {f : Frame} {r : TaskRef} (hc : c.request = some (k, f)) (hr : c.report = some r) :
    k.permitted .robot = true ∧ ∃ K : State → TaskRecord → State × Reply,
      ∀ s, exec c s = .next (s.request f k fun u => u.onReport r (K u)) := by
  cases c
  case arrived => cases hc; cases hr; exact ⟨rfl, _, fun _ => rfl⟩
  case picked => cases hc; cases hr; exact ⟨rfl, _, fun _ => rfl⟩
  case slotRead => cases hc; cases hr; exact ⟨rfl, _, fun _ => rfl⟩
  case doneReport => cases hc; cases hr; exact ⟨rfl, _, fun _ => rfl⟩
  case faultReport f kind ref => cases hc; cases hr; exact ⟨rfl, _, fun _ => rfl⟩
  case slotBlocked f ref => cases hc; cases hr; exact ⟨rfl, _, fun _ => rfl⟩
  all_goals cases hr

/-- R98: a report whose pair is not current is refused by the judgement of its pair. -/
theorem report_misjudged (hs : s.serves .robot) {k : RequestKind} (hk : k.permitted .robot = true) {r : TaskRef} {c : ResultCode}
    (hc : (s.judge r = .badField ∧ c = .badField) ∨ (s.judge r = .stale ∧ c = .stale) ∨ (s.judge r = .tooLate ∧ c = .tooLate))
    (K : State → TaskRecord → State × Reply) :
    RefusedWith s (s.request (proper .robot) k fun u => u.onReport r (K u)) .robot k c := by
  have hjudge : (s.inGrant .robot).judge r = s.judge r := rfl
  refine request_refused hs hk ?_
  rcases hc with ⟨h, rfl⟩ | ⟨h, rfl⟩ | ⟨h, rfl⟩ <;> simp only [State.onReport, hjudge, h]

variable (hs : s.serves .robot) (law : s.TaskLaw) (hv : v ∈ s.tasks) (hq : v.queued = false)
include hs law hv hq

/-- A current report whose effect is a refusal. -/
theorem report_refused {k : RequestKind} (hk : k.permitted .robot = true) {c : ResultCode} {K : State → TaskRecord → State × Reply}
    (he : K (s.inGrant .robot) v = refuse (s.inGrant .robot) c) :
    RefusedWith s (s.request (proper .robot) k fun u => u.onReport ⟨v.number, v.issue⟩ (K u)) .robot k c :=
  request_refused hs hk ((State.onReport_of_current (s := s.inGrant .robot) (s.judge_of_out law hv hq) _).trans he)

end

/-! ## What fits a task -/

/-- R106: a BEFORE_PICK movement but a PARK lifts its wheel. -/
def TaskRecord.Lifts (v : TaskRecord) : Prop := ∃ k, v.kind = .movement k ∧ k ≠ .park ∧ v.phase = some .beforePick

theorem TaskRecord.verifiable_iff (v : TaskRecord) : v.verifiable = true ↔ v.isCare = true ∨ v.Lifts := by
  unfold TaskRecord.verifiable TaskRecord.isCare TaskRecord.Lifts
  cases v.kind with
  | movement k => cases k <;> simp
  | _ => simp

theorem TaskRecord.movement_verifiable_iff (v : TaskRecord) : (v.isMovement && v.verifiable) = true ↔ v.Lifts := by
  unfold TaskRecord.verifiable TaskRecord.isMovement TaskRecord.Lifts
  cases v.kind with
  | movement k => cases k <;> simp
  | _ => simp

/-- R111, R112: where a DONE does not fit. -/
theorem State.doneFits_eq_false {s : State} {v : TaskRecord}
    (h : (v.isCare = true ∧ s.link.verified = false) ∨ (v.isMovement = true ∧ v.phase ≠ some .carried)) : s.doneFits v = false := by
  unfold State.doneFits
  unfold TaskRecord.isCare TaskRecord.isMovement at h
  cases hk : v.kind with
  | movement k => simpa [hk] using h
  | survey => simp [hk] at h
  | _ => simpa [hk] using h

theorem TaskRecord.queued_of_issued {v : TaskRecord} (h : v.state = .issued) : v.queued = false := by simp [TaskRecord.queued, h]
theorem TaskRecord.queued_of_aborting {v : TaskRecord} (h : v.state = .aborting) : v.queued = false := by simp [TaskRecord.queued, h]

/-- R140: a SLOT_READ that is not of the next position of an issued survey. -/
theorem slotRead_sequence {s : State} {v : TaskRecord} {n : Nat} {tag : TagReport} (hstate : v.state = .issued)
    (h : ∀ g p, v.kind = .survey → v.range = some g → g.next = some p → p.val ≠ n) :
    (if v.state = .aborting then (s.setPosition (s.abortedReadPosition v n)).abortOut v
      else
        match v.kind, v.range with
        | .survey, some r =>
          match r.next with
          | some m => if m.val = n then s.applySurvey v r m tag else refuse s .sequence
          | none => refuse s .sequence
        | _, _ => refuse s .sequence) = refuse s .sequence := by
  rw [if_neg (by simp [hstate])]
  split
  · next r hkind hrange =>
    split
    · next m hm => exact if_neg (h r m hkind hrange hm)
    · rfl
  · rfl

/-- Settles O30: the judgement of the pair, then each report against what the task is. -/
theorem reportsAreJudgedInOrder : Obligations.ReportsAreJudgedInOrder := by
  unfold Obligations.ReportsAreJudgedInOrder
  refine ⟨fun s c k r hs law hc hr => ?pair, ?fit⟩
  case pair =>
    obtain ⟨hk, K, hexec⟩ := exec_of_report hc hr
    have hmisjudged {code : ResultCode} (hcode : (s.judge r = .badField ∧ code = .badField) ∨ (s.judge r = .stale ∧ code = .stale) ∨
        (s.judge r = .tooLate ∧ code = .tooLate)) : ∃ t, exec c s = .next t ∧ RefusedWith s t .robot k code :=
      ⟨_, hexec s, report_misjudged hs hk hcode K⟩
    refine ⟨fun h => hmisjudged (.inl ⟨State.judge_above h, rfl⟩), fun n hn => ⟨?_, fun hqueued => ?_⟩⟩
    · rintro ⟨v, hv, rfl, hq, hissue⟩
      exact hmisjudged (.inr (.inl ⟨State.judge_otherIssue law hv hq hn hissue, rfl⟩))
    · have hjudge := State.judge_notOut hn hqueued
      split
      · next h => exact hmisjudged (.inr (.inr ⟨hjudge.trans (if_pos h), rfl⟩))
      · next h => exact hmisjudged (.inr (.inl ⟨hjudge.trans (if_neg h), rfl⟩))
  case fit =>
    intro s v hs law hv hstate ref lifts
    have hq := TaskRecord.queued_of_issued hstate
    have hissued : ¬ v.state = .aborting := by simp [hstate]
    refine ⟨fun tag h => ⟨_, rfl, report_refused hs law hv hq rfl ?_⟩, fun h => ⟨_, rfl, report_refused hs law hv hq rfl ?_⟩,
      fun n tag h => ⟨_, rfl, report_refused hs law hv hq rfl (slotRead_sequence hstate h)⟩,
      fun a b h => ⟨_, rfl, report_refused hs law hv hq rfl ?_⟩⟩
    · refine (if_neg hissued).trans (if_neg ?_)
      intro hfits
      obtain ⟨hverifiable, hunverified⟩ := Bool.and_eq_true_iff.1 hfits
      exact h ⟨(v.verifiable_iff).1 hverifiable, by simpa using hunverified⟩
    · refine (if_neg hissued).trans (if_neg ?_)
      intro hfits
      obtain ⟨hlifts, hverified⟩ := Bool.and_eq_true_iff.1 hfits
      exact h ⟨(v.movement_verifiable_iff).1 hlifts, hverified⟩
    · have hfits : (s.inGrant .robot).doneFits v = false := State.doneFits_eq_false (s := s.inGrant .robot) h
      exact (if_neg (by simp [hfits])).trans (if_neg hissued)

end Sys2Proof.Machine


namespace Sys2Proof.Machine

set_option Elab.async false

/-! ## How a task ends -/

/-- R100: a BEFORE_PICK movement that fails or is aborted loses its intent. -/
def TaskRecord.unmade (v : TaskRecord) (e : Ending) : Bool :=
  v.isMovement && v.phase == some .beforePick && (e.isFailed || e == .aborted)

/-- R34: the care fault a care task that fails sets. -/
def TaskRecord.faulted (v : TaskRecord) (e : Ending) : Option CareFault :=
  if v.isCare then
    match e with
    | .failed .mismatch => some .mismatchAtCare
    | .failed .unreadable => some .unreadableAtCare
    | .failed .attempts => some .attempts
    | _ => none
  else none

section
variable {s : State} {v : TaskRecord} {e : Ending}

/-- R34, R100: the effects of an outcome by what it unmakes or faults. -/
theorem State.endEffects_eq : s.endEffects v e =
    match v.wheel with
    | none => s
    | some w =>
      if v.unmade e then s.endIntent w e
      else match v.faulted e with
        | some f => s.setCareFault w f
        | none => s := by
  unfold State.endEffects TaskRecord.unmade TaskRecord.faulted TaskRecord.isCare TaskRecord.isMovement
  cases v.wheel with
  | none => rfl
  | some w =>
    dsimp only
    cases v.kind with
    | movement k =>
      cases e with
      | failed r => simp [Ending.isFailed]
      | _ => simp [Ending.isFailed]
    | survey => simp
    | _ =>
      cases e with
      | failed r => cases r <;> simp [FailReason.careFault]
      | _ => simp

theorem TaskRecord.faulted_isCare (h : v.faulted e ≠ none) : v.isCare = true := by
  by_contra hcare
  simp [TaskRecord.faulted, hcare] at h

theorem TaskRecord.isMovement_of_isCare (h : v.isCare = true) : v.isMovement = false := by
  unfold TaskRecord.isCare at h
  unfold TaskRecord.isMovement
  cases hk : v.kind <;> simp_all

theorem TaskRecord.unmade_of_faulted (h : v.faulted e ≠ none) : v.unmade e = false := by
  simp [TaskRecord.unmade, TaskRecord.isMovement_of_isCare (TaskRecord.faulted_isCare h)]

theorem TaskRecord.faulted_of_unmade (h : v.unmade e = true) : v.faulted e = none := by
  by_contra hfault
  rw [TaskRecord.unmade_of_faulted hfault] at h
  cases h

theorem State.endEffects_unmade {w : Nat} (hw : v.wheel = some w) (h : v.unmade e = true) : s.endEffects v e = s.endIntent w e := by
  simp [State.endEffects_eq, hw, h]

theorem State.endEffects_faulted {w : Nat} {f : CareFault} (hw : v.wheel = some w) (h : v.faulted e = some f) :
    s.endEffects v e = s.setCareFault w f := by
  simp [State.endEffects_eq, hw, TaskRecord.unmade_of_faulted (by simp [h] : v.faulted e ≠ none), h]

theorem State.endEffects_none (h : v.wheel = none ∨ (v.unmade e = false ∧ v.faulted e = none)) : s.endEffects v e = s := by
  rcases h with hw | ⟨hu, hf⟩
  · simp [State.endEffects_eq, hw]
  · cases hw : v.wheel <;> simp [State.endEffects_eq, hw, hu, hf]

/-- The effects of an outcome: none, the intent's end, or a care fault. -/
theorem State.endEffects_cases {P : State → Prop} (hs : P s)
    (hunmade : ∀ w, v.wheel = some w → v.unmade e = true → P (s.endIntent w e))
    (hfault : ∀ w f, v.wheel = some w → v.faulted e = some f → P (s.setCareFault w f)) : P (s.endEffects v e) := by
  rw [State.endEffects_eq]
  split
  · exact hs
  · next w hw =>
    split
    · exact hunmade w hw ‹_›
    · split
      · exact hfault w _ hw ‹_›
      · exact hs

/-! ### What the parts of an ending touch -/

theorem State.setCareFault_tasks (s : State) (w : Nat) (f : CareFault) :
    (s.setCareFault w f).tasks = s.tasks.filter fun t => !(t.queued && (t.isCare && t.names w)) := State.withdrawWhere_tasks _

theorem State.setCareFault_frame (s : State) (w : Nat) (f : CareFault) :
    s.setCareFault w f = { s with tasks := (s.setCareFault w f).tasks, wheels := (s.setCareFault w f).wheels } := by
  have hframe := (s.changeWheel w fun x => { x with careFault := some f }).withdrawWhere_frame fun t => t.isCare && t.names w
  rw [State.setCareFault_tasks]
  exact hframe

theorem State.freeReserved_frame (s : State) (c : Coord) (r : Role) (w : Nat) :
    s.freeReserved c r w = { s with slots := (s.freeReserved c r w).slots } := by
  unfold State.freeReserved
  split <;> rfl

theorem State.freeDestination_frame (s : State) (w : Nat) (i : Intent) :
    s.freeDestination w i = { s with slots := (s.freeDestination w i).slots } := by
  unfold State.freeDestination
  cases i.destination with
  | slot c => exact s.freeReserved_frame c _ w
  | infeed => rfl
  | outfeed => rfl

theorem State.endIntent_frame (s : State) (w : Nat) (e : Ending) :
    s.endIntent w e = { s with wheels := (s.endIntent w e).wheels, slots := (s.endIntent w e).slots } := by
  unfold State.endIntent
  cases (s.wheel w).bind Wheel.intent with
  | none => rfl
  | some i =>
    dsimp only
    rw [s.freeDestination_frame w i]
    rfl

theorem State.endEffects_frame (s : State) (v : TaskRecord) (e : Ending) : s.endEffects v e =
    { s with tasks := (s.endEffects v e).tasks, wheels := (s.endEffects v e).wheels, slots := (s.endEffects v e).slots } := by
  refine State.endEffects_cases (P := fun u => u = { s with tasks := u.tasks, wheels := u.wheels, slots := u.slots }) rfl
    (fun w _ _ => ?_) fun w f _ _ => ?_
  · rw [State.endIntent_tasks]
    exact s.endIntent_frame w e
  · have hslots : (s.setCareFault w f).slots = s.slots := by simp [State.setCareFault, State.withdrawCare]
    rw [hslots]
    exact s.setCareFault_frame w f

theorem State.recordSurvey_frame (s : State) (v : TaskRecord) (e : Ending) :
    s.recordSurvey v e = { s with lastSurvey := (s.recordSurvey v e).lastSurvey } := by
  unfold State.recordSurvey
  split <;> rfl

theorem State.markTask_frame (s : State) (v : TaskRecord) (b : Bool) :
    s.markTask v b = { s with wheels := (s.markTask v b).wheels } := by
  unfold State.markTask
  split <;> rfl

theorem Zone.leave_eq_left : Zone.leave = Zone.left := by
  funext z
  unfold Zone.leave Zone.left
  by_cases h : z.presence = true
  · simp only [h, if_true] <;> cases z.exclusion <;> rfl
  · rw [if_neg h]
    obtain ⟨⟩ := z
    simp only [Bool.not_eq_true] at h
    simp only [h]
    split <;> rfl

theorem State.raiseIf_frame (s : State) (b : Bool) (p : Port) (n : Notice) :
    s.raiseIf b p n = { s with ports := (s.raiseIf b p n).ports } := by
  unfold State.raiseIf
  split <;> rfl

theorem State.clearOut_frame (s : State) : s.clearOut = { s with
    zones := s.zones.map Zone.left, ports := s.clearOut.ports
    link := { s.link with verified := false, issuedTag := none, deadline := none } } := by
  unfold State.clearOut State.leaveZones
  rw [State.raiseIf_frame, Zone.leave_eq_left]

/-- R99 to R101, R178: the state a task that ends leaves before the effects of its outcome. -/
def State.dropTask (s : State) (v : TaskRecord) : State :=
  (State.markTask { s with tasks := s.tasks.filter fun x => x.number != v.number } v false).clearOut

theorem State.endTask_eq (s : State) (v : TaskRecord) (e : Ending) : s.endTask v e =
    ((((s.dropTask v).endEffects v e).recordSurvey v e).raiseIf e.isFailed .management .taskFailed).raiseIf v.isMovement .management
      .moveEnded := rfl

theorem State.dropTask_frame (s : State) (v : TaskRecord) : s.dropTask v = { s with
    tasks := s.tasks.filter fun x => x.number != v.number, wheels := (s.dropTask v).wheels, ports := (s.dropTask v).ports
    zones := s.zones.map Zone.left, link := { s.link with verified := false, issuedTag := none, deadline := none } } := by
  have hwheels : (s.dropTask v).wheels =
      (State.markTask { s with tasks := s.tasks.filter fun x => x.number != v.number } v false).wheels := by
    rw [State.dropTask, State.clearOut_frame]
  rw [hwheels, State.dropTask, State.clearOut_frame, State.markTask_frame]

theorem State.endTask_wheels (s : State) (v : TaskRecord) (e : Ending) :
    (s.endTask v e).wheels = ((s.dropTask v).endEffects v e).wheels := by
  rw [State.endTask_eq, State.raiseIf_frame, State.raiseIf_frame, State.recordSurvey_frame]

theorem State.endTask_tasks (s : State) (v : TaskRecord) (e : Ending) :
    (s.endTask v e).tasks = ((s.dropTask v).endEffects v e).tasks := by
  rw [State.endTask_eq, State.raiseIf_frame, State.raiseIf_frame, State.recordSurvey_frame]

theorem State.endTask_slots (s : State) (v : TaskRecord) (e : Ending) :
    (s.endTask v e).slots = ((s.dropTask v).endEffects v e).slots := by
  rw [State.endTask_eq, State.raiseIf_frame, State.raiseIf_frame, State.recordSurvey_frame]

theorem State.endTask_lastSurvey (s : State) (v : TaskRecord) (e : Ending) :
    (s.endTask v e).lastSurvey = (s.recordSurvey v e).lastSurvey := by
  rw [State.endTask_eq, State.raiseIf_frame, State.raiseIf_frame, State.endEffects_frame, State.dropTask_frame]
  unfold State.recordSurvey
  split <;> rfl

/-- R100: what an ending touches. -/
theorem State.endTask_frame (s : State) (v : TaskRecord) (e : Ending) : s.endTask v e = { s with
    tasks := (s.endTask v e).tasks, wheels := (s.endTask v e).wheels, slots := (s.endTask v e).slots
    lastSurvey := (s.endTask v e).lastSurvey, ports := (s.endTask v e).ports, zones := s.zones.map Zone.left
    link := { s.link with verified := false, issuedTag := none, deadline := none } } := by
  have heffects : ((s.dropTask v).endEffects v e) = { s with
      tasks := ((s.dropTask v).endEffects v e).tasks, wheels := ((s.dropTask v).endEffects v e).wheels
      slots := ((s.dropTask v).endEffects v e).slots, ports := (s.dropTask v).ports, zones := s.zones.map Zone.left
      link := { s.link with verified := false, issuedTag := none, deadline := none } } := by
    have h := (s.dropTask v).endEffects_frame v e
    generalize ((s.dropTask v).endEffects v e) = u at h ⊢
    have hdrop := s.dropTask_frame v
    generalize s.dropTask v = d at h hdrop ⊢
    rw [h, hdrop]
  rw [State.endTask_wheels, State.endTask_tasks, State.endTask_slots]
  rw [State.endTask_eq]
  generalize ((s.dropTask v).endEffects v e) = u at heffects ⊢
  have hfinal : ((u.recordSurvey v e).raiseIf e.isFailed .management .taskFailed).raiseIf v.isMovement .management .moveEnded =
      { u with
        lastSurvey := (((u.recordSurvey v e).raiseIf e.isFailed .management .taskFailed).raiseIf v.isMovement .management
          .moveEnded).lastSurvey
        ports := (((u.recordSurvey v e).raiseIf e.isFailed .management .taskFailed).raiseIf v.isMovement .management
          .moveEnded).ports } := by
    rw [State.raiseIf_frame, State.raiseIf_frame, State.recordSurvey_frame]
  rw [hfinal]
  generalize (((u.recordSurvey v e).raiseIf e.isFailed .management .taskFailed).raiseIf v.isMovement .management .moveEnded) = t
  rw [heffects]

end

end Sys2Proof.Machine


namespace Sys2Proof.Machine

set_option Elab.async false

section
variable {s : State} {v : TaskRecord} {e : Ending} {w : Nat} {x : Wheel}

/-! ### The wheel of a task that ends -/

theorem State.wheel_dropTask (s : State) (v : TaskRecord) (w : Nat) : (s.dropTask v).wheel w =
    if v.wheel = some w then (s.wheel w).map fun x => x.mark v.kind false else s.wheel w := by
  have hwheels : (s.dropTask v).wheels =
      (State.markTask { s with tasks := s.tasks.filter fun x => x.number != v.number } v false).wheels := by
    rw [State.dropTask, State.clearOut_frame]
  unfold State.wheel
  rw [hwheels]
  exact State.wheel_markTask (s := { s with tasks := s.tasks.filter fun x => x.number != v.number }) v false w

/-- The tasks a care fault withdraws name its wheel. -/
theorem State.wheel_setCareFault_other (s : State) (f : CareFault) {w w' : Nat} (h : w' ≠ w) :
    (s.setCareFault w f).wheel w' = s.wheel w' := by
  unfold State.setCareFault State.withdrawCare
  rw [State.wheel_withdrawWhere, State.wheel_changeWheel, if_neg h]
  have hnone : List.filter (fun t => t.wheel == some w') (List.filter (fun t => t.queued && (t.isCare && t.names w))
      (s.changeWheel w fun x => { x with careFault := some f }).tasks) = [] := by
    rw [List.filter_filter, List.filter_eq_nil_iff]
    rintro t - ht
    simp only [TaskRecord.names, Bool.and_eq_true, beq_iff_eq] at ht
    exact h (Option.some.inj (ht.1.symm.trans ht.2.2.2))
  rw [hnone]
  simp

theorem State.wheel_endIntent_other (s : State) (e : Ending) {w w' : Nat} (h : w' ≠ w) :
    (s.endIntent w e).wheel w' = s.wheel w' := by
  unfold State.endIntent
  split
  · rfl
  · rw [State.wheel_changeWheel, if_neg h]
    unfold State.wheel
    rw [State.freeDestination_wheels]

/-- R34: what a care fault makes of its wheel. -/
theorem State.wheel_setCareFault (s : State) (w : Nat) (f : CareFault) (hx : s.wheel w = some x) :
    ∃ flip brush, (s.setCareFault w f).wheel w = some { x with careFault := some f, flipMark := flip, brushMark := brush } := by
  have hcare (l : List TaskRecord) : (List.filter (fun t => t.wheel == some w)
      (List.filter (fun t => t.queued && (t.isCare && t.names w)) l)).any (fun t => t.kind.moves) = false := by
    rw [List.any_eq_false]
    intro t ht
    simp only [List.mem_filter, Bool.and_eq_true] at ht
    obtain ⟨⟨-, -, hcare, -⟩, -⟩ := ht
    unfold TaskRecord.isCare at hcare
    cases hk : t.kind <;> simp_all [TaskKind.moves, TaskKind.flips, TaskKind.brushes]
  unfold State.setCareFault State.withdrawCare
  rw [State.wheel_withdrawWhere, State.wheel_changeWheel, if_pos rfl, hx]
  simp only [Option.map_some, Wheel.mark_all, hcare, Bool.not_false, Bool.and_true]
  exact ⟨_, _, rfl⟩

/-- R100: what an ended intent makes of its wheel. -/
theorem State.wheel_endIntent (s : State) (w : Nat) (e : Ending) (hx : s.wheel w = some x) : (s.endIntent w e).wheel w =
    some { x with intent := none, lastOutcome := if x.intent.isSome then some e else x.lastOutcome } := by
  unfold State.endIntent
  rw [hx, Option.bind_some]
  cases hi : x.intent with
  | none =>
    rw [hx]
    obtain ⟨⟩ := x
    simp only at hi
    simp [hi]
  | some i =>
    have hfreed : (s.freeDestination w i).wheel w = some x := by
      rw [← hx]
      unfold State.wheel
      rw [State.freeDestination_wheels]
    simp [hfreed]

theorem State.wheel_endTask_other (s : State) (v : TaskRecord) (e : Ending) (h : v.wheel ≠ some w) :
    (s.endTask v e).wheel w = s.wheel w := by
  have hdrop : (s.dropTask v).wheel w = s.wheel w := by rw [State.wheel_dropTask, if_neg h]
  unfold State.wheel
  rw [State.endTask_wheels]
  refine Eq.trans (State.endEffects_cases (P := fun u => u.wheel w = (s.dropTask v).wheel w) rfl (fun w' hw' _ => ?_)
    fun w' f hw' _ => ?_) hdrop
  · exact State.wheel_endIntent_other _ e fun heq => h (heq ▸ hw')
  · exact State.wheel_setCareFault_other _ f fun heq => h (heq ▸ hw')

/-- R34, R99, R100: what an ending makes of the task's wheel. -/
theorem State.wheel_endTask (s : State) (v : TaskRecord) (e : Ending) (hw : v.wheel = some w) (hx : s.wheel w = some x) :
    ∃ y, (s.endTask v e).wheel w = some y ∧
      y = { x with
        flipMark := y.flipMark, brushMark := y.brushMark, moveMark := x.moveMark && !v.kind.moves
        careFault := if v.faulted e = none then x.careFault else v.faulted e
        intent := if v.unmade e then none else x.intent
        lastOutcome := if v.unmade e && x.intent.isSome then some e else x.lastOutcome } ∧
      (v.faulted e = none → y.flipMark = (x.flipMark && !v.kind.flips) ∧ y.brushMark = (x.brushMark && !v.kind.brushes)) := by
  have hdrop : (s.dropTask v).wheel w = some (x.mark v.kind false) := by rw [State.wheel_dropTask, if_pos hw, hx, Option.map_some]
  rw [Wheel.mark_clear] at hdrop
  have hwheel : (s.endTask v e).wheel w = ((s.dropTask v).endEffects v e).wheel w := by
    unfold State.wheel
    rw [State.endTask_wheels]
  rw [hwheel]
  by_cases hu : v.unmade e = true
  · have hfault := TaskRecord.faulted_of_unmade hu
    rw [State.endEffects_unmade hw hu]
    exact ⟨_, State.wheel_endIntent _ w e hdrop, by simp [hu, hfault], fun _ => ⟨rfl, rfl⟩⟩
  · rw [Bool.not_eq_true] at hu
    cases hfault : v.faulted e with
    | none =>
      rw [State.endEffects_none (.inr ⟨hu, hfault⟩)]
      exact ⟨_, hdrop, by simp [hu], fun _ => ⟨rfl, rfl⟩⟩
    | some f =>
      obtain ⟨flip, brush, hy⟩ := State.wheel_setCareFault (s.dropTask v) w f hdrop
      rw [State.endEffects_faulted hw hfault]
      exact ⟨_, hy, by simp [hu], fun h => by cases h⟩

/-! ### Slots, tasks and the survey record -/

theorem State.dropTask_slots (s : State) (v : TaskRecord) : (s.dropTask v).slots = s.slots := by rw [State.dropTask_frame]

theorem State.slots_endTask (s : State) (v : TaskRecord) (e : Ending) (h : v.unmade e = false) : (s.endTask v e).slots = s.slots := by
  rw [State.endTask_slots, ← State.dropTask_slots s v]
  refine State.endEffects_cases (P := fun u => u.slots = (s.dropTask v).slots) rfl (fun w _ hu => ?_) fun w f _ _ => ?_
  · rw [h] at hu
    cases hu
  · rw [State.setCareFault_frame]

/-- R100: the destination of an unmade intent is released. -/
theorem State.slots_endTask_unmade (s : State) {i : Intent} (hu : v.unmade e = true) (hw : v.wheel = some w) (hx : s.wheel w = some x)
    (hi : x.intent = some i) : (s.endTask v e).slots = (s.freeDestination w i).slots := by
  have hintent : ((s.dropTask v).wheel w).bind Wheel.intent = some i := by
    rw [State.wheel_dropTask, if_pos hw, hx, Option.map_some, Wheel.mark_clear, Option.bind_some, hi]
  have hslot (c : Coord) : (s.dropTask v).slot c = s.slot c := by
    unfold State.slot
    rw [State.dropTask_slots]
  rw [State.endTask_slots, State.endEffects_unmade hw hu, State.endIntent, hintent]
  dsimp only
  rw [State.changeWheel_slots]
  unfold State.freeDestination State.freeReserved
  cases i.destination with
  | infeed => exact s.dropTask_slots v
  | outfeed => exact s.dropTask_slots v
  | slot d =>
    dsimp only
    rw [hslot]
    split
    · rw [State.setSlot_slots, State.setSlot_slots, State.dropTask_slots]
    · exact s.dropTask_slots v

/-- R34, R99: the tasks an ending leaves. -/
theorem State.mem_endTask (hout : s.OnlyOut v) (t : TaskRecord) : t ∈ (s.endTask v e).tasks ↔
    t ∈ s.tasks ∧ t.number ≠ v.number ∧ ¬ (v.faulted e ≠ none ∧ t.isCare = true ∧ t.wheel = v.wheel ∧ v.wheel ≠ none) := by
  have hdrop : t ∈ (s.dropTask v).tasks ↔ t ∈ s.tasks ∧ t.number ≠ v.number := by
    rw [State.dropTask_frame]
    simp
  rw [State.endTask_tasks]
  have hplain (hnone : v.wheel = none ∨ v.faulted e = none) (htasks : ((s.dropTask v).endEffects v e).tasks = (s.dropTask v).tasks) :
      t ∈ ((s.dropTask v).endEffects v e).tasks ↔
        t ∈ s.tasks ∧ t.number ≠ v.number ∧ ¬ (v.faulted e ≠ none ∧ t.isCare = true ∧ t.wheel = v.wheel ∧ v.wheel ≠ none) := by
    rw [htasks, hdrop]
    rcases hnone with hnone | hnone <;> simp [hnone]
  rcases Option.eq_none_or_eq_some v.wheel with hw | ⟨w, hw⟩
  · exact hplain (.inl hw) (by rw [State.endEffects_none (.inl hw)])
  rcases Option.eq_none_or_eq_some (v.faulted e) with hfault | ⟨f, hfault⟩
  · refine hplain (.inr hfault) ?_
    by_cases hu : v.unmade e = true
    · rw [State.endEffects_unmade hw hu, State.endIntent_tasks]
    · rw [State.endEffects_none (.inr ⟨by simpa using hu, hfault⟩)]
  · rw [State.endEffects_faulted hw hfault, State.setCareFault_tasks, List.mem_filter, hdrop, and_assoc]
    refine and_congr_right fun ht => and_congr_right fun hne => ?_
    have hqueued : t.queued = true := by
      by_contra hq
      exact hne (hout t ht (by simpa using hq))
    cases hcare : t.isCare <;> simp [hqueued, hw, hfault, TaskRecord.names]

theorem State.lastSurvey_endTask (s : State) (e : Ending) (h : v.kind ≠ .survey) : (s.endTask v e).lastSurvey = s.lastSurvey := by
  rw [State.endTask_lastSurvey, State.recordSurvey]
  split
  · exact absurd ‹_› h
  · rfl

theorem State.lastSurvey_endTask_survey (s : State) (e : Ending) {a : Fin 16} {l : Fin 12} {g : SurveyRange} (hk : v.kind = .survey)
    (hp : v.place = .level a l) (hg : v.range = some g) : (s.endTask v e).lastSurvey = some ⟨v.number, a, l, g.first, g.last,
      match g.next with
      | some n => n.val - g.first.val
      | none => g.last.val + 1 - g.first.val,
      e, s.clock.minute⟩ := by
  rw [State.endTask_lastSurvey, State.recordSurvey, hk, hp, hg]
  rfl

theorem TaskRecord.moves_eq (v : TaskRecord) : v.kind.moves = v.isMovement := by
  unfold TaskRecord.isMovement
  cases hk : v.kind <;> simp [TaskKind.moves, TaskKind.flips, TaskKind.brushes]

end

/-! ## Taking back the task that is out -/

/-- R99: what returning a task to QUEUED touches. -/
theorem State.requeue_frame (s : State) (v : TaskRecord) : s.requeue v = { s with
    tasks := s.tasks.map fun x =>
      if x.number = v.number then { x with state := .queued, attempts := min 3 (x.attempts + 1) } else x
    zones := s.zones.map Zone.left
    link := { s.link with verified := false, issuedTag := none, deadline := none }
    ports := (s.requeue v).ports } := by
  unfold State.requeue
  rw [State.clearOut_frame]
  rfl

/-- R99: the ways a task is taken back. -/
theorem State.takeBack_of_out {s : State} {v : TaskRecord} (law : s.TaskLaw) (hv : v ∈ s.tasks) (hq : v.queued = false) :
    s.takeBack =
      if v.state = .aborting then s.endTask v .aborted
      else if v.phase = some .carried ∨ v.attempts + 1 < 3 then s.requeue v
      else s.endTask v (.failed .attempts) := by
  have hout := State.out_of_mem law.oneOut hv hq
  have hattempts : Config.maxAttempts = 3 := rfl
  rw [State.takeBack, hout]
  dsimp only
  rw [hattempts]
  by_cases hcarried : v.phase = some .carried
  · simp [hcarried]
  · by_cases hlast : 3 ≤ v.attempts + 1
    · simp [hcarried, hlast, Nat.not_lt.2 hlast]
    · simp [hcarried, hlast, Nat.not_le.1 hlast]

/-- Settles O35: what an ending touches, and the ways the task that is out is taken back. -/
theorem tasksLeaveTheRobot : Obligations.TasksLeaveTheRobot := by
  unfold Obligations.TasksLeaveTheRobot
  refine ⟨?_, ?_⟩
  · intro s v e law hv hq fault unmade t
    have hout : s.OnlyOut v := State.OnlyOut.of_mem law.list hv hq
    have hnotices := Emits.endTask s v e
    refine ⟨s.endTask_frame v e, hnotices.sans, hnotices.notices, State.mem_endTask hout, fun w hw => s.wheel_endTask_other v e hw,
      fun w x hw hx => ?_, s.slots_endTask v e, fun w x i hu hw hx hi => ?_, s.lastSurvey_endTask e,
      fun a l g hk hp hg => s.lastSurvey_endTask_survey e hk hp hg⟩
    · obtain ⟨y, hy, heq, hmarks⟩ := s.wheel_endTask v e hw hx
      rw [TaskRecord.moves_eq] at heq
      have hmove : y.moveMark = (x.moveMark && !v.isMovement) := by rw [heq]
      exact ⟨y, hy, by rw [hmove]; exact heq, hmarks, hmove⟩
    · rw [s.slots_endTask_unmade hu hw hx hi]
      unfold State.freeDestination
      cases i.destination <;> rfl
  · intro s v law hv hq queued
    have htaken := State.takeBack_of_out law hv hq
    refine ⟨fun ha => by rw [htaken, if_pos ha], fun hi hlast hnot => ?_, fun hi hback => ?_⟩
    · rw [htaken, if_neg (by simp [hi]), if_neg (by rintro (h | h); exacts [hnot h, absurd h (by omega)])]
    · have hrequeue : s.takeBack = s.requeue v := by rw [htaken, if_neg (by simp [hi]), if_pos (Or.comm.1 hback)]
      have hnotices := Emits.takeBack s
      have hleave : s.takeBackNotices = s.leaveNotices := by
        simp only [State.takeBackNotices, State.out_of_mem law.oneOut hv hq]
        rw [if_neg (by simp [hi]), if_pos (Or.comm.1 hback)]
      rw [hleave] at hnotices
      have hframe := s.requeue_frame v
      rw [← hrequeue] at hframe
      exact ⟨hframe, hnotices.sans, hnotices.notices⟩

end Sys2Proof.Machine


namespace Sys2Proof.Machine

set_option Elab.async false

/-! ## An ending does not look at the link -/

/-- A state with another link record. -/
def State.relink (s : State) (l : RobotLink) : State := { s with link := l }

section
variable (s : State) (l : RobotLink)

theorem State.markTask_relink (v : TaskRecord) (b : Bool) : (s.relink l).markTask v b = (s.markTask v b).relink l := by
  unfold State.markTask
  cases v.wheel <;> rfl

theorem State.withdrawWhere_relink (p : TaskRecord → Bool) : (s.relink l).withdrawWhere p = (s.withdrawWhere p).relink l := by
  have hmarks (tasks : List TaskRecord) (u : State) : tasks.foldl (fun u t => u.markTask t false) (u.relink l) =
      (tasks.foldl (fun u t => u.markTask t false) u).relink l := by
    induction tasks generalizing u with
    | nil => rfl
    | cons t tasks ih => rw [List.foldl_cons, List.foldl_cons, State.markTask_relink, ih]
  exact hmarks (s.tasks.filter fun t => t.queued && p t) { s with tasks := s.tasks.filter fun t => !(t.queued && p t) }

theorem State.freeReserved_relink (c : Coord) (r : Role) (w : Nat) :
    (s.relink l).freeReserved c r w = (s.freeReserved c r w).relink l := by
  unfold State.freeReserved
  by_cases h : s.slot c = .reserved r w
  · rw [if_pos h, if_pos (show (s.relink l).slot c = .reserved r w from h)]
    rfl
  · rw [if_neg h, if_neg (show ¬ (s.relink l).slot c = .reserved r w from h)]

theorem State.freeDestination_relink (w : Nat) (i : Intent) : (s.relink l).freeDestination w i = (s.freeDestination w i).relink l := by
  unfold State.freeDestination
  cases i.destination with
  | slot c => exact s.freeReserved_relink l c _ w
  | infeed => rfl
  | outfeed => rfl

theorem State.endIntent_relink (w : Nat) (e : Ending) : (s.relink l).endIntent w e = (s.endIntent w e).relink l := by
  unfold State.endIntent
  rw [show (s.relink l).wheel w = s.wheel w from rfl]
  cases (s.wheel w).bind Wheel.intent with
  | none => rfl
  | some i =>
    dsimp only
    rw [State.freeDestination_relink]
    rfl

theorem State.endEffects_relink (v : TaskRecord) (e : Ending) : (s.relink l).endEffects v e = (s.endEffects v e).relink l := by
  rw [State.endEffects_eq, State.endEffects_eq]
  cases v.wheel with
  | none => rfl
  | some w =>
    dsimp only
    split
    · exact s.endIntent_relink l w e
    · split
      · exact (s.changeWheel w _).withdrawWhere_relink l _
      · rfl

theorem State.recordSurvey_relink (v : TaskRecord) (e : Ending) : (s.relink l).recordSurvey v e = (s.recordSurvey v e).relink l := by
  unfold State.recordSurvey
  split <;> rfl

theorem State.raiseIf_relink (b : Bool) (p : Port) (n : Notice) : (s.relink l).raiseIf b p n = (s.raiseIf b p n).relink l := by
  cases b <;> rfl

theorem State.clearOut_relink :
    (s.relink l).clearOut = s.clearOut.relink { l with verified := false, issuedTag := none, deadline := none } := by
  unfold State.clearOut State.leaveZones
  rw [← State.raiseIf_relink]
  rfl

/-- R100: with another link record an ending is the same, but for that record. -/
theorem State.endTask_relink (v : TaskRecord) (e : Ending) : (s.relink l).endTask v e =
    (s.endTask v e).relink { l with verified := false, issuedTag := none, deadline := none } := by
  have hdrop : (s.relink l).dropTask v = (s.dropTask v).relink { l with verified := false, issuedTag := none, deadline := none } := by
    unfold State.dropTask
    rw [← State.clearOut_relink, ← State.markTask_relink]
    rfl
  rw [State.endTask_eq, State.endTask_eq, hdrop, State.endEffects_relink, State.recordSurvey_relink, State.raiseIf_relink,
    State.raiseIf_relink]

end

theorem State.endTask_link (s : State) (v : TaskRecord) (e : Ending) :
    (s.endTask v e).link = { s.link with verified := false, issuedTag := none, deadline := none } := by
  rw [State.endTask_frame]

/-- R100: an ending, from a state whose link already stands where the task leaves it. -/
theorem State.ended_relink (s : State) {l : RobotLink} (hfault : l.lastFault = s.link.lastFault) (horder : l.homeOrder = s.link.homeOrder)
    (v : TaskRecord) (e : Ending) (st : LinkState) :
    s.ended v e st l.position l.faults = ((s.relink l).endTask v e).setLink st := by
  rw [State.endTask_relink]
  unfold State.ended State.setLink State.relink
  rw [State.endTask_link]
  simp only [← hfault, ← horder]

/-! ## Requests that end the task that is out -/

section
variable {s u m : State} {v : TaskRecord} {effect : State → State × Reply} {r : Reply} {raised : List (Port × Notice)}

/-- A request whose effect ends in the test of R91, whatever it is answered. -/
theorem request_tests {p : Port} (hs : s.serves p) {k : RequestKind} (hk : k.permitted p = true) {e : State}
    (he : effect (s.inGrant p) = (u.testAvailable, r)) (hsame : SameInside u e) (hemits : Emits (s.inGrant p) u raised) :
    (s.request (proper p) k effect).inside = e.inside ∧
      Served s (s.request (proper p) k effect) p k r (raised ++ e.availableNow) := by
  rw [← State.availableNow_congr hsame.inside]
  exact request_emits hs hk he hsame.testAvailable_left (hemits.trans (.testAvailable u))

/-- R100: a report whose effect ends the task, and leaves the robot at the position the link already stands at. -/
theorem request_ended (hs : s.serves .robot) {k : RequestKind} (hk : k.permitted .robot = true) {ending : Ending} {l : RobotLink}
    (he : effect (s.inGrant .robot) = (u.endIdle v ending, r))
    (hsame : SameInside u (m.relink l)) (hfault : l.lastFault = m.link.lastFault) (horder : l.homeOrder = m.link.homeOrder)
    (hemits : Emits (s.inGrant .robot) u raised) (hzones : u.zones = s.zones) :
    (s.request (proper .robot) k effect).inside = (m.ended v ending .idle l.position l.faults).inside ∧
      Served s (s.request (proper .robot) k effect) .robot k r
        (raised ++ s.endNotices v ending ++ (m.ended v ending .idle l.position l.faults).availableNow) := by
  have hnotices : u.endNotices v ending = s.endNotices v ending := by
    unfold State.endNotices State.leaveNotices State.zone
    rw [hzones]
  rw [m.ended_relink hfault horder]
  refine request_tests hs hk he ((hsame.endTask v ending).setLink fun l => { l with state := .idle }) ?_
  rw [← hnotices]
  exact (hemits.trans (Emits.endTask u v ending)).thenSilent rfl rfl

end

/-- R98: a current report runs its effect on the task that is out. -/
theorem State.onReport_out {s : State} {v : TaskRecord} (law : s.TaskLaw) (hv : v ∈ s.tasks) (hq : v.queued = false)
    (k : TaskRecord → State × Reply) : s.onReport ⟨v.number, v.issue⟩ k = k v :=
  State.onReport_of_current (s.judge_of_out law hv hq) k

/-- R98: in the report's own grant too. -/
theorem State.onReport_granted {s : State} {v : TaskRecord} (law : s.TaskLaw) (hv : v ∈ s.tasks) (hq : v.queued = false)
    (k : TaskRecord → State × Reply) : (s.inGrant .robot).onReport ⟨v.number, v.issue⟩ k = k v :=
  State.onReport_of_current (s := s.inGrant .robot) (s.judge_of_out law hv hq) k

/-- R120: a report of an ABORTING task that is not applied ends it where the register stands. -/
theorem request_aborts {s : State} {v : TaskRecord} (hs : s.serves .robot) {k : RequestKind} (hk : k.permitted .robot = true)
    {effect : State → State × Reply} {p : Option Coord} (he : effect (s.inGrant .robot) = ((s.inGrant .robot).setPosition p).abortOut v) :
    (s.request (proper .robot) k effect).inside = (s.ended v .aborted .idle p s.link.faults).inside ∧
      Served s (s.request (proper .robot) k effect) .robot k ⟨.abort, .empty⟩
        (s.endNotices v .aborted ++ (s.ended v .aborted .idle p s.link.faults).availableNow) :=
  request_ended (m := s) (l := { s.link with position := p }) hs hk he
    ((SameInside.granted s .robot).setLink fun l => { l with position := p }) rfl rfl (Emits.silent rfl rfl) rfl

/-- Settles O34: each report that completes nothing, at the position it leaves the robot. -/
theorem abortingTasksEndAborted : Obligations.AbortingTasksEndAborted := by
  unfold Obligations.AbortingTasksEndAborted
  intro s v hs law hv ha ref aborts
  have hcurrent := State.onReport_granted law hv (TaskRecord.queued_of_aborting ha)
  have hstays : (s.inGrant .robot).abortOut v = ((s.inGrant .robot).setPosition s.link.position).abortOut v := rfl
  refine ⟨fun tag => ⟨_, rfl, request_aborts hs rfl ((hcurrent _).trans (if_pos ha))⟩,
    ⟨_, rfl, request_aborts hs rfl ((hcurrent _).trans ((if_pos ha).trans hstays))⟩,
    fun n tag hk => ⟨_, rfl, request_aborts hs rfl ((hcurrent _).trans ((if_pos ha).trans ?_))⟩,
    fun n tag hk => ⟨_, rfl, request_aborts hs rfl ((hcurrent _).trans ((if_pos ha).trans ?_))⟩,
    fun a b hfits => ⟨_, rfl, request_aborts hs rfl ((hcurrent _).trans ?_)⟩⟩
  · rw [State.abortedReadPosition, dif_neg (fun h => hk h.1)]
    rfl
  · rw [State.abortedReadPosition, dif_pos ⟨hk, n.isLt⟩]
    rfl
  · refine (if_neg ?_).trans ((if_pos ha).trans hstays)
    simpa using State.doneFits_eq_false (s := s.inGrant .robot) hfits

end Sys2Proof.Machine


namespace Sys2Proof.Machine

set_option Elab.async false

theorem State.relink_self {s : State} {l : RobotLink} (h : s.link = l) : s.relink l = s := by
  subst h
  rfl

theorem SameInside.ended {s t : State} (h : SameInside s t) (v : TaskRecord) (e : Ending) (l : LinkState) (p : Option Coord) (n : Nat) :
    SameInside (s.ended v e l p n) (t.ended v e l p n) :=
  (h.endTask v e).setLink fun k => { k with state := l, position := p, faults := n }

theorem Emits.ended {s u : State} {v : TaskRecord} {raised : List (Port × Notice)} (h : Emits s u raised) (hzones : u.zones = s.zones)
    (e : Ending) (l : LinkState) (p : Option Coord) (n : Nat) : Emits s (u.ended v e l p n) (raised ++ s.endNotices v e) := by
  have hnotices : u.endNotices v e = s.endNotices v e := by
    unfold State.endNotices State.leaveNotices State.zone
    rw [hzones]
  rw [← hnotices]
  exact (h.trans (Emits.endTask u v e)).thenSilent rfl rfl

/-! ## ARRIVED -/

/-- The grant of an ARRIVED once the robot stands at the task's first point (R106, R117). -/
abbrev State.arriving (s : State) (v : TaskRecord) : State :=
  ((s.inGrant .robot).setPosition (some (v.firstPoint s))).setDeadline v.kind

theorem Emits.arriving (s : State) (v : TaskRecord) : Emits (s.inGrant .robot) (s.arriving v) [] := silent

theorem FailReason.visitKind_eq (r : FailReason) : r.visitKind = if r = .unreadable then .unreadable else .mismatch := by
  cases r <;> rfl

/-- R107 to R109: where the finding of a failed verification is recorded. -/
def State.visitFailed (s : State) (v : TaskRecord) (why : FailReason) (found : Option TagId) : State :=
  match v.place with
  | .board c => (s.suspectOccupied c).record why.visitKind (some c) (s.slot c).handle found
  | _ => s.record .infeedMismatch none none found

section
variable {s t : State} {v : TaskRecord} {why : FailReason} {found : Option TagId}

theorem SameInside.visitFailed (h : SameInside s t) : SameInside (s.visitFailed v why found) (t.visitFailed v why found) := by
  unfold State.visitFailed
  cases v.place with
  | board c =>
    dsimp only
    rw [h.slot c]
    exact (h.suspectOccupied c).record _ _ _ _
  | infeed => exact h.record _ _ _ _
  | level a l => exact h.record _ _ _ _

theorem State.visitFailed_link : (s.visitFailed v why found).link = s.link := by
  unfold State.visitFailed
  split <;> simp

theorem State.visitFailed_zones : (s.visitFailed v why found).zones = s.zones := by
  unfold State.visitFailed
  split <;> simp

theorem Emits.visitFailed (s : State) : Emits s (s.visitFailed v why found) s.recordNotice := by
  unfold State.visitFailed
  split
  · next c _ =>
    have hnotice : (s.suspectOccupied c).recordNotice = s.recordNotice := by
      rw [State.recordNotice_eq, State.recordNotice_eq, State.suspectOccupied_discrepancies]
    rw [← hnotice]
    exact (silent (State.suspectOccupied_ports s c) (State.suspectOccupied_arbiter s c)).trans (record _ _ _ _ _)
  · exact record _ _ _ _ _

end

/-- R106, R117: an ARRIVED that fits sets the position, renews the deadline and judges the tag. -/
theorem serveArrived_of_fits {s : State} {v : TaskRecord} (law : s.TaskLaw) (hv : v ∈ s.tasks) (hi : v.state = .issued)
    (hfits : v.verifiable = true) (hnot : s.link.verified = false) (tag : TagReport) :
    serveArrived ⟨v.number, v.issue⟩ tag (s.inGrant .robot) = (s.arriving v).verify v tag := by
  refine (State.onReport_granted law hv (TaskRecord.queued_of_issued hi) _).trans ?_
  rw [if_neg (by simp [hi]), if_pos]
  · rfl
  · rw [hfits, Bool.true_and, Bool.not_eq_true']
    exact hnot

/-- The link at the first point of a task (R106, R117). -/
def State.arrivedAt (s : State) (v : TaskRecord) : State :=
  { s with link := { s.link with position := some (v.firstPoint s), deadline := some s.config.robot.allowances[v.kind.index] } }

theorem SameInside.arrivedAt (s : State) (v : TaskRecord) : SameInside (s.arriving v) (s.arrivedAt v) :=
  (SameInside.granted s .robot).setLink fun l =>
    { l with position := some (v.firstPoint s), deadline := some s.config.robot.allowances[v.kind.index] }

theorem State.verifyFailed_eq (s : State) (v : TaskRecord) (why : FailReason) (found : Option TagId) :
    s.verifyFailed v why found = ((s.visitFailed v why found).endIdle v (.failed why), ⟨.mismatch, .verifyFailed why⟩) := rfl

/-- R107 to R109: a verification that fails for good. -/
theorem arrived_fails {s : State} {v : TaskRecord} (hs : s.serves .robot) {effect : State → State × Reply} {why : FailReason}
    {found : Option TagId} (he : effect (s.inGrant .robot) = (s.arriving v).verifyFailed v why found) :
    (s.request (proper .robot) .arrived effect).inside =
        (((s.arrivedAt v).visitFailed v why found).ended v (.failed why) .idle (some (v.firstPoint s)) s.link.faults).inside ∧
      Served s (s.request (proper .robot) .arrived effect) .robot .arrived ⟨.mismatch, .verifyFailed why⟩
        (s.recordNotice ++ s.endNotices v (.failed why) ++
          (((s.arrivedAt v).visitFailed v why found).ended v (.failed why) .idle (some (v.firstPoint s)) s.link.faults).availableNow) := by
  have hlink : ((s.arrivedAt v).visitFailed v why found).link = (s.arrivedAt v).link := State.visitFailed_link
  have hsame := (SameInside.arrivedAt s v).visitFailed (v := v) (why := why) (found := found)
  have hnotice : (s.arriving v).recordNotice = s.recordNotice := by simp [State.recordNotice_eq]
  have hemits := (Emits.arriving s v).trans (Emits.visitFailed (s.arriving v) (v := v) (why := why) (found := found))
  have hzones : ((s.arriving v).visitFailed v why found).zones = s.zones := by simp [State.visitFailed_zones]
  rw [hnotice] at hemits
  rw [← State.relink_self hlink] at hsame
  rw [State.verifyFailed_eq] at he
  exact request_ended (m := (s.arrivedAt v).visitFailed v why found) (l := (s.arrivedAt v).link) hs rfl he hsame (by rw [hlink])
    (by rw [hlink]) hemits hzones

theorem State.visitFailed_eq (s : State) (v : TaskRecord) (why : FailReason) (found : Option TagId) :
    s.visitFailed v why found = match v.place with
      | .board p => (match s.slot p with
          | .occupied w => s.makeSuspect p (some w)
          | _ => s).record (if why = FailReason.unreadable then DiscrepancyKind.unreadable else .mismatch) (some p) (s.slot p).handle found
      | _ => s.record .infeedMismatch none none found := by
  unfold State.visitFailed
  rw [FailReason.visitKind_eq]
  cases v.place <;> rfl

/-- Settles O31: the four ways a tag report is judged. -/
theorem arrivedJudgesTheTag : Obligations.ArrivedJudgesTheTag := by
  unfold Obligations.ArrivedJudgesTheTag
  intro s v tag hs law hv hi hnot hkind c point b fails
  have hserve := serveArrived_of_fits law hv hi (v.verifiable_iff.2 hkind) hnot tag
  have hfails (why : FailReason) (found : Option TagId)
      (h : (s.arriving v).verify v tag =
        (s.arriving v).verifyFailed v why found) : fails why found := by
    have hended := arrived_fails hs (hserve.trans h)
    rw [State.visitFailed_eq] at hended
    exact ⟨_, rfl, hended⟩
  have hissued : (s.arriving v).link.issuedTag = s.link.issuedTag := rfl
  have hunreadable (h : ∀ x, classify tag ≠ .readable x) :
      (s.arriving v).verify v tag =
        if v.rereads < 2 then
          ((s.arriving v).changeTask v.number fun y =>
            { y with rereads := y.rereads + 1 }, ⟨.reread, .empty⟩)
        else (s.arriving v).verifyFailed v .unreadable none := by
    unfold State.verify
    split
    · exact absurd ‹_› (h _)
    · rfl
  refine ⟨fun x w hx htag hw => ?_, fun x hx htag => hfails _ _ ?_, fun hx hreread => ?_, fun hx hreread => hfails _ _ ?_⟩
  · refine ⟨_, rfl, request_emits (e := ((s.arrivedAt v).changeWheel w fun y => { y with lastSeen := some s.clock.minute }).relink
      { (s.arrivedAt v).link with verified := true }) hs rfl (hserve.trans ?_)
      (((SameInside.arrivedAt s v).setLink fun l => { l with verified := true }).changeWheel w fun y =>
        { y with lastSeen := some s.clock.minute }) (Emits.silent rfl rfl)⟩
    unfold State.verify State.verified
    rw [hx]
    dsimp only
    rw [hissued, if_pos htag, hw]
    rfl
  · unfold State.verify
    rw [hx]
    dsimp only
    rw [hissued, if_neg htag]
  · exact ⟨_, rfl, request_emits (e := (s.arrivedAt v).changeTask v.number fun y => { y with rereads := y.rereads + 1 }) hs rfl
      (hserve.trans ((hunreadable hx).trans (if_pos hreread))) ((SameInside.arrivedAt s v).changeTask _ _) (Emits.silent rfl rfl)⟩
  · rw [hunreadable hx, if_neg (Nat.not_lt.2 hreread)]

end Sys2Proof.Machine


namespace Sys2Proof.Machine

set_option Elab.async false

/-! ## PICKED -/

section
variable {s : State} {v : TaskRecord}

/-- R110: a PICKED that fits lifts the wheel. -/
theorem servePicked_of_fits (law : s.TaskLaw) (hv : v ∈ s.tasks) (hi : v.state = .issued) (hlifts : v.Lifts)
    (hver : s.link.verified = true) {w : Nat} (hw : v.wheel = some w) :
    servePicked ⟨v.number, v.issue⟩ (s.inGrant .robot) = accept ((s.inGrant .robot).pick v w) := by
  have hfits := v.movement_verifiable_iff.2 hlifts
  refine (State.onReport_granted law hv (TaskRecord.queued_of_issued hi) _).trans ?_
  rw [if_neg (by simp [hi]), if_pos, hw]
  rw [hfits, Bool.true_and]
  exact hver

/-- R110: the record of a wheel lifted from a source. -/
def Wheel.lifted (x : Wheel) (source : Option Coord) : Wheel :=
  { x with location := .inGripper, intent := x.intent.map fun i => { i with phase := .carried, returnSlot := source } }

/-- R110: a wheel lifted from a source, before the deadline is renewed. -/
def State.lift (s : State) (n : Fin 64) (w : Nat) (source : Option Coord) : State :=
  ((match source with
    | some c => s.setSlot c (.reserved .putBack w)
    | none => s).changeWheel w fun x => x.lifted source).changeTask n fun y => { y with phase := some .carried }

theorem SameInside.lift {s t : State} (h : SameInside s t) (n : Fin 64) (w : Nat) (source : Option Coord) :
    SameInside (s.lift n w source) (t.lift n w source) := by
  cases source with
  | none => exact (h.changeWheel w _).changeTask n _
  | some c => exact ((h.setSlot c _).changeWheel w _).changeTask n _

theorem State.lift_ports (s : State) (n : Fin 64) (w : Nat) (source : Option Coord) :
    (s.lift n w source).ports = s.ports ∧ (s.lift n w source).arbiter = s.arbiter ∧ (s.lift n w source).link = s.link ∧
      (s.lift n w source).config = s.config := by
  cases source <;> exact ⟨rfl, rfl, rfl, rfl⟩

end

/-- Settles O32: the wheel lifted from its source. -/
theorem pickedPutsTheWheelInTheGripper : Obligations.PickedPutsTheWheelInTheGripper := by
  unfold Obligations.PickedPutsTheWheelInTheGripper
  intro s v k w hs law hv hi hver hk hphase hw source hsource lifted carried
  have hlifts : v.Lifts := ⟨k, hk, by rintro rfl; simp at hsource, hphase⟩
  have hserve := servePicked_of_fits law hv hi hlifts hver hw
  have hfrom : v.source = source := by
    rcases hsource with ⟨rfl, rfl⟩ | ⟨rfl | rfl, c, hplace, rfl⟩ <;> simp [TaskRecord.source, *]
  have hpick : (s.inGrant .robot).pick v w = ((s.inGrant .robot).lift v.number w source).setDeadline v.kind := by
    rw [← hfrom]
    rfl
  obtain ⟨hports, harbiter, -, -⟩ := (s.inGrant .robot).lift_ports v.number w source
  obtain ⟨-, -, hlink, hconfig⟩ := s.lift_ports v.number w source
  have hsame : SameInside (((s.inGrant .robot).lift v.number w source).setDeadline v.kind)
      ((s.lift v.number w source).relink { s.link with deadline := some s.config.robot.allowances[v.kind.index] }) := by
    have hdeadline := ((SameInside.granted s .robot).lift v.number w source).map fun u => u.setDeadline v.kind
    rw [show (s.lift v.number w source).setDeadline v.kind = (s.lift v.number w source).relink
      { s.link with deadline := some s.config.robot.allowances[v.kind.index] } by
        simp only [State.setDeadline, State.relink, State.allowance, hlink, hconfig]] at hdeadline
    exact hdeadline
  exact ⟨_, rfl, request_emits hs rfl (hserve.trans (congrArg accept hpick)) hsame
    (Emits.silent (hports.trans rfl) (harbiter.trans rfl))⟩

/-! ## DONE -/

/-- R112: a DONE that fits finishes the task. -/
theorem serveDone_of_fits {s : State} {v : TaskRecord} (law : s.TaskLaw) (hv : v ∈ s.tasks) (hq : v.queued = false)
    (hfits : s.doneFits v = true) (a b : Bool) :
    serveDone ⟨v.number, v.issue⟩ a b (s.inGrant .robot) = accept ((s.inGrant .robot).finish v a b) := by
  refine (State.onReport_granted law hv hq _).trans (if_pos ?_)
  exact hfits

/-- R111, R112, R129, R130: what a DONE writes before the task ends. -/
def State.written (s : State) (v : TaskRecord) (a b : Bool) : State :=
  if v.isMovement then s.complete v else if v.isCare then s.credit v a b else s

theorem State.finish_eq (s : State) (v : TaskRecord) (a b : Bool) :
    s.finish v a b = ((s.written v a b).ended v v.doneEnding .idle (s.donePosition v) 0).testAvailable := rfl

/-- R112: a DONE ends its task on what it writes. -/
theorem request_finishes {s m : State} {v : TaskRecord} (hs : s.serves .robot) (law : s.TaskLaw) (hv : v ∈ s.tasks)
    (hq : v.queued = false) (hfits : s.doneFits v = true) {a b : Bool} {ending : Ending} {p : Option Coord}
    (hending : v.doneEnding = ending) (hp : s.donePosition v = p)
    (hsame : SameInside ((s.inGrant .robot).written v a b) m) (hports : ((s.inGrant .robot).written v a b).ports = (s.inGrant .robot).ports)
    (harbiter : ((s.inGrant .robot).written v a b).arbiter = (s.inGrant .robot).arbiter) (hzones : m.zones = s.zones) :
    (s.request (proper .robot) .done (serveDone ⟨v.number, v.issue⟩ a b)).inside = (m.ended v ending .idle p 0).inside ∧
      Served s (s.request (proper .robot) .done (serveDone ⟨v.number, v.issue⟩ a b)) .robot .done ⟨.ok, .empty⟩
        (s.endNotices v ending ++ (m.ended v ending .idle p 0).availableNow) := by
  have hgrant : (s.inGrant .robot).donePosition v = p := hp
  have hserve := serveDone_of_fits law hv hq hfits a b
  rw [State.finish_eq, hending, hgrant] at hserve
  have hsilent : Emits (s.inGrant .robot) ((s.inGrant .robot).written v a b) [] := Emits.silent hports harbiter
  have hwritten : ((s.inGrant .robot).written v a b).zones = (s.inGrant .robot).zones := (hsame.congr State.zones).trans hzones
  have hnotices : (s.inGrant .robot).endNotices v ending = s.endNotices v ending := rfl
  have hemits := hsilent.ended hwritten ending .idle p 0 (v := v)
  rw [hnotices] at hemits
  exact request_tests hs rfl hserve (hsame.ended v ending .idle p 0) hemits

end Sys2Proof.Machine


namespace Sys2Proof.Machine

set_option Elab.async false

theorem Table.change_change {α : Type} (t : Table α) (k : Nat) (f g : α → α) : (t.change k f).change k g = t.change k fun x => g (f x) := by
  induction t with
  | nil => rfl
  | cons e t ih =>
    obtain ⟨j, v⟩ := e
    by_cases h : j = k <;> simp [Table.change, h, ih]

theorem Table.drop_change {α : Type} (t : Table α) (k : Nat) (f : α → α) : (t.change k f).drop k = t.drop k := by
  induction t with
  | nil => rfl
  | cons e t ih =>
    obtain ⟨j, v⟩ := e
    unfold Table.drop at ih ⊢
    by_cases h : j = k <;> simp [Table.change, h, ih]

theorem State.changeWheel_changeWheel (s : State) (w : Nat) (f g : Wheel → Wheel) :
    (s.changeWheel w f).changeWheel w g = s.changeWheel w fun x => g (f x) := by
  unfold State.changeWheel
  rw [Table.change_change]

/-! ## The credit of a care task -/

/-- R21: the record with the actions done credited. -/
def Wheel.credited (x : Wheel) (flips brushes : Bool) (now : Nat) : Wheel :=
  { x with
    lastFlip := if flips then some now else x.lastFlip
    flipCount := if flips then min 65535 (x.flipCount + 1) else x.flipCount
    faceUp := if flips then (if x.faceUp = .a then .b else .a) else x.faceUp
    lastBrush := if brushes then some now else x.lastBrush
    brushCount := if brushes then min 65535 (x.brushCount + 1) else x.brushCount }

theorem Wheel.creditBrush_credited (x : Wheel) (flips : Bool) (now : Nat) :
    (x.credited flips false now).creditBrush now = x.credited flips true now := by
  have hmax : Config.maxCount = 65535 := rfl
  simp [Wheel.credited, Wheel.creditBrush, countUp, hmax, min_comm]

theorem Wheel.creditFlip_eq (x : Wheel) (now : Nat) : x.creditFlip now = x.credited true false now := by
  have hmax : Config.maxCount = 65535 := rfl
  simp only [Wheel.credited, Wheel.creditFlip, countUp, hmax, min_comm, if_true]
  cases x.faceUp <;> rfl

/-- R111: what a DONE credits. -/
theorem State.credit_eq {s : State} {v : TaskRecord} {w : Nat} (hw : v.wheel = some w) (a b : Bool) : s.credit v a b =
    if v.creditsFlip a || v.creditsBrush b then
      (s.changeWheel w fun x => x.credited (v.creditsFlip a) (v.creditsBrush b) s.clock.minute).computeDues w
    else s := by
  have hflip : (fun x : Wheel => x.creditFlip s.clock.minute) = fun x => x.credited true false s.clock.minute :=
    funext fun x => x.creditFlip_eq _
  have hbrush : (fun x : Wheel => x.creditBrush s.clock.minute) = fun x => x.credited false true s.clock.minute :=
    funext fun x => x.creditBrush_credited false _
  unfold State.credit
  rw [hw]
  cases v.creditsFlip a <;> cases v.creditsBrush b
  · simp
  · simp [hbrush]
  · simp [hflip]
  · simp [hflip, State.changeWheel_changeWheel, Wheel.creditBrush_credited]

section
variable {s t : State} {v : TaskRecord} {w : Nat}

theorem SameInside.credit (h : SameInside s t) (hw : v.wheel = some w) (a b : Bool) : SameInside (s.credit v a b) (t.credit v a b) := by
  rw [State.credit_eq hw, State.credit_eq hw, h.clock]
  split
  · exact (h.changeWheel w _).computeDues w
  · exact h

theorem State.credit_frame (hw : v.wheel = some w) (a b : Bool) : s.credit v a b = { s with wheels := (s.credit v a b).wheels } := by
  rw [State.credit_eq hw]
  split <;> rfl

theorem TaskRecord.unfinished_of_kind (h : v.kind ≠ .survey) : v.unfinished = false := by
  unfold TaskRecord.unfinished
  split
  · exact absurd ‹_› h
  · rfl

theorem TaskRecord.kind_of_isCare (h : v.isCare = true) : v.kind ≠ .survey := by
  intro hk
  simp [TaskRecord.isCare, hk] at h

theorem TaskRecord.kind_of_isMovement (h : v.isMovement = true) : v.kind ≠ .survey := by
  intro hk
  simp [TaskRecord.isMovement, hk] at h

theorem TaskRecord.lastPoint_of_isCare (h : v.isCare = true) : v.lastPoint s = v.place.coord s := by
  unfold TaskRecord.isCare at h
  unfold TaskRecord.lastPoint
  cases hk : v.kind <;> simp_all

theorem State.doneFits_of_isCare (h : v.isCare = true) (hver : s.link.verified = true) : s.doneFits v = true := by
  unfold TaskRecord.isCare at h
  unfold State.doneFits
  cases hk : v.kind <;> simp_all

/-- R140, R112: the place of a survey's most recent applied report. -/
theorem State.donePosition_of_survey {g : SurveyRange} (hk : v.kind = .survey) (hg : v.range = some g) : s.donePosition v =
    match g.next with
    | none => some (v.lastPoint s)
    | some n => if g.first < n then some { v.place.coord s with position := n - 1 } else s.link.position := by
  unfold State.donePosition TaskRecord.unfinished SurveyRange.lastApplied
  rw [hk, hg]
  simp only [Option.bind_some]
  cases g.next with
  | none => rfl
  | some n =>
    simp only [Option.isSome_some, if_true]
    by_cases hlt : g.first < n
    · have hsub : (⟨n.val - 1, by omega⟩ : Fin 48) = n - 1 := by
        apply Fin.ext
        rw [Fin.sub_val_of_le]
        · rfl
        · rw [Fin.le_def]
          have h0 : g.first.val < n.val := hlt
          show 1 ≤ n.val
          omega
      rw [if_pos hlt, if_pos hlt, hsub]
      rfl
    · rw [if_neg hlt, if_neg hlt]

theorem TaskRecord.doneEnding_of_survey {g : SurveyRange} (hk : v.kind = .survey) (hg : v.range = some g) : v.doneEnding =
    if g.next = none then .done else if v.state = .aborting then .aborted else .failed .incomplete := by
  unfold TaskRecord.doneEnding TaskRecord.unfinished
  rw [hk, hg]
  cases hn : g.next <;> simp [hn]

end

/-- Settles O33: the credit of a care task, and the ending of a survey. -/
theorem doneEndsCareAndSurveys : Obligations.DoneEndsCareAndSurveys := by
  unfold Obligations.DoneEndsCareAndSurveys
  refine ⟨?_, ?_⟩
  · intro s v w flip brush hs law hv hq hcare hw hver flips brushes now written credited e
    have hkind := TaskRecord.kind_of_isCare hcare
    have hunfinished := TaskRecord.unfinished_of_kind hkind
    have hcredit (u : State) : u.written v flip brush = u.credit v flip brush := by
      simp [State.written, TaskRecord.isMovement_of_isCare hcare, hcare]
    have hcredited : s.credit v flip brush = credited := State.credit_eq hw flip brush
    refine ⟨_, rfl, request_finishes (m := credited) hs law hv hq (State.doneFits_of_isCare hcare hver)
      (by simp [TaskRecord.doneEnding, hunfinished]) (by simp [State.donePosition, hunfinished, TaskRecord.lastPoint_of_isCare hcare])
      ?_ ?_ ?_ ?_⟩
    · rw [hcredit, ← hcredited]
      exact (SameInside.granted s .robot).credit hw flip brush
    · rw [hcredit, State.credit_frame hw]
    · rw [hcredit, State.credit_frame hw]
    · rw [← hcredited, State.credit_frame hw]
  · intro s v g a b hs law hv hq hk hg ending position e
    have hwritten (u : State) : u.written v a b = u := by simp [State.written, TaskRecord.isMovement, TaskRecord.isCare, hk]
    refine ⟨_, rfl, request_finishes (m := s) hs law hv hq (by simp [State.doneFits, hk]) (TaskRecord.doneEnding_of_survey hk hg)
      (State.donePosition_of_survey hk hg) ?_ ?_ ?_ rfl⟩
    · rw [hwritten]
      exact SameInside.granted s .robot
    · rw [hwritten]
    · rw [hwritten]

end Sys2Proof.Machine


namespace Sys2Proof.Machine

set_option Elab.async false

/-! ## Completed movements -/

section
variable {s t : State} {v : TaskRecord} {w : Nat} {i : Intent} {x : Wheel}

theorem State.doneFits_of_carried (h : v.isMovement = true) (hphase : v.phase = some .carried) : s.doneFits v = true := by
  unfold TaskRecord.isMovement at h
  unfold State.doneFits
  cases hk : v.kind <;> simp_all

theorem State.complete_eq (hw : v.wheel = some w) (hx : s.wheel w = some x) (hi : x.intent = some i) :
    s.complete v = s.completeIntent w i := by
  unfold State.complete
  rw [hw]
  dsimp only
  rw [hx, Option.bind_some, hi]

theorem State.completeIntent_ports (s : State) (w : Nat) (i : Intent) :
    (s.completeIntent w i).ports = s.ports ∧ (s.completeIntent w i).arbiter = s.arbiter ∧
      (s.completeIntent w i).zones = s.zones := by
  unfold State.completeIntent State.finishIntent
  split <;> simp

/-- R112: a DONE of a CARRIED movement ends its task on the completion of its intent. -/
theorem request_completes {m : State} (hs : s.serves .robot) (law : s.TaskLaw) (hv : v ∈ s.tasks) (hq : v.queued = false)
    (hmove : v.isMovement = true) (hphase : v.phase = some .carried) (hw : v.wheel = some w) (hx : s.wheel w = some x)
    (hi : x.intent = some i) (a b : Bool) (hm : s.completeIntent w i = m) :
    (s.request (proper .robot) .done (serveDone ⟨v.number, v.issue⟩ a b)).inside =
        (m.ended v .done .idle (some (v.lastPoint s)) 0).inside ∧
      Served s (s.request (proper .robot) .done (serveDone ⟨v.number, v.issue⟩ a b)) .robot .done ⟨.ok, .empty⟩
        (s.endNotices v .done ++ (m.ended v .done .idle (some (v.lastPoint s)) 0).availableNow) := by
  subst hm
  have hunfinished := TaskRecord.unfinished_of_kind (TaskRecord.kind_of_isMovement hmove)
  have hwritten : (s.inGrant .robot).written v a b = (s.inGrant .robot).completeIntent w i := by
    rw [State.written, if_pos hmove]
    exact State.complete_eq hw hx hi
  obtain ⟨hports, harbiter, -⟩ := (s.inGrant .robot).completeIntent_ports w i
  obtain ⟨-, -, hzones⟩ := s.completeIntent_ports w i
  refine request_finishes hs law hv hq (State.doneFits_of_carried hmove hphase) (by simp [TaskRecord.doneEnding, hunfinished])
    (by simp [State.donePosition, hunfinished]) ?_ ?_ ?_ hzones
  · rw [hwritten]
    exact (SameInside.granted s .robot).completeIntent w i
  · rw [hwritten, hports]
  · rw [hwritten, harbiter]

/-- R21, R43: a wheel that comes to lie on a board. -/
theorem State.placeIn_eq (s : State) (w : Nat) (d : Coord) : s.placeIn w d =
    ((s.setSlot d (.occupied w)).changeWheel w fun y => { y with
      location := .inSlot d
      lastFlip := if y.lastFlip = none then some s.clock.minute else y.lastFlip
      lastBrush := if y.lastFlip = none then some s.clock.minute else y.lastBrush }).computeDues w := by
  refine congrArg (fun f => ((s.setSlot d (.occupied w)).changeWheel w f).computeDues w) (funext fun y => ?_)
  obtain ⟨⟩ := y
  dsimp only
  split <;> simp_all

/-- R20, R26: a record changed and then deleted. -/
theorem State.deleteWheel_changeWheel (hx : s.wheel w = some x) {f : Wheel → Wheel} (htag : (f x).tag = x.tag) :
    (s.changeWheel w f).deleteWheel w = { s with wheels := s.wheels.drop w, tags := s.tags.drop x.tag.toNat } := by
  have hfound : (s.changeWheel w f).wheel w = some (f x) := by rw [State.wheel_changeWheel, if_pos rfl, hx, Option.map_some]
  unfold State.deleteWheel
  rw [hfound]
  dsimp only
  rw [htag]
  unfold State.changeWheel
  rw [Table.drop_change]

end

/-- Settles O42: the completion by the kind of the intent. -/
theorem doneCompletesMovements : Obligations.DoneCompletesMovements := by
  unfold Obligations.DoneCompletesMovements
  intro s v w x i a b hs law hv hq hmove hphase hw hx hi outcome finish placed returned completes
  have hcompletes {m : State} (hm : s.completeIntent w i = m) : completes m :=
    ⟨_, rfl, request_completes hs law hv hq hmove hphase hw hx hi a b hm⟩
  have hreturned : s.freeReturn w i = returned := by
    simp only [returned, State.freeReturn, State.freeReserved] <;> cases i.returnSlot <;> rfl
  have hclock : returned.clock = s.clock := by rw [← hreturned, State.freeReturn_clock]
  refine ⟨fun d hk hd => hcompletes ?_, fun d hk hd => hcompletes ?_, fun hk => hcompletes ?_, fun hk => hcompletes ?_⟩
  · simp only [State.completeIntent, hk, hd, State.placeIn_eq]
    rfl
  · simp only [State.completeIntent, hk, hd, State.placeIn_eq, hreturned, hclock]
    rfl
  · simp only [State.completeIntent, hk]
    rfl
  · have hwheels : returned.wheels = s.wheels := by rw [← hreturned, State.freeReturn_wheels]
    have htags : returned.tags = s.tags := by rw [← hreturned, State.freeReturn_tags]
    have hfound : returned.wheel w = some x := by
      rw [← hx]
      unfold State.wheel
      rw [hwheels]
    simp only [State.completeIntent, hk, hreturned]
    rw [← hwheels, ← htags]
    exact State.deleteWheel_changeWheel hfound rfl

end Sys2Proof.Machine


namespace Sys2Proof.Machine

set_option Elab.async false

/-! ## The survey comparison -/

section
variable {s t : State}

/-- R141, R142: the outcomes that make an entry. -/
def SurveyOutcome.records (o : SurveyOutcome) : Bool := o == .madeSuspect || o == .noted

theorem SameInside.compare (h : SameInside s t) (c : Coord) (f : TagFinding) :
    SameInside (s.compare c f).1 (t.compare c f).1 ∧ (s.compare c f).2 = (t.compare c f).2 := by
  have hnames (w : Nat) : s.tagOfWheel w = t.tagOfWheel w := by rw [State.tagOfWheel, h.wheel w, State.tagOfWheel]
  have hseen {u u' : State} (hu : SameInside u u') (w : Nat) : SameInside (u.seen w) (u'.seen w) := hu.map fun u => u.seen w
  have hsuspect (k : DiscrepancyKind) (v : Option Nat) (tag : Option TagId) :
      SameInside ((s.makeSuspect c v).record k (some c) v tag) ((t.makeSuspect c v).record k (some c) v tag) :=
    (h.makeSuspect c v).record _ _ _ _
  unfold State.compare
  rw [h.slot c]
  split
  · simp only [hnames]
    split
    · exact ⟨hseen h _, rfl⟩
    · exact ⟨hsuspect _ _ _, rfl⟩
  · exact ⟨hsuspect _ _ _, rfl⟩
  · exact ⟨hsuspect _ _ _, rfl⟩
  · exact ⟨h.record _ _ _ _, rfl⟩
  · exact ⟨h, rfl⟩
  · simp only [hnames]
    split
    · exact ⟨hseen (h.setSlot c _) _, rfl⟩
    · exact ⟨h.record _ _ _ _, rfl⟩
  · exact ⟨h.record _ _ _ _, rfl⟩
  · exact ⟨h.setSlot c _, rfl⟩
  · exact ⟨h.record _ _ _ _, rfl⟩
  · exact ⟨h.record _ _ _ _, rfl⟩
  · exact ⟨h, rfl⟩
  · exact ⟨h, rfl⟩

/-- R144, R145: a board put in doubt and the finding recorded. -/
theorem Emits.suspectAndRecord (s : State) (c : Coord) (v : Option Nat) (k : DiscrepancyKind) (w : Option Nat) (tag : Option TagId) :
    Emits s ((s.makeSuspect c v).record k (some c) w tag) s.recordNotice := by
  have hnotice : (s.makeSuspect c v).recordNotice = s.recordNotice := by simp [State.recordNotice_eq]
  rw [← hnotice]
  exact (silent (State.makeSuspect_ports s c v) (State.makeSuspect_arbiter s c v)).trans (record _ _ _ _ _)

theorem Emits.compare (s : State) (c : Coord) (f : TagFinding) :
    Emits s (s.compare c f).1 (if (s.compare c f).2.records then s.recordNotice else []) := by
  unfold State.compare
  split
  · split
    · exact silent rfl rfl
    · exact suspectAndRecord ..
  · exact suspectAndRecord ..
  · exact suspectAndRecord ..
  · exact record ..
  · exact refl s
  · split
    · exact silent rfl rfl
    · exact record ..
  · exact record ..
  · exact silent rfl rfl
  · exact record ..
  · exact record ..
  · exact refl s
  · exact refl s

theorem State.compare_link (s : State) (c : Coord) (f : TagFinding) :
    (s.compare c f).1.link = s.link ∧ (s.compare c f).1.config = s.config := by
  unfold State.compare State.seen
  split
  · split <;> simp
  · simp
  · simp
  · simp
  · exact ⟨rfl, rfl⟩
  · split <;> simp
  all_goals simp

end

/-- The state an applied SLOT_READ makes of the state the comparison leaves (R117, R140). -/
def State.surveyed (m : State) (v : TaskRecord) (g : SurveyRange) (next : Option (Fin 48)) (l : RobotLink) : State :=
  { m with link := l, tasks := m.tasks.map fun x => if x.number = v.number then { x with range := some { g with next := next } } else x }

/-- R140: an applied SLOT_READ, by what the comparison finds. -/
theorem request_surveys {s m : State} {v : TaskRecord} (hs : s.serves .robot) (law : s.TaskLaw) (hv : v ∈ s.tasks) (hi : v.state = .issued)
    (hk : v.kind = .survey) {g : SurveyRange} (hg : v.range = some g) {n : Fin 48} (hn : g.next = some n) {tag : TagReport}
    {o : SurveyOutcome} (hcompare : s.compare (v.place.at s n) (classify tag) = (m, o)) :
    (s.request (proper .robot) .slotRead (serveSlotRead ⟨v.number, v.issue⟩ n tag)).inside =
        (m.surveyed v g (g.after n)
          { s.link with position := some (v.place.at s n), deadline := some s.config.robot.allowances[(7 : Fin 8)] }).inside ∧
      Served s (s.request (proper .robot) .slotRead (serveSlotRead ⟨v.number, v.issue⟩ n tag)) .robot .slotRead
        ⟨.ok, .surveyed o (g.after n)⟩ (if o.records then s.recordNotice else []) := by
  obtain ⟨hlink, hconfig⟩ := s.compare_link (v.place.at s n) (classify tag)
  obtain ⟨hsame, houtcome⟩ := (SameInside.granted s .robot).compare (v.place.at s n) (classify tag)
  have hemits := Emits.compare (s.inGrant .robot) (v.place.at s n) (classify tag)
  rw [hcompare] at hlink hconfig hsame houtcome
  replace houtcome : ((s.inGrant .robot).compare (v.place.at s n) (classify tag)).2 = o := houtcome
  rw [houtcome] at hemits
  have hserve : serveSlotRead ⟨v.number, v.issue⟩ n tag (s.inGrant .robot) = (s.inGrant .robot).applySurvey v g n tag := by
    refine (State.onReport_granted law hv (TaskRecord.queued_of_issued hi) _).trans ?_
    rw [if_neg (by simp [hi]), hk, hg]
    dsimp only
    rw [hn]
    exact if_pos rfl
  have happly : (s.inGrant .robot).applySurvey v g n tag = (((((s.inGrant .robot).compare (v.place.at s n) (classify tag)).1.setPosition
      (some (v.place.at s n))).setDeadline .survey).changeTask v.number fun x => { x with range := some { g with next := g.after n } },
      ⟨.ok, .surveyed o (g.after n)⟩) := by
    rw [← houtcome]
    rfl
  refine request_emits hs rfl (hserve.trans happly) ?_ (hemits.thenSilent rfl rfl)
  have hmoved := (hsame.map fun u => (u.setPosition (some (v.place.at s n))).setDeadline .survey).changeTask v.number fun x =>
    { x with range := some { g with next := g.after n } }
  have hsurveyed : ((m.setPosition (some (v.place.at s n))).setDeadline .survey).changeTask v.number
      (fun x => { x with range := some { g with next := g.after n } }) = m.surveyed v g (g.after n)
        { s.link with position := some (v.place.at s n), deadline := some s.config.robot.allowances[(7 : Fin 8)] } := by
    rw [← hlink, ← hconfig]
    rfl
  rw [← hsurveyed]
  exact hmoved

/-- Settles O45: the tables of the comparison, entry by entry. -/
theorem slotReadsAreComparedInOrder : Obligations.SlotReadsAreComparedInOrder := by
  unfold Obligations.SlotReadsAreComparedInOrder
  intro s v g n tag hs law hv hi hk hg hn c found names seen applied
  have happlied {m : State} {o : SurveyOutcome} (h : s.compare c found = (m, o)) :
      applied m o (if o.records then s.recordNotice else []) := by
    intro next hnext
    have hafter : next = g.after n := by
      rw [hnext, hn]
      rfl
    rw [hafter]
    exact ⟨_, rfl, request_surveys hs law hv hi hk hg hn h⟩
  have hnames (w : Nat) (x : TagId) (hx : found = .readable x) : names w ↔ s.tagOfWheel w = some x := by
    unfold State.tagOfWheel
    rw [Option.map_eq_some_iff]
    constructor
    · rintro ⟨y, z, hy, hz, rfl⟩
      rw [hx] at hz
      cases hz
      exact ⟨y, hy, rfl⟩
    · rintro ⟨y, hy, rfl⟩
      exact ⟨y, _, hy, hx, rfl⟩
  have hother {w : Nat} (h : ∀ t, found ≠ .readable t) (hslot : s.slot c = .occupied w) :
      s.compare c found = ((s.makeSuspect c (some w)).record .missing (some c) (some w) none, .madeSuspect) := by
    cases hf : found with
    | readable t => exact absurd hf (h t)
    | unreadable => simp only [State.compare, hslot]
    | nothing => simp only [State.compare, hslot]
  have hdoubted {w : Nat} (h : ∀ t, found ≠ .readable t) (hslot : s.slot c = .suspect (some w)) :
      s.compare c found = (s.record .missing (some c) (some w) none, .noted) := by
    cases hf : found with
    | readable t => exact absurd hf (h t)
    | unreadable => simp only [State.compare, hslot]
    | nothing => simp only [State.compare, hslot]
  refine ⟨fun w hslot hw => happlied ?_, fun w t hslot hw hf => happlied ?_, fun w hslot hf => happlied (hother hf hslot),
    fun t hslot hf => happlied ?_, fun hslot hf => happlied ?_, fun hslot hf => happlied ?_, fun w hslot hw => happlied ?_,
    fun w t hslot hw hf => happlied ?_, fun w hslot hf => happlied (hdoubted hf hslot), fun hslot hf => happlied ?_,
    fun t hslot hf => happlied ?_, fun hslot hf => happlied ?_, fun h => happlied ?_⟩
  · obtain ⟨_, t, _, hf, _⟩ := id hw
    simp only [State.compare, hslot, hf, (hnames w t hf).1 hw, if_true]
    rfl
  · simp only [State.compare, hslot, hf, mt (hnames w t hf).2 hw, if_false]
  · simp only [State.compare, hslot, hf]
  · simp only [State.compare, hslot, hf]
  · simp only [State.compare, hslot, hf]
  · obtain ⟨_, t, _, hf, _⟩ := id hw
    simp only [State.compare, hslot, hf, (hnames w t hf).1 hw, if_true]
    rfl
  · simp only [State.compare, hslot, hf, mt (hnames w t hf).2 hw, if_false]
  · simp only [State.compare, hslot, hf]
  · simp only [State.compare, hslot, hf]
  · simp only [State.compare, hslot, hf]
  · rcases h with ⟨r, w, hslot⟩ | hslot <;> simp only [State.compare, hslot]

end Sys2Proof.Machine


namespace Sys2Proof.Machine

set_option Elab.async false

/-! ## Robot faults -/

section
variable {s t u : State}

/-- R68: outside WORKING no task is out. -/
theorem State.TaskLaw.out_of_notWorking (law : s.TaskLaw) (h : s.link.state ≠ .working) : s.out = none := by
  rw [State.out_none]
  intro v hv
  by_contra hq
  exact h (law.working.2 ⟨v, hv, by simpa using hq⟩)

theorem State.takeBack_of_none (h : s.out = none) : s.takeBack = s := by simp [State.takeBack, h]

/-- R115: what is taken back, in WORKING and outside it. -/
theorem State.TaskLaw.takeBack_eq (law : s.TaskLaw) : s.takeBack = if s.link.state = .working then s.takeBack else s := by
  by_cases h : s.link.state = .working
  · rw [if_pos h]
  · rw [if_neg h, State.takeBack_of_none (law.out_of_notWorking h)]

/-- R115: the link state after a fault. -/
theorem faultState_eq (l : LinkState) (n : Nat) : faultState l n = if l = .recovery ∨ 3 ≤ n then .halted else .recovery := by
  unfold faultState
  by_cases h : l = .recovery
  · simp [h]
  · by_cases hn : n < 3
    · simp [h, hn, Nat.not_le.2 hn]
    · simp [h, hn, Nat.not_lt.1 hn]

/-- The link after a fault (R115): `s` is the state the fault finds, `u` what is left once the task has been taken back. -/
def State.faultLink (s u : State) (k : FaultKind) : State :=
  { u with link := { u.link with
      state := if s.link.state = .recovery ∨ 3 ≤ min 3 (s.link.faults + 1) then .halted else .recovery
      faults := min 3 (s.link.faults + 1), homeOrder := none, position := none
      lastFault := some ⟨k, s.clock.minute, s.out.map TaskRecord.kind⟩ } }

theorem State.robotFault_eq (law : s.TaskLaw) (k : FaultKind) : s.robotFault k =
    ((s.faultLink s.takeBack k).raiseIf
        ((if s.link.state = .recovery ∨ 3 ≤ min 3 (s.link.faults + 1) then LinkState.halted else .recovery) == .halted) .management
        .robotHalted,
      ⟨if (s.out.map TaskRecord.state) = some .aborting then .abort else .ok, .empty⟩) := by
  have hout : (if s.link.state = .working then s.out else none) = s.out := by
    split
    · rfl
    · rw [law.out_of_notWorking ‹_›]
  unfold State.robotFault State.faultLink
  rw [hout, ← law.takeBack_eq]
  dsimp only
  rw [faultState_eq]

/-- R113: a fault of another kind is a robot fault. -/
theorem State.takeFault_other {k : FaultKind} (h : k ≠ .slotBlocked) : s.takeFault k = s.robotFault k := by
  cases k
  case slotBlocked => exact absurd rfl h
  all_goals rfl

/-- R113: outside WORKING a blocked slot is a robot fault. -/
theorem State.takeFault_notWorking (h : s.link.state ≠ .working) : s.takeFault .slotBlocked = s.robotFault .motion := by
  unfold State.takeFault
  split
  · exact absurd ‹_› h
  · rfl

/-- R113: in WORKING where the robot's current point is no slot. -/
theorem State.takeFault_noPoint (law : s.TaskLaw) {v : TaskRecord} (hv : v ∈ s.tasks) (hq : v.queued = false) (h : s.blockedPoint v = none) :
    s.takeFault .slotBlocked = s.robotFault .motion := by
  have hworking : s.link.state = .working := law.working.2 ⟨v, hv, hq⟩
  have hout := State.out_of_mem law.oneOut hv hq
  unfold State.takeFault
  rw [hworking, hout]
  dsimp only
  rw [h]

/-- R113: in WORKING at a slot before the wheel is lifted. -/
theorem State.takeFault_visit (law : s.TaskLaw) {v : TaskRecord} (hv : v ∈ s.tasks) (hq : v.queued = false) {c : Coord}
    (h : s.blockedPoint v = some c) (hphase : v.phase ≠ some .carried) : s.takeFault .slotBlocked = s.blockedVisit v c := by
  have hworking : s.link.state = .working := law.working.2 ⟨v, hv, hq⟩
  have hout := State.out_of_mem law.oneOut hv hq
  unfold State.takeFault
  rw [hworking, hout]
  dsimp only
  rw [h]
  exact if_neg (by simpa [TaskRecord.carried] using hphase)

/-- R113: the link states in which a fault is taken. -/
theorem serveFault_taken (hl : s.link.state = .idle ∨ s.link.state = .unhomed ∨ s.link.state = .recovery ∨ s.link.state = .working)
    (k : FaultKind) : serveFault .fits k none s = s.takeFault k := by
  unfold serveFault
  rcases hl with h | h | h | h <;> simp [h]

/-- R113: a fault with the pair of the task that is out is taken. -/
theorem serveFault_current (law : s.TaskLaw) {v : TaskRecord} (hv : v ∈ s.tasks) (hq : v.queued = false) (k : FaultKind) :
    serveFault .fits k (some ⟨v.number, v.issue⟩) s = s.takeFault k :=
  (State.onReport_out law hv hq _).trans (if_neg (by decide))

/-- R113: in OFFLINE, LOST and HALTED a fault is refused. -/
theorem serveFault_refused (hl : s.link.state = .offline ∨ s.link.state = .lost ∨ s.link.state = .halted) (k : FaultKind) :
    serveFault .fits k none s = refuse s .state := by
  unfold serveFault
  rcases hl with h | h | h <;> simp [h]

theorem SameInside.faultLink {s' u' : State} (hs : SameInside s s') (hu : SameInside u u') (k : FaultKind) :
    SameInside (s.faultLink u k) (s'.faultLink u' k) := by
  unfold State.faultLink
  rw [hs.link, hs.clock, hs.congr State.out]
  exact hu.setLink fun l => { l with
    state := if s'.link.state = .recovery ∨ 3 ≤ min 3 (s'.link.faults + 1) then .halted else .recovery
    faults := min 3 (s'.link.faults + 1), homeOrder := none, position := none
    lastFault := some ⟨k, s'.clock.minute, s'.out.map TaskRecord.kind⟩ }

end

/-- R113, R115: a fault that is taken as a robot fault. -/
theorem request_faults {s : State} (hs : s.serves .robot) (law : s.TaskLaw) {effect : State → State × Reply} {k : FaultKind}
    (he : effect (s.inGrant .robot) = (s.inGrant .robot).robotFault k) :
    (s.request (proper .robot) .fault effect).inside = (s.faultLink (if s.link.state = .working then s.takeBack else s) k).inside ∧
      Served s (s.request (proper .robot) .fault effect) .robot .fault
        ⟨if (s.out.map TaskRecord.state) = some .aborting then .abort else .ok, .empty⟩
        (s.takeBackNotices ++
          if (if s.link.state = .recovery ∨ 3 ≤ min 3 (s.link.faults + 1) then LinkState.halted else .recovery) = .halted then
            [(.management, .robotHalted)] else []) := by
  have hgranted := SameInside.granted s .robot
  have hlaw : (s.inGrant .robot).TaskLaw := law.aside
  rw [← law.takeBack_eq]
  have hemits := ((Emits.takeBack (s.inGrant .robot)).thenSilent (u := (s.inGrant .robot).faultLink (s.inGrant .robot).takeBack k)
    rfl rfl).trans (Emits.raiseIf _ ((if s.link.state = .recovery ∨ 3 ≤ min 3 (s.link.faults + 1) then LinkState.halted
      else .recovery) == .halted) .management .robotHalted)
  simp only [beq_iff_eq] at hemits
  exact request_emits hs rfl (he.trans (State.robotFault_eq hlaw k)) ((hgranted.faultLink hgranted.takeBack k).raiseIf_left _ _ _) hemits

/-- R113: the points of a task at which no slot is blocked. -/
theorem State.blockedPoint_none {s : State} {v : TaskRecord}
    (h : (v.kind = .movement .place ∧ v.phase = some .beforePick) ∨
      (v.isMovement = true ∧ v.phase = some .carried ∧ (v.destination = some .infeed ∨ v.destination = some .outfeed)) ∨
      (∃ g, v.kind = .survey ∧ v.range = some g ∧ g.next = none)) : s.blockedPoint v = none := by
  unfold State.blockedPoint
  rcases h with ⟨hk, hphase⟩ | ⟨hmove, hphase, hd⟩ | ⟨g, hk, hg, hn⟩
  · simp [hk, hphase, TaskRecord.source]
  · unfold TaskRecord.isMovement at hmove
    cases hk : v.kind with
    | movement k => rcases hd with hd | hd <;> simp [hphase, hd]
    | _ => simp [hk] at hmove
  · simp [hk, hg, hn]

/-- Settles O36: the refusals, and the robot faults. -/
theorem robotFaultsCountAndHalt : Obligations.RobotFaultsCountAndHalt := by
  unfold Obligations.RobotFaultsCountAndHalt
  intro s k hs law hk c
  refine ⟨fun hl => ⟨⟨_, rfl, request_refused hs rfl (serveFault_refused (s := s.inGrant .robot) hl k)⟩,
    ⟨_, rfl, request_refused hs rfl (serveFault_refused (s := s.inGrant .robot) hl .slotBlocked)⟩⟩,
    ⟨_, congrArg Host.Outcome.next (State.request_badName s .robot .fault _), request_refused hs rfl rfl⟩, ?_⟩
  intro hl u n l after answer taken
  have hlaw : (s.inGrant .robot).TaskLaw := law.aside
  have htaken {kind : FaultKind} {ref : Option TaskRef}
      (he : serveFault .fits k ref (s.inGrant .robot) = (s.inGrant .robot).robotFault kind) :
      taken (.faultReport (proper .robot) k ref) kind := ⟨_, rfl, request_faults hs law he⟩
  have hblocked {ref : Option TaskRef}
      (he : serveFault .fits .slotBlocked ref (s.inGrant .robot) = (s.inGrant .robot).robotFault .motion) :
      taken (.slotBlocked (proper .robot) ref) .motion := ⟨_, rfl, request_faults hs law he⟩
  refine ⟨htaken ?_, fun v hv hq => htaken ?_, fun hw => hblocked ?_, fun v ref hv hq href hpoint => hblocked ?_⟩
  · exact (serveFault_taken (s := s.inGrant .robot) hl k).trans (State.takeFault_other hk)
  · exact (serveFault_current hlaw hv hq k).trans (State.takeFault_other hk)
  · exact (serveFault_taken (s := s.inGrant .robot) hl .slotBlocked).trans (State.takeFault_notWorking hw)
  · have hfault := State.takeFault_noPoint hlaw hv hq (State.blockedPoint_none hpoint)
    rcases href with rfl | rfl
    · exact (serveFault_taken (s := s.inGrant .robot) hl .slotBlocked).trans hfault
    · exact (serveFault_current hlaw hv hq .slotBlocked).trans hfault

/-! ## Expiries -/

/-- The grant of an internal requester, with the arbiter's next state written out. -/
abbrev State.inGrantOf (s : State) (i : InternalRequest) : State := { s with arbiter := s.granted i }

theorem Emits.fromGrant {s t : State} {i : InternalRequest} {raised : List (Port × Notice)} (h : Emits (s.inGrantOf i) t raised) :
    t.arbiter = s.granted i ∧ PortsAlone s t raised :=
  ⟨h.arbiter, h.sans, h.notices⟩

theorem SameInside.inGrantOf (s : State) (i : InternalRequest) : SameInside (s.inGrantOf i) s := ⟨rfl⟩

theorem State.expireTask_eq (s : State) : s.expireTask =
    if s.link.deadline = some 0 ∧ s.out.isSome then
      (((s.inGrantOf .taskDeadline).takeBack.setLink .lost).setPosition none).raise .management .robotLost
    else s.inGrantOf .taskDeadline := by
  unfold State.expireTask
  rw [State.granted_eq]
  rfl

/-- The state an expired HOME order leaves (R119). -/
def State.homeLost (s : State) : State := { s with link := { s.link with homeOrder := none, state := .lost, position := none } }

theorem State.expireHome_eq (s : State) : s.expireHome =
    if s.link.homeOrder = some 0 ∧ (s.link.state = .unhomed ∨ s.link.state = .recovery) then
      (s.inGrantOf .homeDeadline).homeLost.raise .management .robotLost
    else s.inGrantOf .homeDeadline := by
  unfold State.expireHome
  rw [State.granted_eq]
  rfl

/-- Settles O38: the two expiries, due or void. -/
theorem expiriesLoseTheRobot : Obligations.ExpiriesLoseTheRobot := by
  unfold Obligations.ExpiriesLoseTheRobot
  intro s hrunning law
  have htask : exec .taskDeadlineExpiry s = .next s.expireTask := congrArg Host.Outcome.next (State.whenRunning_of_running hrunning _)
  have hhome : exec .homeOrderExpiry s = .next s.expireHome := congrArg Host.Outcome.next (State.whenRunning_of_running hrunning _)
  rw [htask, hhome, State.expireTask_eq, State.expireHome_eq]
  refine ⟨fun hdue hw => ?_, fun hvoid => ?_, fun hdue hl => ?_, fun hvoid => ?_⟩
  · obtain ⟨v, hv, hq⟩ := law.working.1 hw
    have hout : s.out.isSome = true := by rw [State.out_of_mem law.oneOut hv hq]; rfl
    have hemits := ((Emits.takeBack (s.inGrantOf .taskDeadline)).thenSilent
      (u := ((s.inGrantOf .taskDeadline).takeBack.setLink .lost).setPosition none) rfl rfl).trans (Emits.raise _ .management .robotLost)
    obtain ⟨harbiter, hports⟩ := Emits.fromGrant hemits
    rw [if_pos ⟨hdue, hout⟩]
    exact ⟨_, rfl, harbiter, hports, ((((SameInside.inGrantOf s .taskDeadline).takeBack).setLink fun l =>
      { l with state := .lost, position := none }).raise_left _ _).inside⟩
  · rw [if_neg]
    rintro ⟨hdue, hout⟩
    rcases hvoid with h | h
    · exact h hdue
    · rw [law.out_of_notWorking h] at hout
      cases hout
  · have hemits := (Emits.silent rfl rfl : Emits (s.inGrantOf .homeDeadline) (s.inGrantOf .homeDeadline).homeLost []).trans
      (Emits.raise _ .management .robotLost)
    obtain ⟨harbiter, hports⟩ := Emits.fromGrant hemits
    rw [if_pos ⟨hdue, hl⟩]
    exact ⟨_, rfl, harbiter, hports, (((SameInside.inGrantOf s .homeDeadline).map State.homeLost).raise_left _ _).inside⟩
  · rw [if_neg]
    rintro ⟨hdue, hl⟩
    rcases hvoid with h | ⟨h, h'⟩
    · exact h hdue
    · exact hl.elim h h'

end Sys2Proof.Machine


namespace Sys2Proof.Machine

set_option Elab.async false

/-! ## Blocked boards -/

section
variable {s t : State} {v : TaskRecord}

/-- R113: the board of a visit or of a survey's next position is the robot's current point. -/
theorem State.blockedPoint_visit {p : Coord}
    (h : (v.isCare = true ∧ v.place = .board p) ∨
      ((v.kind = .movement .move ∨ v.kind = .movement .remove) ∧ v.phase = some .beforePick ∧ v.place = .board p) ∨
      (∃ g n, v.kind = .survey ∧ v.range = some g ∧ g.next = some n ∧ p = { v.place.coord s with position := n })) :
    s.blockedPoint v = some p := by
  unfold State.blockedPoint
  rcases h with ⟨hcare, hp⟩ | ⟨hk | hk, hphase, hp⟩ | ⟨g, n, hk, hg, hn, rfl⟩
  · unfold TaskRecord.isCare at hcare
    cases hk : v.kind <;> simp_all
  · simp [hk, hphase, hp, TaskRecord.source]
  · simp [hk, hphase, hp, TaskRecord.source]
  · simp only [hk, hg, Option.map_some, hn]
    rfl

/-- R67: what is visited is not CARRIED. -/
theorem TaskRecord.Shaped.phase_visit {p : Coord} (h : v.Shaped)
    (hv : (v.isCare = true ∧ v.place = .board p) ∨
      ((v.kind = .movement .move ∨ v.kind = .movement .remove) ∧ v.phase = some .beforePick ∧ v.place = .board p) ∨
      (∃ g n, v.kind = .survey ∧ v.range = some g ∧ g.next = some n ∧ p = { v.place.coord s with position := n })) :
    v.phase ≠ some .carried := by
  unfold TaskRecord.Shaped at h
  rcases hv with ⟨hcare, hp⟩ | ⟨-, hphase, -⟩ | ⟨g, n, hk, -⟩
  · unfold TaskRecord.isCare at hcare
    cases hk : v.kind <;> simp_all
  · simp [hphase]
  · simp_all

/-- R114: a blocked board put in doubt and recorded. -/
def State.blockedAt (s : State) (p : Coord) : State :=
  ((s.setPosition (some p)).suspectOccupied p).record .blocked (some p) (s.slot p).handle none

theorem State.blockedVisit_eq (s : State) (v : TaskRecord) (p : Coord) : s.blockedVisit v p =
    ((s.blockedAt p).endIdle v (if v.state = .aborting then .aborted else .failed .blocked),
      ⟨if v.state = .aborting then .abort else .ok, .empty⟩) := by
  unfold State.blockedVisit State.blockedAt
  by_cases h : v.state = .aborting
  · simp only [if_pos h]
    rfl
  · simp only [if_neg h]
    rfl

theorem SameInside.blockedAt (h : SameInside s t) (p : Coord) : SameInside (s.blockedAt p) (t.blockedAt p) := by
  unfold State.blockedAt
  rw [h.slot p]
  exact (((h.setLink fun l => { l with position := some p }).suspectOccupied p).record _ _ _ _)

theorem Emits.blockedAt (s : State) (p : Coord) : Emits s (s.blockedAt p) s.recordNotice := by
  have hnotice : ((s.setPosition (some p)).suspectOccupied p).recordNotice = s.recordNotice := by simp [State.recordNotice_eq]
  have hsilent : Emits s ((s.setPosition (some p)).suspectOccupied p) [] := silent
  have hemits := hsilent.trans (record _ .blocked (some p) (s.slot p).handle none)
  rw [hnotice] at hemits
  exact hemits

theorem State.blockedAt_link (s : State) (p : Coord) :
    (s.blockedAt p).link = { s.link with position := some p } ∧ (s.blockedAt p).zones = s.zones := by
  simp [State.blockedAt, State.setPosition]

/-- R114, R120: a blocked board at a visit ends the task. -/
theorem request_blockedVisit {p : Coord} {effect : State → State × Reply} (hs : s.serves .robot)
    (he : effect (s.inGrant .robot) = (s.inGrant .robot).blockedVisit v p) :
    (s.request (proper .robot) .fault effect).inside = ((s.blockedAt p).ended v
        (if v.state = .aborting then .aborted else .failed .blocked) .idle (some p) s.link.faults).inside ∧
      Served s (s.request (proper .robot) .fault effect) .robot .fault ⟨if v.state = .aborting then .abort else .ok, .empty⟩
        (s.recordNotice ++ s.endNotices v (if v.state = .aborting then .aborted else .failed .blocked) ++
          ((s.blockedAt p).ended v (if v.state = .aborting then .aborted else .failed .blocked) .idle (some p)
            s.link.faults).availableNow) := by
  obtain ⟨hlink, -⟩ := s.blockedAt_link p
  have hsame := (SameInside.granted s .robot).blockedAt p
  have hzones : ((s.inGrant .robot).blockedAt p).zones = s.zones := ((s.inGrant .robot).blockedAt_link p).2
  rw [← State.relink_self hlink] at hsame
  rw [State.blockedVisit_eq] at he
  exact request_ended (m := s.blockedAt p) (l := { s.link with position := some p }) hs rfl he hsame (by rw [hlink]) (by rw [hlink])
    (Emits.blockedAt (s.inGrant .robot) p) hzones

end

/-! ## Blocked drops -/

section
variable {s t : State} {v : TaskRecord} {w : Nat} {x : Wheel} {i : Intent} {d : Coord}

theorem State.takeFault_drop (law : s.TaskLaw) (hv : v ∈ s.tasks) (hi : v.state = .issued) (hmove : v.isMovement = true)
    (hphase : v.phase = some .carried) (hd : v.destination = some (.slot d)) (hw : v.wheel = some w) (hx : s.wheel w = some x)
    (hintent : x.intent = some i) : s.takeFault .slotBlocked = s.blockedDrop v w i d := by
  have hq := TaskRecord.queued_of_issued hi
  have hworking : s.link.state = .working := law.working.2 ⟨v, hv, hq⟩
  have hout := State.out_of_mem law.oneOut hv hq
  have hpoint : s.blockedPoint v = some d := by
    unfold TaskRecord.isMovement at hmove
    unfold State.blockedPoint
    cases hk : v.kind with
    | movement k => simp [hphase, hd]
    | _ => simp [hk] at hmove
  have hbound : (v.wheel.bind s.wheel).bind Wheel.intent = some i := by rw [hw, Option.bind_some, hx, Option.bind_some, hintent]
  unfold State.takeFault
  rw [hworking, hout]
  dsimp only
  rw [hpoint]
  dsimp only
  rw [if_pos (by simp [TaskRecord.carried, hphase]), hi, hbound, hw]

/-- R131, R132: the intent a blocked drop leaves, and the slot field of its task. -/
theorem retargetIntent_eq {i' : Intent} {place : TaskPlace} (hphase : i.phase = .carried)
    (h : (∃ r, i.kind = .move ∧ i.returnSlot = some r ∧ r ≠ d ∧ place = .board r ∧
        i' = { i with destination := .slot r, retargeted := true }) ∨
      ((i.kind = .place ∨ (i.kind = .move ∧ i.returnSlot = some d)) ∧ place = .infeed ∧
        i' = { kind := .park, destination := .infeed, retargeted := true, returnSlot := none, phase := .carried, status := .active })) :
    retargetIntent i d = i' ∧ i'.phase = .carried ∧ ∀ l, i'.place l = place := by
  unfold retargetIntent
  rcases h with ⟨r, hk, hr, hne, rfl, rfl⟩ | ⟨hk | ⟨hk, hr⟩, rfl, rfl⟩
  · exact ⟨by simp [hk, hr, hne], hphase, fun l => by simp [Intent.place, hk, hr, hphase]⟩
  · exact ⟨by simp [hk, parkIntent], rfl, fun _ => rfl⟩
  · exact ⟨by simp [hk, hr, parkIntent], rfl, fun _ => rfl⟩

/-- R144: the board of a blocked drop put in doubt and recorded. -/
def State.dropDoubted (s : State) (d : Coord) : State := (s.makeSuspect d none).record .blocked (some d) none none

/-- R131, R132: a task retargeted by a blocked drop, under its next issue number. -/
def TaskRecord.retargeted (z : TaskRecord) (w : Nat) (n : Fin 64) (issue : Nat) (i' : Intent) (place : TaskPlace) : TaskRecord :=
  let z' := if z.isMovement && z.wheel == some w then
      { z with kind := .movement i'.kind, phase := some .carried, place := place, destination := some i'.destination }
    else z
  if z'.number = n then { z' with issue := issue } else z'

/-- R131, R132: the state a blocked drop leaves. -/
def State.dropped (s : State) (n : Fin 64) (w : Nat) (d : Coord) (i' : Intent) (place : TaskPlace) : State :=
  { (s.dropDoubted d).changeWheel w fun z => { z with intent := some i' } with
    tasks := (s.dropDoubted d).tasks.map fun z => z.retargeted w n ((s.dispatch.lastIssue[n] + 1) % 256) i' place
    dispatch := { s.dispatch with lastIssue := s.dispatch.lastIssue.set n ((s.dispatch.lastIssue[n] + 1) % 256) }
    link := { s.link with
      position := some d, verified := true, deadline := some s.config.robot.allowances[(TaskKind.movement i'.kind).index] } }

theorem State.record_relink (s : State) (l : RobotLink) (k : DiscrepancyKind) (c : Option Coord) (h : Option Nat) (tag : Option TagId) :
    (s.relink l).record k c h tag = (s.record k c h tag).relink l := by
  unfold State.record
  by_cases hroom : s.discrepancies.length < Config.discrepancyRoom
  · rw [if_pos hroom, if_pos (show (s.relink l).discrepancies.length < Config.discrepancyRoom from hroom)]
    rfl
  · rw [if_neg hroom, if_neg (show ¬ (s.relink l).discrepancies.length < Config.discrepancyRoom from hroom)]
    rfl

theorem State.dropDoubted_relink (s : State) (l : RobotLink) (d : Coord) : (s.relink l).dropDoubted d = (s.dropDoubted d).relink l := by
  have hsuspect : (s.relink l).makeSuspect d none = (s.makeSuspect d none).relink l :=
    (s.setSlot d (.suspect none)).withdrawWhere_relink l _
  unfold State.dropDoubted
  rw [hsuspect, State.record_relink]

theorem State.dropDoubted_keeps (s : State) (d : Coord) :
    (s.dropDoubted d).dispatch = s.dispatch ∧ (s.dropDoubted d).config = s.config ∧ (s.dropDoubted d).link = s.link ∧
      (s.dropDoubted d).tasks ⊆ s.tasks ∧ ((s.dropDoubted d).tasks.map TaskRecord.number).Sublist (s.tasks.map TaskRecord.number) := by
  refine ⟨by simp [State.dropDoubted], by simp [State.dropDoubted], by simp [State.dropDoubted], ?_, ?_⟩
  · simpa [State.dropDoubted] using s.makeSuspect_tasks_subset d none
  · simp only [State.dropDoubted, State.record_tasks, State.makeSuspect, State.withdrawWhere_tasks, State.setSlot_tasks]
    exact List.filter_sublist.map _

/-- R70: a new issue number stamped. -/
theorem State.stampIssue_eq (s : State) (n : Fin 64) : s.stampIssue n = { s with
    dispatch := { s.dispatch with lastIssue := s.dispatch.lastIssue.set n ((s.dispatch.lastIssue[n] + 1) % 256) }
    tasks := s.tasks.map fun t => if t.number = n then { t with issue := (s.dispatch.lastIssue[n] + 1) % 256 } else t } := rfl

/-- R122: the tasks of a wheel brought to its intent. -/
theorem State.alignTask_of_intent {i' : Intent} (hx : s.wheel w = some x) (hi : x.intent = some i') : s.alignTask w = { s with
    tasks := s.tasks.map fun z => if z.isMovement && z.wheel == some w then
        { z with kind := .movement i'.kind, phase := some i'.phase, place := i'.place x.location, destination := some i'.destination }
      else z } := by
  unfold State.alignTask
  rw [hx]
  dsimp only
  rw [hi]
  rfl

/-- R114, R131, R132: what a blocked drop makes of the state. -/
theorem State.blockedDrop_eq {i' : Intent} {place : TaskPlace} (hx : s.wheel w = some x) (hret : retargetIntent i d = i')
    (hphase : i'.phase = .carried) (hplace : ∀ l, i'.place l = place) :
    s.blockedDrop v w i d = (s.dropped v.number w d i' place, (s.dropped v.number w d i' place).workReply v.number) := by
  have hdoubted : ((s.setPosition (some d)).makeSuspect d none).record .blocked (some d) none none =
      (s.dropDoubted d).relink { s.link with position := some d } := s.dropDoubted_relink { s.link with position := some d } d
  obtain ⟨hdispatch, hconfig, -⟩ := s.dropDoubted_keeps d
  obtain ⟨y, hy⟩ : ∃ y, (s.dropDoubted d).wheel w = some y := by
    have hsome : ((s.dropDoubted d).wheel w).isSome = true := by
      have hwheels : (s.dropDoubted d).wheel w = (s.makeSuspect d none).wheel w := by
        unfold State.wheel State.dropDoubted
        rw [State.record_wheels]
      rw [hwheels]
      refine (State.wheel_withdrawWhere_isSome _ _).trans ?_
      rw [show (s.setSlot d (.suspect none)).wheel w = s.wheel w from rfl, hx]
      rfl
    exact Option.isSome_iff_exists.1 hsome
  have halign := State.alignTask_of_intent (s := (((s.dropDoubted d).relink { s.link with position := some d, verified := true }).setIntent w
    (some i'))) (w := w) (x := { y with intent := some i' }) (i' := i') (by
      rw [State.setIntent, State.wheel_changeWheel, if_pos rfl]
      rw [show ((s.dropDoubted d).relink { s.link with position := some d, verified := true }).wheel w = some y from hy]
      rfl) rfl
  have htasks : ((s.dropDoubted d).tasks.map fun z => if z.isMovement && z.wheel == some w then
      { z with kind := .movement i'.kind, phase := some i'.phase, place := i'.place y.location, destination := some i'.destination }
      else z).map (fun t => if t.number = v.number then { t with issue := ((s.dropDoubted d).dispatch.lastIssue[v.number] + 1) % 256 }
        else t) =
      (s.dropDoubted d).tasks.map fun z => z.retargeted w v.number ((s.dispatch.lastIssue[v.number] + 1) % 256) i' place := by
    rw [List.map_map, hdispatch]
    refine List.map_congr_left fun z _ => ?_
    simp only [Function.comp_apply, TaskRecord.retargeted, hphase, hplace]
  have hstate : (s.blockedDrop v w i d).1 = s.dropped v.number w d i' place := by
    unfold State.blockedDrop
    rw [hdoubted, hret]
    refine (congrArg (fun u => (State.stampIssue u v.number).setDeadline (.movement i'.kind)) halign).trans ?_
    unfold State.dropped
    rw [State.stampIssue_eq, ← htasks, ← hdispatch, ← hconfig]
    rfl
  exact Prod.ext hstate (by rw [← hstate]; rfl)

end

end Sys2Proof.Machine


namespace Sys2Proof.Machine

set_option Elab.async false

section
variable {s t : State} {v : TaskRecord} {w : Nat} {d : Coord} {i' : Intent} {place : TaskPlace}

theorem SameInside.dropped (h : SameInside s t) (n : Fin 64) (w : Nat) (d : Coord) (i' : Intent) (place : TaskPlace) :
    SameInside (s.dropped n w d i' place) (t.dropped n w d i' place) := by
  have hdoubted : SameInside (s.dropDoubted d) (t.dropDoubted d) := (h.makeSuspect d none).record _ _ _ _
  unfold State.dropped
  rw [h.link, h.congr State.dispatch, h.congr State.config]
  exact (hdoubted.changeWheel w fun z => { z with intent := some i' }).map fun u => { u with
    tasks := u.tasks.map fun z => z.retargeted w n ((t.dispatch.lastIssue[n] + 1) % 256) i' place
    dispatch := { t.dispatch with lastIssue := t.dispatch.lastIssue.set n ((t.dispatch.lastIssue[n] + 1) % 256) }
    link := { t.link with
      position := some d, verified := true, deadline := some t.config.robot.allowances[(TaskKind.movement i'.kind).index] } }

theorem Emits.dropped (s : State) (n : Fin 64) (w : Nat) (d : Coord) (i' : Intent) (place : TaskPlace) :
    Emits s (s.dropped n w d i' place) s.recordNotice :=
  (Emits.suspectAndRecord s d none .blocked none none).thenSilent rfl rfl

theorem TaskRecord.retargeted_number (z : TaskRecord) (w : Nat) (n : Fin 64) (issue : Nat) (i' : Intent) (place : TaskPlace) :
    (z.retargeted w n issue i' place).number = z.number := by
  unfold TaskRecord.retargeted
  by_cases h : (z.isMovement && z.wheel == some w) = true <;> by_cases hn : z.number = n <;> simp [h, hn]

/-- R131, R132: the task of a blocked drop, retargeted. -/
theorem TaskRecord.retargeted_own (hmove : v.isMovement = true) (hw : v.wheel = some w) (issue : Nat) :
    v.retargeted w v.number issue i' place = { v with
      kind := .movement i'.kind, phase := some .carried, place := place, destination := some i'.destination, issue := issue } := by
  simp [TaskRecord.retargeted, hmove, hw]

/-- R131: the answer to a blocked drop carries the task retargeted. -/
theorem State.workReply_dropped (law : s.TaskLaw) (hv : v ∈ s.tasks) (hq : v.queued = false) (w : Nat) (d : Coord) (i' : Intent)
    (place : TaskPlace) :
    v.retargeted w v.number ((s.dispatch.lastIssue[v.number] + 1) % 256) i' place ∈ (s.dropped v.number w d i' place).tasks ∧
      (s.dropped v.number w d i' place).workReply v.number = ⟨.ok, .work ((s.dropped v.number w d i' place).workOf
        (v.retargeted w v.number ((s.dispatch.lastIssue[v.number] + 1) % 256) i' place))⟩ := by
  obtain ⟨-, -, -, -, hnumbers⟩ := s.dropDoubted_keeps d
  have hkept : v ∈ (s.dropDoubted d).tasks := by
    simp only [State.dropDoubted, State.record_tasks, State.makeSuspect, State.withdrawWhere_tasks, State.setSlot_tasks]
    exact List.mem_filter.2 ⟨hv, by simp [hq]⟩
  have hmem : v.retargeted w v.number ((s.dispatch.lastIssue[v.number] + 1) % 256) i' place ∈
      (s.dropped v.number w d i' place).tasks := List.mem_map_of_mem hkept
  have hnodup : ((s.dropped v.number w d i' place).tasks.map TaskRecord.number).Nodup := by
    have heq : (s.dropped v.number w d i' place).tasks.map TaskRecord.number = (s.dropDoubted d).tasks.map TaskRecord.number := by
      simp only [State.dropped, List.map_map]
      exact List.map_congr_left fun z _ => TaskRecord.retargeted_number z _ _ _ _ _
    rw [heq]
    exact law.numbers.sublist hnumbers
  have htask := State.task_of_mem hnodup hmem
  rw [TaskRecord.retargeted_number] at htask
  exact ⟨hmem, by rw [State.workReply, htask]⟩

end

/-- Settles O37: a blocked board at a visit, and at a drop. -/
theorem blockedBoardsAreAnswered : Obligations.BlockedBoardsAreAnswered := by
  unfold Obligations.BlockedBoardsAreAnswered
  refine ⟨?_, ?_⟩
  · intro s v p ref hs law hv hq href hpoint b noted ending e
    have hlaw : (s.inGrant .robot).TaskLaw := law.aside
    have hworking : s.link.state = .working := law.working.2 ⟨v, hv, hq⟩
    have hfault : (s.inGrant .robot).takeFault .slotBlocked = (s.inGrant .robot).blockedVisit v p :=
      State.takeFault_visit hlaw hv hq (State.blockedPoint_visit hpoint) (TaskRecord.Shaped.phase_visit (law.shapes v hv) hpoint)
    have hnoted : s.blockedAt p = noted := by
      simp only [noted, State.blockedAt, State.suspectOccupied]
      rfl
    simp only [e, ending, ← hnoted]
    rcases href with rfl | rfl
    · exact ⟨_, rfl, request_blockedVisit hs
        ((serveFault_taken (s := s.inGrant .robot) (.inr (.inr (.inr hworking))) .slotBlocked).trans hfault)⟩
    · exact ⟨_, rfl, request_blockedVisit hs ((serveFault_current hlaw hv hq .slotBlocked).trans hfault)⟩
  · intro s v w x i d ref hs law hv hi href hmove hphase hd hw hx hintent hcarried i' place hret n noted
    have hq := TaskRecord.queued_of_issued hi
    have hlaw : (s.inGrant .robot).TaskLaw := law.aside
    have hworking : s.link.state = .working := law.working.2 ⟨v, hv, hq⟩
    obtain ⟨hintent', hphase', hplace⟩ := retargetIntent_eq hcarried hret
    obtain ⟨hmem, hreply⟩ := (s.inGrant .robot).workReply_dropped hlaw hv hq w d i' place
    have hfault : (s.inGrant .robot).takeFault .slotBlocked = ((s.inGrant .robot).dropped v.number w d i' place,
        ⟨.ok, .work (((s.inGrant .robot).dropped v.number w d i' place).workOf
          (v.retargeted w v.number ((s.dispatch.lastIssue[v.number] + 1) % 256) i' place))⟩) := by
      rw [State.takeFault_drop hlaw hv hi hmove hphase hd hw (x := x) hx hintent,
        State.blockedDrop_eq (s := s.inGrant .robot) hx hintent' hphase' hplace, hreply]
      rfl
    have hsame := (SameInside.granted s .robot).dropped v.number w d i' place
    have hserved (he : serveFault .fits .slotBlocked ref (s.inGrant .robot) = (s.inGrant .robot).takeFault .slotBlocked) :=
      request_emits hs (k := .fault) rfl (he.trans hfault) hsame (Emits.dropped (s.inGrant .robot) v.number w d i' place)
    have he : serveFault .fits .slotBlocked ref (s.inGrant .robot) = (s.inGrant .robot).takeFault .slotBlocked := by
      rcases href with rfl | rfl
      · exact serveFault_taken (s := s.inGrant .robot) (.inr (.inr (.inr hworking))) .slotBlocked
      · exact serveFault_current hlaw hv hq .slotBlocked
    obtain ⟨hinside, hanswer⟩ := hserved he
    have hfinal := SameInside.mk hinside
    refine ⟨_, _, rfl, hinside, TaskRecord.retargeted_own hmove hw _, ?_, ?_⟩
    · exact (hfinal.tasks.trans hsame.tasks.symm) ▸ hmem
    · have hwork := (hsame.congr fun u => u.workOf (v.retargeted w v.number n i' place)).trans
        (hfinal.congr fun u => u.workOf (v.retargeted w v.number n i' place)).symm
      rw [hwork] at hanswer
      exact hanswer

end Sys2Proof.Machine


namespace Sys2Proof.Machine

set_option Elab.async false

/-! ## READY -/

section
variable {s t : State}

theorem State.takeBack_tags (s : State) : s.takeBack.tags = s.tags := by
  unfold State.takeBack
  split
  · rfl
  · split
    · rw [State.endTask_frame]
    · split
      · rw [State.requeue_frame]
      · split
        · rw [State.endTask_frame]
        · rw [State.requeue_frame]

/-- R102: what a READY takes back. -/
theorem State.readyTakesBack_eq (s : State) : s.readyTakesBack =
    if s.link.state = .working then s.takeBack
    else if s.link.state = .unhomed ∨ s.link.state = .recovery then { s with link := { s.link with homeOrder := none } }
    else s := by
  unfold State.readyTakesBack
  split <;> simp_all

theorem State.readyTakesBack_tags (s : State) : s.readyTakesBack.tags = s.tags := by
  rw [State.readyTakesBack_eq]
  split
  · exact s.takeBack_tags
  · split <;> rfl

theorem SameInside.readyTakesBack (h : SameInside s t) : SameInside s.readyTakesBack t.readyTakesBack := by
  rw [State.readyTakesBack_eq, State.readyTakesBack_eq, h.link]
  split
  · exact h.takeBack
  · split
    · exact h.setLink fun _ => { t.link with homeOrder := none }
    · exact h

theorem Emits.readyTakesBack (s : State) :
    Emits s s.readyTakesBack (if s.link.state = .working then s.takeBackNotices else []) := by
  rw [State.readyTakesBack_eq]
  split
  · exact takeBack s
  · split
    · exact silent rfl rfl
    · exact refl s

/-- R103: the link state a READY leaves. -/
theorem readyState_eq (l : LinkState) (p : Option Coord) :
    readyState l p = if l = .recovery then .recovery else if p = none then .unhomed else .idle := by
  unfold readyState
  cases p <;> simp

/-- R101: the coordinates refused. -/
theorem readyPosition_none {known : Bool} {position : Option RawCoord}
    (h : (∃ r, position = some r ∧ (16 ≤ r.aisle ∨ 12 ≤ r.level ∨ 48 ≤ r.position)) ∨ (known = true ∧ position = none)) :
    readyPosition known position = none := by
  rcases h with ⟨r, rfl, hout⟩ | ⟨rfl, rfl⟩
  · have hnone : coordOf r = none := coordOf_outside (by omega)
    simp [readyPosition, hnone]
  · rfl

/-- R101: the position a READY gives. -/
theorem readyPosition_some {known : Bool} {position : Option RawCoord} {p : Option Coord}
    (h : (known = true ∧ ∃ x, p = some x ∧ position = some ⟨x.aisle, x.level, x.position⟩) ∨
      (known = false ∧ p = none ∧ ∀ r, position = some r → r.aisle < 16 ∧ r.level < 12 ∧ r.position < 48)) :
    readyPosition known position = some p := by
  rcases h with ⟨rfl, x, rfl, rfl⟩ | ⟨rfl, rfl, hin⟩
  · simp [readyPosition, coordOf_parts]
  · cases position with
    | none => rfl
    | some r =>
      obtain ⟨ha, hl, hp⟩ := hin r rfl
      have hc : coordOf r = some ⟨⟨r.aisle, ha⟩, ⟨r.level, hl⟩, ⟨r.position, hp⟩⟩ :=
        coordOf_parts ⟨⟨r.aisle, ha⟩, ⟨r.level, hl⟩, ⟨r.position, hp⟩⟩
      simp [readyPosition, hc]

/-- R133, R101: the state a READY leaves, with its link state and its position. -/
def State.announced (s : State) (load : Load) (p : Option Coord) (l : LinkState) : State :=
  { s.readyTakesBack.reconcile load with link := { (s.readyTakesBack.reconcile load).link with position := p, state := l } }

theorem SameInside.announced (h : SameInside s t) (load : Load) (p : Option Coord) (l : LinkState) :
    SameInside (s.announced load p l) (t.announced load p l) :=
  (h.readyTakesBack.reconcile load).setLink fun k => { k with position := p, state := l }

/-- R99, R133, R145: what a READY raises before its link state is judged. -/
def State.announceNotices (s : State) (load : Load) : List (Port × Notice) :=
  (if s.link.state = .working then s.takeBackNotices else []) ++ s.readyTakesBack.reconcileNotices load

theorem Emits.announced (s : State) (load : Load) (p : Option Coord) (l : LinkState) :
    Emits s (s.announced load p l) (s.announceNotices load) :=
  ((readyTakesBack s).trans (reconcile _ load)).thenSilent rfl rfl

/-- R91: the test run when the link comes to stand in IDLE, and the notices of the test run in any state. -/
theorem State.announced_available (s : State) (load : Load) (p : Option Coord) (l : LinkState) :
    (if (l == .idle) = true then (s.announced load p l).availableNow else []) = (s.announced load p l).availableNow := by
  by_cases h : l = .idle
  · simp [h]
  · have hnone : (s.announced load p l).availableNow = [] := if_neg fun g => h g.1
    simp [hnone]

theorem serveReady_refused {known : Bool} {position : Option RawCoord} (h : readyPosition known position = none) (carrying : TagReport) :
    serveReady known position carrying s = refuse s .badField := by
  unfold serveReady
  rw [h]

theorem serveReady_halted {known : Bool} {position : Option RawCoord} {p : Option Coord} (h : readyPosition known position = some p)
    (hl : s.link.state = .halted) (carrying : TagReport) : serveReady known position carrying s = refuse s .state := by
  unfold serveReady
  rw [h]
  exact if_pos hl

/-- R116: a load the part cannot name halts the link. -/
theorem serveReady_unknown {known : Bool} {position : Option RawCoord} {p : Option Coord} (h : readyPosition known position = some p)
    (hl : s.link.state ≠ .halted) {carrying : TagReport} {found : Option TagId} (hload : s.readyTakesBack.loadOf carrying = .unknown found) :
    serveReady known position carrying s =
      ((s.announced (.unknown found) p .halted).raise .management .robotHalted, ⟨.unknownLoad, .empty⟩) := by
  unfold serveReady
  rw [h]
  dsimp only
  rw [if_neg hl, hload]
  rfl

/-- R103: a load the part can name. -/
theorem serveReady_known {known : Bool} {position : Option RawCoord} {p : Option Coord} (h : readyPosition known position = some p)
    (hl : s.link.state ≠ .halted) {carrying : TagReport} {load : Load} (hload : s.readyTakesBack.loadOf carrying = load)
    (hknown : ∀ found, load ≠ .unknown found) : serveReady known position carrying s =
      accept ((s.announced load p (readyState s.link.state p)).testIf (readyState s.link.state p == .idle))
        (.link (readyState s.link.state p)) := by
  unfold serveReady
  rw [h]
  dsimp only
  rw [if_neg hl, hload]
  cases load with
  | unknown found => exact absurd rfl (hknown found)
  | none => rfl
  | wheel w tag => rfl

end

/-- Settles O39: the refusals, the loads named and the loads that halt the link. -/
theorem readyAnnouncesTheRobot : Obligations.ReadyAnnouncesTheRobot := by
  unfold Obligations.ReadyAnnouncesTheRobot
  intro s known position carrying hs c
  refine ⟨fun hbad => ⟨_, rfl, request_refused hs rfl (serveReady_refused (readyPosition_none hbad) carrying)⟩, fun p hp =>
    ⟨fun hl => ⟨_, rfl, request_refused hs rfl (serveReady_halted (s := s.inGrant .robot) (readyPosition_some hp) hl carrying)⟩, ?_⟩⟩
  intro hl u l after raised taken halted
  have hgranted := SameInside.granted s .robot
  have hbefore : u = s.readyTakesBack := s.readyTakesBack_eq.symm
  have hstate : readyState s.link.state p = l := readyState_eq s.link.state p
  have hnotices (load : Load) : (s.inGrant .robot).announceNotices load = s.announceNotices load := by
    have htaken : (s.inGrant .robot).takeBackNotices = s.takeBackNotices := hgranted.congr State.takeBackNotices
    have hload := (hgranted.readyTakesBack).congr fun u => u.reconcileNotices load
    unfold State.announceNotices
    rw [htaken, hload]
    rfl
  have hraised (load : Load) : raised load = s.announceNotices load := by
    simp only [raised, hbefore, State.announceNotices]
  have hafter (load : Load) (k : LinkState) : after load k = s.announced load p k := by
    simp only [after, hbefore, State.announced]
  have hload : (s.inGrant .robot).readyTakesBack.loadOf carrying = s.loadOf carrying := by
    have htags : (s.inGrant .robot).readyTakesBack.tags = s.tags := State.readyTakesBack_tags _
    unfold State.loadOf State.lookup
    rw [htags]
  have htakes {load : Load} (h : s.loadOf carrying = load) (hknown : ∀ found, load ≠ .unknown found) : taken load := by
    have hserve := serveReady_known (s := s.inGrant .robot) (readyPosition_some hp) hl (hload.trans h) hknown
    have hemits := ((Emits.announced (s.inGrant .robot) load p (readyState s.link.state p))).trans
      (Emits.testIf _ (readyState s.link.state p == .idle))
    have hsame := hgranted.announced load p (readyState s.link.state p)
    have hrequest := request_emits hs (k := .ready) rfl hserve (hsame.testIf_left _) hemits
    rw [State.announced_available, State.availableNow_congr hsame.inside, hnotices, ← hraised, ← hafter] at hrequest
    have hlink : readyState (s.inGrant .robot).link.state p = l := hstate
    rw [hlink, hstate] at hrequest
    exact ⟨_, rfl, hrequest⟩
  have hhalts {found : Option TagId} (h : s.loadOf carrying = .unknown found) : halted found := by
    have hserve := serveReady_unknown (s := s.inGrant .robot) (readyPosition_some hp) hl (hload.trans h)
    have hemits := (Emits.announced (s.inGrant .robot) (.unknown found) p .halted).trans (Emits.raise _ .management .robotHalted)
    have hsame := (hgranted.announced (.unknown found) p .halted).raise_left .management .robotHalted
    have hrequest := request_emits hs (k := .ready) rfl hserve hsame hemits
    rw [hnotices, ← hraised, ← hafter] at hrequest
    exact ⟨_, rfl, hrequest⟩
  refine ⟨fun hc => htakes (by rw [hc]; rfl) (fun _ => Load.noConfusion), fun content hc hread => hhalts ?_,
    fun content w hc hread hfound => htakes ?_ (fun _ => Load.noConfusion), fun content hc hread hfound => hhalts ?_⟩
  · simp [State.loadOf, classify, hc, hread]
  · simp only [State.loadOf, classify, hc, hread, if_true, State.lookup, hfound]
  · simp only [State.loadOf, classify, hc, hread, if_true, State.lookup, hfound]

end Sys2Proof.Machine


namespace Sys2Proof.Machine

set_option Elab.async false

/-! ## Offers of movement tasks -/

section
variable {s m u : State} {w : Nat} {x : Wheel} {i : Intent}

/-- R65, R91: an offer that is entered. -/
theorem State.offerMovement_entered (hx : s.wheel w = some x) (hi : x.intent = some i) {n : Fin 64}
    (ho : s.offerNonCare (s.movementTask w x i) = some (u, n)) : s.offerMovement w = (u.testAvailable, true) := by
  simp only [State.offerMovement, hx, hi, ho]

/-- R65: an offer that is not entered. -/
theorem State.offerMovement_notEntered (hx : s.wheel w = some x) (hi : x.intent = some i)
    (ho : s.offerNonCare (s.movementTask w x i) = none) : s.offerMovement w = (s, false) := by
  simp only [State.offerMovement, hx, hi, ho]

/-- R65, R91, R124: a request that ends by offering a wheel's movement task. -/
theorem request_offers {p : Port} (hs : s.serves p) {k : RequestKind} (hk : k.permitted p = true) {effect : State → State × Reply}
    {b : Bool → Body} (he : effect (s.inGrant p) = accept (u.offerMovement w).1 (b (u.offerMovement w).2)) (hsame : SameInside u m)
    (hemits : Emits (s.inGrant p) u []) (hx : m.wheel w = some x) (hi : x.intent = some i) {task : TaskRecord}
    (htask : m.movementTask w x i = task) :
    (∀ v n, m.offerNonCare task = some (v, n) → (s.request (proper p) k effect).inside = v.inside ∧
      Served s (s.request (proper p) k effect) p k ⟨.ok, b true⟩ v.availableNow) ∧
    (m.offerNonCare task = none → (s.request (proper p) k effect).inside = m.inside ∧
      Served s (s.request (proper p) k effect) p k ⟨.ok, b false⟩ []) := by
  have hoffered : u.movementTask w x i = task := by
    rw [← htask]
    unfold State.movementTask
    rw [hsame.clock]
  have hwheel := (hsame.wheel w).trans hx
  refine ⟨fun v n hv => ?_, fun hnone => ?_⟩
  · obtain ⟨v', hv', hsame'⟩ := hsame.offerNonCare_some hv
    rw [State.offerMovement_entered hwheel hi (hoffered ▸ hv')] at he
    exact request_tested hs hk he hsame' (hemits.trans (Emits.offerNonCare hv'))
  · rw [State.offerMovement_notEntered hwheel hi (hoffered ▸ hsame.offerNonCare_none hnone)] at he
    exact request_emits hs hk he hsame hemits

end

/-! ## BOOK_IN -/

section
variable {s : State}

/-- R1, R11: inside the geometry a level and a position name a board. -/
theorem State.boardIn_isSome (law : s.ConfigLaw) (aisle : Fin 16) {l p : Nat} (h : ¬ s.outside l p) : (s.boardIn aisle l p).isSome = true := by
  obtain ⟨-, hlevels, -, hpositions⟩ := law.working.boards
  obtain ⟨hl, hp⟩ : l < s.config.geometry.levels ∧ p < s.config.geometry.positions := by
    rw [not_or, Nat.not_le, Nat.not_le] at h
    exact h
  have hparts : aisle.val < 16 ∧ l < 12 ∧ p < 48 := ⟨aisle.2, by omega, by omega⟩
  simp [State.boardIn, Coord.ofParts, hl, hp, hparts]

theorem State.boardIn_some {aisle : Fin 16} {l p : Nat} {c : Coord} (h : s.boardIn aisle l p = some c) :
    c.aisle = aisle ∧ c.level.val = l ∧ c.position.val = p ∧ l < s.config.geometry.levels ∧ p < s.config.geometry.positions := by
  unfold State.boardIn Coord.ofParts at h
  split at h
  · next hin =>
    split at h
    · cases h
      exact ⟨rfl, rfl, rfl, hin⟩
    · cases h
  · cases h

theorem tagIdValid_eq_false (t : TagId) : tagIdValid t = false ↔ t = 0#48 ∨ t = BitVec.allOnes 48 := by
  by_cases h : t = 0#48 <;> by_cases g : t = BitVec.allOnes 48 <;> simp [tagIdValid, h, g]

theorem State.validClass_eq_none {n : Nat} : s.validClass n = none ↔
    16 ≤ n ∨ ∃ k : Fin 16, k.val = n ∧ (s.config.classes[k]).valid = false := by
  unfold State.validClass
  by_cases h : n < 16
  · rw [dif_pos h]
    constructor
    · intro hnone
      refine .inr ⟨⟨n, h⟩, rfl, ?_⟩
      by_contra hvalid
      simp_all
    · rintro (hn | ⟨k, rfl, hvalid⟩)
      · omega
      · simp_all
  · simp [h, Nat.not_lt.1 h]

theorem State.validClass_of_valid {k : Fin 16} (h : (s.config.classes[k]).valid = true) : s.validClass k = some k := by
  simp_all [State.validClass]

/-- R20: no handle below the lowest free one is free. -/
theorem Table.lowestFree_le {α : Type} {t : Table α} {k w : Nat} (h : t.find w = none) (hk : k ≤ w) : t.lowestFree k ≤ w := by
  induction t generalizing k with
  | nil => exact hk
  | cons e t ih =>
    obtain ⟨j, v⟩ := e
    unfold Table.find at h
    by_cases hj : j = w
    · simp [hj] at h
    · rw [if_neg hj] at h
      unfold Table.lowestFree
      split
      · exact ih h (by omega)
      · split
        · exact ih h hk
        · exact hk

theorem State.freeHandle_full (law : s.StoreLaw) : Config.handles ≤ s.freeHandle ↔ ∀ w < Config.handles, s.wheel w ≠ none := by
  constructor
  · intro h w hw hnone
    have hle : s.freeHandle ≤ w := Table.lowestFree_le hnone (Nat.zero_le w)
    omega
  · intro h
    by_contra hlt
    exact h _ (Nat.not_le.1 hlt) (Table.find_lowestFree law.wheels.1 0)

theorem State.freeHandle_eq (law : s.StoreLaw) {w : Nat} (hw : s.wheel w = none) (hleast : ∀ v < w, s.wheel v ≠ none) : s.freeHandle = w := by
  have hle : s.freeHandle ≤ w := Table.lowestFree_le hw (Nat.zero_le w)
  by_contra hne
  exact hleast s.freeHandle (by omega) (Table.find_lowestFree law.wheels.1 0)

/-- R123: the boards AUTO searches. -/
theorem State.mem_aisleBoards {aisle : Fin 16} {c : Coord} : c ∈ s.aisleBoards aisle ↔
    c.aisle = aisle ∧ c.level.val < s.config.geometry.levels ∧ c.position.val < s.config.geometry.positions := by
  simp only [State.aisleBoards, List.mem_flatMap, List.mem_filterMap, List.mem_range]
  constructor
  · rintro ⟨l, hl, p, hp, hc⟩
    obtain ⟨ha, rfl, rfl, -⟩ := State.boardIn_some hc
    exact ⟨ha, hl, hp⟩
  · rintro ⟨rfl, hl, hp⟩
    exact ⟨_, hl, _, hp, State.boardIn_of_inside hl hp⟩

/-- The place of a board in the order AUTO searches an aisle. -/
def Coord.rank (c : Coord) : Nat := c.level.val * 48 + c.position.val

theorem State.aisleBoards_rising (s : State) (aisle : Fin 16) : (s.aisleBoards aisle).Pairwise (Coord.rank · < Coord.rank ·) := by
  unfold State.aisleBoards
  rw [List.pairwise_flatMap]
  constructor
  · intro l _
    rw [List.pairwise_filterMap]
    refine List.pairwise_lt_range.imp fun {p q} hpq c hc d hd => ?_
    obtain ⟨-, hcl, hcp, -⟩ := State.boardIn_some hc
    obtain ⟨-, hdl, hdp, -⟩ := State.boardIn_some hd
    simp only [Coord.rank]
    omega
  · refine List.pairwise_lt_range.imp fun {l k} hlk c hc d hd => ?_
    obtain ⟨p, -, hc⟩ := List.mem_filterMap.1 hc
    obtain ⟨q, -, hd⟩ := List.mem_filterMap.1 hd
    obtain ⟨-, hcl, -⟩ := State.boardIn_some hc
    obtain ⟨-, hdl, -⟩ := State.boardIn_some hd
    have hposition := c.position.2
    simp only [Coord.rank]
    omega

end

end Sys2Proof.Machine


namespace Sys2Proof.Machine

set_option Elab.async false

section
variable {s : State} {tag : TagId} {batch entry cls : Nat} {slot : SlotChoice} {quarantine : Bool}

theorem State.chooseSlot_granted (s : State) (p : Port) (slot : SlotChoice) : (s.inGrant p).chooseSlot slot = s.chooseSlot slot := by
  have hwindow := s.window_granted p .management
  simp only [State.port, Ports.get] at hwindow
  cases slot with
  | explicit l q =>
    have hboard : (s.inGrant p).sourceBoard l q = s.sourceBoard l q := s.sourceBoard_granted p l q
    have hslot (c : Coord) : (s.inGrant p).slot c = s.slot c := rfl
    simp only [State.chooseSlot, hboard, hslot]
  | auto =>
    unfold State.chooseSlot
    rw [hwindow]
    rfl

theorem State.choiceOutside_granted (s : State) (p : Port) (slot : SlotChoice) :
    (s.inGrant p).choiceOutside slot = s.choiceOutside slot := by
  cases slot with
  | explicit l q => simp only [State.choiceOutside, State.sourceBoard_granted]
  | auto => rfl

/-- R123: the first check of BOOK_IN. -/
theorem State.choiceOutside_iff (law : s.ConfigLaw) (slot : SlotChoice) :
    s.choiceOutside slot = true ↔ ∃ l p, slot = .explicit l p ∧ s.outside l p := by
  cases slot with
  | auto => simp [State.choiceOutside]
  | explicit l p =>
    by_cases h : s.outside l p
    · have hnone : s.sourceBoard l p = none := State.boardIn_of_outside h
      simpa [State.choiceOutside, hnone] using h
    · have hsome : (s.sourceBoard l p).isSome = true := State.boardIn_isSome law _ h
      refine iff_of_false ?_ ?_
      · simpa [State.choiceOutside] using Option.isSome_iff_ne_none.1 hsome
      · rintro ⟨l', p', heq, hout⟩
        cases heq
        exact h hout

/-- R123: an explicit board that is taken is refused, and so is an aisle that is full. -/
theorem State.chooseSlot_none (h : (∃ c : Coord, s.reaches c ∧ slot = .explicit c.level c.position ∧ s.slot c ≠ .empty) ∨
    (slot = .auto ∧ ∀ c : Coord, s.reaches c → s.slot c ≠ .empty)) : s.chooseSlot slot = none := by
  rcases h with ⟨c, ⟨haisle, hl, hp⟩, rfl, htaken⟩ | ⟨rfl, htaken⟩
  · have hboard : s.sourceBoard c.level c.position = some c := by
      have hinside := State.boardIn_of_inside hl hp
      rw [haisle] at hinside
      exact hinside
    simp [State.chooseSlot, hboard, htaken]
  · refine List.find?_eq_none.2 fun c hc => ?_
    simpa using htaken c (State.mem_aisleBoards.1 hc)

/-- R123: the board BOOK_IN chooses. -/
theorem State.chooseSlot_some {c : Coord} (hc : s.reaches c) (hempty : s.slot c = .empty)
    (h : slot = .explicit c.level c.position ∨ (slot = .auto ∧ ∀ d : Coord, s.reaches d → s.slot d = .empty →
      c.level < d.level ∨ (c.level = d.level ∧ c.position ≤ d.position))) : s.chooseSlot slot = some c := by
  rcases h with rfl | ⟨rfl, hleast⟩
  · obtain ⟨haisle, hl, hp⟩ := hc
    have hboard : s.sourceBoard c.level c.position = some c := by
      have hinside := State.boardIn_of_inside hl hp
      rw [haisle] at hinside
      exact hinside
    simp [State.chooseSlot, hboard, hempty]
  · refine find?_of_least (s.aisleBoards_rising _) (State.mem_aisleBoards.2 hc) (by simpa using hempty) fun d hd hdempty => ?_
    have hd' := hleast d (State.mem_aisleBoards.1 hd) (by simpa using hdempty)
    have hposition := c.position.2
    simp only [Coord.rank, Fin.lt_def, Fin.ext_iff, Fin.le_def] at hd' ⊢
    omega

end

/-- Settles O40: the checks of R123 in their order, and what a BOOK_IN makes. -/
theorem bookInIsJudgedAndMade : Obligations.BookInIsJudgedAndMade := by
  unfold Obligations.BookInIsJudgedAndMade
  refine ⟨?_, ?_⟩
  · intro s tag batch entry cls slot quarantine hs hstore hconfig refuses outside badField duplicate full barred
    have hrefuses {code : ResultCode} (h : serveBookIn tag batch entry cls slot quarantine (s.inGrant .management) =
        refuse (s.inGrant .management) code) : refuses code := ⟨_, rfl, request_refused hs rfl h⟩
    have houtside : (s.inGrant .management).choiceOutside slot = true ↔ outside := by
      rw [State.choiceOutside_granted]
      exact State.choiceOutside_iff hconfig slot
    have hclass : (s.inGrant .management).validClass cls = s.validClass cls := rfl
    have hbad : badField ↔ tagIdValid tag = false ∨ s.validClass cls = none := by
      simp only [badField, tagIdValid_eq_false, State.validClass_eq_none, or_assoc]
    have hlookup : (s.inGrant .management).lookup tag = s.lookup tag := rfl
    have hhandle : (s.inGrant .management).freeHandle = s.freeHandle := rfl
    have hwindow : (s.inGrant .management).ports.management.window = s.ports.management.window := s.window_granted .management .management
    have hgeometry : (s.inGrant .management).config = s.config := rfl
    refine ⟨fun h => hrefuses ?_, fun hin hok => ?_⟩
    · by_cases hout : outside
      · simp only [serveBookIn, houtside.2 hout, if_true]
      · have hout' : (s.inGrant .management).choiceOutside slot = false := by simpa using mt houtside.1 hout
        rcases hbad.1 (h.resolve_left hout) with htag | hcls
        · simp only [serveBookIn, hout', htag, Bool.not_false, if_true, Bool.false_eq_true, if_false]
        · simp only [serveBookIn, hout', hclass, hcls, Bool.false_eq_true, ite_self]
    · have hout : (s.inGrant .management).choiceOutside slot = false := by simpa using mt houtside.1 hin
      have htag : tagIdValid tag = true := by
        by_contra htag
        exact hok (hbad.2 (.inl (by simpa using htag)))
      obtain ⟨n, hn⟩ := Option.ne_none_iff_exists'.1 fun hnone => hok (hbad.2 (.inr hnone))
      have hserve : serveBookIn tag batch entry cls slot quarantine (s.inGrant .management) =
          if (s.lookup tag).isSome then refuse (s.inGrant .management) .duplicate
          else if Config.handles ≤ s.freeHandle then refuse (s.inGrant .management) .full
          else if s.config.geometry.quarantine[s.ports.management.window.source] && !quarantine then
            refuse (s.inGrant .management) .notPermitted
          else ((s.chooseSlot slot).map fun c => (s.inGrant .management).book s.freeHandle (newWheel tag batch entry n c quarantine) c).getD
            (refuse (s.inGrant .management) (choiceRefusal slot)) := by
        simp only [serveBookIn, hout, htag, hclass, hn, Bool.not_true, Bool.false_eq_true, if_false, hlookup, hhandle, hwindow, hgeometry,
          State.chooseSlot_granted]
        cases s.chooseSlot slot <;> rfl
      refine ⟨fun hdup => hrefuses ?_, fun hdup => ⟨fun hfull => hrefuses ?_, fun hfull => ⟨fun hbarred => hrefuses ?_, fun hbarred => ⟨fun c hc hslot
        htaken => hrefuses ?_, fun hauto htaken => hrefuses ?_⟩⟩⟩⟩
      · have hheld : (s.lookup tag).isSome = true := Option.isSome_iff_ne_none.2 hdup
        rw [hserve, if_pos hheld]
      all_goals
        have hnew : ¬ (s.lookup tag).isSome = true := fun h => hdup (Option.isSome_iff_ne_none.1 h)
        rw [hserve, if_neg hnew]
      · rw [if_pos ((State.freeHandle_full hstore).2 hfull)]
      all_goals rw [if_neg (mt (State.freeHandle_full hstore).1 hfull)]
      · obtain ⟨hquarantine, rfl⟩ := hbarred
        have haisle : s.config.geometry.quarantine[s.ports.management.window.source] = true := hquarantine
        rw [if_pos (by rw [haisle]; rfl)]
      all_goals
        have hallowed : ¬ (s.config.geometry.quarantine[s.ports.management.window.source] && !quarantine) = true := by
          intro h
          rw [Bool.and_eq_true, Bool.not_eq_true'] at h
          exact hbarred h
        rw [if_neg hallowed]
      · rw [State.chooseSlot_none (.inl ⟨c, hc, hslot, htaken⟩), hslot]
        rfl
      · rw [State.chooseSlot_none (.inr ⟨hauto, htaken⟩), hauto]
        rfl
  · intro s tag batch entry cls slot quarantine w c hs hstore hzero hones hvalid hnew hw hfree hleast hallowed hc hempty hslot x made task b
    have hout : (s.inGrant .management).choiceOutside slot = false := by
      rw [State.choiceOutside_granted]
      rcases hslot with rfl | ⟨rfl, -⟩
      · obtain ⟨haisle, hl, hp⟩ := hc
        have hinside := State.boardIn_of_inside hl hp
        rw [haisle] at hinside
        have hboard : s.sourceBoard c.level c.position = some c := hinside
        simp [State.choiceOutside, hboard]
      · rfl
    have htag : tagIdValid tag = true := by
      by_contra h
      exact ((tagIdValid_eq_false tag).1 (by simpa using h)).elim hzero hones
    have hclass : (s.inGrant .management).validClass cls = some cls := State.validClass_of_valid (s := s.inGrant .management) hvalid
    have hlookup : (s.inGrant .management).lookup tag = none := hnew
    have hhandle : (s.inGrant .management).freeHandle = w := State.freeHandle_eq (s := s) hstore hfree hleast
    have hwindow : (s.inGrant .management).ports.management.window = s.ports.management.window := s.window_granted .management .management
    have hbarred : ((s.inGrant .management).config.geometry.quarantine[(s.inGrant .management).ports.management.window.source] &&
        !quarantine) = false := by
      simp only [hwindow, Bool.and_eq_false_iff, Bool.not_eq_false']
      by_cases h : s.config.geometry.quarantine[s.ports.management.window.source] = true
      · exact .inr (hallowed h)
      · exact .inl (by simpa using h)
    have hserve : serveBookIn tag batch entry cls slot quarantine (s.inGrant .management) =
        (s.inGrant .management).book w x c := by
      simp only [serveBookIn, hout, htag, hclass, hlookup, hhandle, hbarred, State.chooseSlot_granted, State.chooseSlot_some hc hempty hslot,
        Bool.not_true, Bool.false_eq_true, if_false, Option.isSome_none, Nat.not_le.2 hw]
      rfl
    have hmade : (s.createWheel w x).setSlot c (.reserved .destination w) = made := by
      simp [State.setSlot, State.createWheel, made, x]
    have hfound : made.wheel w = some x := by simp [State.wheel, made]
    have hoffers := request_offers (u := ((s.inGrant .management).createWheel w x).setSlot c (.reserved .destination w)) (m := made)
      (b := fun queued => .booked w c queued) hs (k := .bookIn) rfl hserve (hmade ▸
        ((SameInside.granted s .management).createWheel w x).setSlot c _) (Emits.silent rfl rfl) hfound rfl (task := task) rfl
    exact ⟨fun u n hu => ⟨_, rfl, hoffers.1 u n hu⟩, fun hnone => ⟨_, rfl, hoffers.2 hnone⟩⟩

end Sys2Proof.Machine


namespace Sys2Proof.Machine

set_option Elab.async false

section
variable {s : State} {w : Nat} {x : Wheel}

/-! ## RELOCATE -/

/-- R11: a board the window reaches, in the grant of a management request. -/
theorem State.sourceBoard_reached {c : Coord} (h : s.reaches c) : (s.inGrant .management).sourceBoard c.level c.position = some c := by
  obtain ⟨haisle, hl, hp⟩ := h
  have hinside := State.boardIn_of_inside hl hp
  rw [haisle] at hinside
  exact (s.sourceBoard_granted .management c.level c.position).trans hinside

/-- R125: the destination of a RELOCATE lies in the destination aisle. -/
theorem State.destinationBoard_reached {d : Coord} (haisle : d.aisle = (s.port .management).window.destination)
    (hl : d.level.val < s.config.geometry.levels) (hp : d.position.val < s.config.geometry.positions) :
    (s.inGrant .management).boardIn (s.inGrant .management).ports.management.window.destination d.level d.position = some d := by
  have hwindow : (s.inGrant .management).ports.management.window = s.ports.management.window := s.window_granted .management .management
  have hinside := State.boardIn_of_inside (s := s.inGrant .management) (c := d) hl hp
  rw [haisle] at hinside
  rw [hwindow]
  exact hinside

/-- R125: the boards named decide what a RELOCATE works on. -/
theorem serveRelocate_of_boards {a d : Coord} (ha : s.reaches a) (haisle : d.aisle = (s.port .management).window.destination)
    (hl : d.level.val < s.config.geometry.levels) (hp : d.position.val < s.config.geometry.positions) :
    serveRelocate a.level a.position d.level d.position (s.inGrant .management) =
      match s.slot a with
      | .occupied w => (s.inGrant .management).relocate w d
      | _ => refuse (s.inGrant .management) .state := by
  unfold serveRelocate
  rw [State.sourceBoard_reached ha, State.destinationBoard_reached haisle hl hp]
  rfl

theorem serveRelocate_outside {sl sp dl dp : Nat} (h : s.outside sl sp ∨ s.outside dl dp) :
    serveRelocate sl sp dl dp (s.inGrant .management) = refuse (s.inGrant .management) .badField := by
  unfold serveRelocate
  rcases h with h | h
  · have hnone : (s.inGrant .management).sourceBoard sl sp = none :=
      (s.sourceBoard_granted .management sl sp).trans (State.boardIn_of_outside h)
    rw [hnone]
  · have hnone (aisle : Fin 16) : (s.inGrant .management).boardIn aisle dl dp = none :=
      State.boardIn_of_outside (s := s.inGrant .management) h
    rw [hnone]
    cases (s.inGrant .management).sourceBoard sl sp <;> rfl

theorem State.relocate_busy {d : Coord} (hx : s.wheel w = some x) (h : x.intent ≠ none ∨ s.slot d ≠ .empty) :
    s.relocate w d = refuse s .state := by
  simp only [State.relocate, hx]
  rcases h with hintent | hfull
  · rw [if_pos (Option.isSome_iff_ne_none.2 hintent)]
  · simp only [hfull, ne_eq, not_false_iff, if_true, ite_self]

theorem State.relocate_barred {d : Coord} (hx : s.wheel w = some x) (hnone : x.intent = none) (hempty : s.slot d = .empty)
    (h : s.quarantined d = true ∧ x.hold ≠ .quarantine) : s.relocate w d = refuse s .notPermitted := by
  simp only [State.relocate, hx, hnone]
  rw [if_neg (by simp), if_neg (by simpa using hempty), if_pos h]

/-- R125: a RELOCATE that passes its checks makes a MOVE intent, reserves its destination and offers the MOVE. -/
theorem State.relocate_taken {d : Coord} (hx : s.wheel w = some x) (hnone : x.intent = none) (hempty : s.slot d = .empty)
    (h : ¬ (s.quarantined d = true ∧ x.hold ≠ .quarantine)) : s.relocate w d = accept
      (((s.setIntent w (some (newIntent .move (.slot d)))).setSlot d (.reserved .destination w)).offerMovement w).1
      (.moving w (((s.setIntent w (some (newIntent .move (.slot d)))).setSlot d (.reserved .destination w)).offerMovement w).2) := by
  simp only [State.relocate, hx, hnone]
  rw [if_neg (by simp), if_neg (by simpa using hempty), if_neg h]
  rfl

theorem Emits.startedMove (s : State) (w : Nat) (i : Intent) (d : Coord) (e : SlotEntry) :
    Emits s ((s.setIntent w (some i)).setSlot d e) [] := silent rfl rfl

/-! ## BOOK_OUT -/

theorem State.freeDestination_slots_congr {u : State} (h : u.slots = s.slots) (w : Nat) (i : Intent) :
    (u.freeDestination w i).slots = (s.freeDestination w i).slots := by
  have hslot (c : Coord) : u.slot c = s.slot c := by
    unfold State.slot
    rw [h]
  unfold State.freeDestination State.freeReserved
  cases i.destination with
  | infeed => exact h
  | outfeed => exact h
  | slot d =>
    dsimp only
    rw [hslot]
    split
    · rw [State.setSlot_slots, State.setSlot_slots, h]
    · exact h

/-- A withdrawal keeps every record but for its marks. -/
theorem State.wheel_withdrawWhere_some (p : TaskRecord → Bool) (hx : s.wheel w = some x) :
    ∃ flip brush move, (s.withdrawWhere p).wheel w = some { x with flipMark := flip, brushMark := brush, moveMark := move } := by
  rw [State.wheel_withdrawWhere, hx, Option.map_some, Wheel.mark_all]
  exact ⟨_, _, _, rfl⟩

/-- R126: the slots once the reservation of a wheel's intent, if any, has been released. -/
def State.slotsWithout (s : State) (w : Nat) (x : Wheel) : Table SlotEntry :=
  match x.intent with
  | some i => (s.freeDestination w i).slots
  | none => s.slots

theorem State.deleteWheel_of_some (hx : s.wheel w = some x) :
    s.deleteWheel w = { s with wheels := s.wheels.drop w, tags := s.tags.drop x.tag.toNat } := by
  unfold State.deleteWheel
  rw [hx]

/-- R126: a wheel booked out at the infeed. -/
theorem State.bookOutInfeed_eq (hx : s.wheel w = some x) : s.bookOutInfeed w = { s.withdrawMovement w with
    wheels := (s.withdrawMovement w).wheels.drop w, tags := s.tags.drop x.tag.toNat, slots := s.slotsWithout w x } := by
  obtain ⟨flip, brush, move, hfound⟩ := State.wheel_withdrawWhere_some (fun t => t.isMovement && t.names w) hx
  have hslots : (s.withdrawMovement w).slots = s.slots := State.withdrawWhere_slots s _
  have htags : (s.withdrawMovement w).tags = s.tags := State.withdrawWhere_tags s _
  have hwheel : (s.withdrawMovement w).wheel w = some { x with flipMark := flip, brushMark := brush, moveMark := move } := hfound
  have hbind : (s.wheel w).bind Wheel.intent = x.intent := by rw [hx, Option.bind_some]
  unfold State.bookOutInfeed State.slotsWithout
  rw [hbind, ← htags]
  cases x.intent with
  | none =>
    dsimp only
    rw [State.deleteWheel_of_some hwheel, ← hslots]
  | some i =>
    dsimp only
    have hfreed : ((s.withdrawMovement w).freeDestination w i).wheel w =
        some { x with flipMark := flip, brushMark := brush, moveMark := move } := by
      rw [← hwheel]
      unfold State.wheel
      rw [State.freeDestination_wheels]
    rw [State.deleteWheel_of_some hfreed, ← State.freeDestination_slots_congr hslots w i, State.freeDestination_frame]

theorem SameInside.bookOutInfeed {t : State} (h : SameInside s t) (w : Nat) : SameInside (s.bookOutInfeed w) (t.bookOutInfeed w) := by
  unfold State.bookOutInfeed
  rw [h.wheel w]
  have hwithdrawn : SameInside (s.withdrawMovement w) (t.withdrawMovement w) := h.withdrawWhere _
  cases (t.wheel w).bind Wheel.intent with
  | none => exact hwithdrawn.deleteWheel w
  | some i => exact (hwithdrawn.freeDestination w i).deleteWheel w

theorem State.outNames_eq_false_iff {s : State} {w : Nat} :
    s.outNames w = false ↔ ∀ v ∈ s.tasks, v.wheel = some w → v.queued = true := by
  unfold State.outNames TaskRecord.names
  simp only [List.any_eq_false, Bool.and_eq_true, Bool.not_eq_true', beq_iff_eq, not_and]
  exact forall₂_congr fun v _ => ⟨fun h hw => by by_contra hq; exact h (by simpa using hq) hw, fun h hq hw => by simp [h hw] at hq⟩

/-- R126: a wheel that may be booked out at the infeed. -/
theorem State.placeOrNone_iff {s : State} {x : Wheel} {w : Nat} : (x.placeOrNone && !s.outNames w) = true ↔
    (∀ i, x.intent = some i → i.kind = .place) ∧ ∀ v ∈ s.tasks, v.wheel = some w → v.queued = true := by
  have hplace : x.placeOrNone = true ↔ ∀ i, x.intent = some i → i.kind = .place := by
    unfold Wheel.placeOrNone
    cases x.intent with
    | none => simp
    | some i => simp
  rw [Bool.and_eq_true, Bool.not_eq_true', hplace, State.outNames_eq_false_iff]

end

/-- Settles O41: RELOCATE by the board and the wheel on it, BOOK_OUT by the wheel's place. -/
theorem relocateAndBookOut : Obligations.RelocateAndBookOut := by
  unfold Obligations.RelocateAndBookOut
  refine ⟨?_, ?_⟩
  · intro s a d hs ha haisle hl hp c refuses
    have hserve := serveRelocate_of_boards ha haisle hl hp
    have hrefuses {code : ResultCode} (h : serveRelocate a.level a.position d.level d.position (s.inGrant .management) =
        refuse (s.inGrant .management) code) : refuses code := ⟨_, rfl, request_refused hs rfl h⟩
    refine ⟨fun sl sp dl dp hout => ⟨_, rfl, request_refused hs rfl (serveRelocate_outside hout)⟩, fun hfree => hrefuses ?_,
      fun w x hslot hx => ?_⟩
    · rw [hserve]
      split
      · exact absurd ‹_› (hfree _)
      · rfl
    · rw [hslot] at hserve
      intro barred
      refine ⟨fun hbusy => hrefuses (hserve.trans ?_), fun hnone hempty hbarred => hrefuses (hserve.trans ?_),
        fun l hnone hempty hallowed hat => ?_⟩
      · exact State.relocate_busy (s := s.inGrant .management) hx hbusy
      · exact State.relocate_barred (s := s.inGrant .management) hx hnone hempty hbarred
      · intro i made task
        have hmove := State.relocate_taken (s := s.inGrant .management) (d := d) hx hnone hempty hallowed
        have hfound : made.wheel w = some { x with intent := some i } := by
          have hchanged := State.wheel_changeWheel s w w fun y => { y with intent := some i }
          rw [if_pos rfl, hx] at hchanged
          exact hchanged
        have hoffers := request_offers (m := made) (b := fun queued => .moving w queued) hs (k := .relocate) rfl (hserve.trans hmove)
          (((SameInside.granted s .management).changeWheel w _).setSlot d _) (Emits.startedMove _ _ _ _ _) hfound rfl (task := task) (by
            simp only [State.movementTask, Intent.place, hat, task]
            rfl)
        exact ⟨fun u n hu => ⟨_, rfl, hoffers.1 u n hu⟩, fun hnone => ⟨_, rfl, hoffers.2 hnone⟩⟩
  · intro s w hs c refuses
    have hrefuses {code : ResultCode} (h : serveBookOut w (s.inGrant .management) = refuse (s.inGrant .management) code) : refuses code :=
      ⟨_, rfl, request_refused hs rfl h⟩
    refine ⟨fun hw => hrefuses (State.onWheel_of_above hw _), fun hw hx => hrefuses (State.onWheel_of_none (s := s.inGrant .management) hw hx _),
      fun x hw hx => ?_⟩
    intro free
    have hserve := State.onWheel_of_some (s := s.inGrant .management) hw hx
    have hfree : (x.placeOrNone && !(s.inGrant .management).outNames w) = true ↔ free := State.placeOrNone_iff (s := s.inGrant .management)
    refine ⟨fun hat hmay => ?_, fun hat hmay => hrefuses ((hserve _).trans ?_), fun l hat hslot hnone => ?_,
      fun l hat hbusy => hrefuses ((hserve _).trans ?_), fun hat => hrefuses ((hserve _).trans ?_)⟩
    · have htaken : serveBookOut w (s.inGrant .management) = accept ((s.inGrant .management).bookOutInfeed w) .deleted := by
        refine (hserve _).trans ?_
        rw [hat]
        exact if_pos (hfree.2 hmay)
      have hsilent : Emits (s.inGrant .management) ((s.inGrant .management).bookOutInfeed w) [] := by
        rw [State.bookOutInfeed_eq (s := s.inGrant .management) hx]
        exact Emits.silent (State.withdrawMovement_ports _ w) (State.withdrawMovement_arbiter _ w)
      have hbooked := request_emits hs (k := .bookOut) rfl htaken ((SameInside.granted s .management).bookOutInfeed w) hsilent
      rw [State.bookOutInfeed_eq hx] at hbooked
      intro v slots
      have hslots : s.slotsWithout w x = slots := by
        unfold State.slotsWithout State.freeDestination State.freeReserved
        simp only [slots]
        cases x.intent with
        | none => rfl
        | some i => cases i.destination <;> rfl
      rw [hslots] at hbooked
      exact ⟨_, rfl, hbooked⟩
    · rw [hat]
      exact if_neg (mt hfree.1 hmay)
    · intro i made task
      obtain ⟨y, hslot⟩ := hslot
      have htaken : serveBookOut w (s.inGrant .management) = accept (((s.inGrant .management).setIntent w (some i)).offerMovement w).1
          (.removePending (((s.inGrant .management).setIntent w (some i)).offerMovement w).2) := by
        refine (hserve _).trans ?_
        have hoccupied : ((s.inGrant .management).slot l).isOccupied = true := by
          rw [show (s.inGrant .management).slot l = .occupied y from hslot]
          rfl
        rw [hat]
        exact if_pos (by rw [hoccupied, hnone]; rfl)
      have hfound : made.wheel w = some { x with intent := some i } := by
        have hchanged := State.wheel_changeWheel s w w fun y => { y with intent := some i }
        rw [if_pos rfl, hx] at hchanged
        exact hchanged
      have hoffers := request_offers (m := made) (b := fun queued => .removePending queued) hs (k := .bookOut) rfl htaken
        ((SameInside.granted s .management).changeWheel w _) (Emits.silent rfl rfl) hfound rfl (task := task) (by
          simp only [State.movementTask, Intent.place, hat, task]
          rfl)
      exact ⟨fun u n hu => ⟨_, rfl, hoffers.1 u n hu⟩, fun hnone => ⟨_, rfl, hoffers.2 hnone⟩⟩
    · rw [hat]
      refine if_neg fun h => ?_
      obtain ⟨hoccupied, hnone⟩ := Bool.and_eq_true_iff.1 h
      rcases hbusy with hslot | hintent
      · have hslot' : (s.slot l).isOccupied = true := hoccupied
        unfold SlotEntry.isOccupied at hslot'
        split at hslot'
        · exact hslot _ ‹_›
        · cases hslot'
      · exact hintent (Option.isNone_iff_eq_none.1 hnone)
    · rcases hat with hat | hat <;> rw [hat]

end Sys2Proof.Machine


namespace Sys2Proof.Machine

set_option Elab.async false

section
variable {s : State} {w : Nat} {x : Wheel} {v : TaskRecord}

/-! ## ABORT_TASK -/

/-- R88: a task of the list, under its number. -/
theorem serveAbortTask_of_mem (law : s.TaskLaw) (hv : v ∈ s.tasks) : serveAbortTask v.number s =
    if v.state = .aborting then accept s (.aborted v.kind v.wheel .aborting)
    else if v.phase = some .carried then refuse s .state
    else if v.queued then accept (s.abortQueued v) (.aborted v.kind v.wheel .withdrawn)
    else accept (s.requestAbort v.number) (.aborted v.kind v.wheel .aborting) := by
  have htask : s.task ⟨v.number.val, v.number.isLt⟩ = some v := State.task_of_mem law.numbers hv
  rw [serveAbortTask, dif_pos v.number.isLt, htask]

theorem serveAbortTask_above {n : Nat} (h : 64 ≤ n) : serveAbortTask n s = refuse s .badField := dif_neg (Nat.not_lt.2 h)

theorem serveAbortTask_free {n : Fin 64} (h : ∀ v ∈ s.tasks, v.number ≠ n) : serveAbortTask n s = refuse s .notFound := by
  have hnone : s.task ⟨n.val, n.isLt⟩ = none := List.find?_eq_none.2 fun v hv => by simpa using h v hv
  rw [serveAbortTask, dif_pos n.isLt, hnone]

theorem Emits.requestAbort (s : State) (n : Fin 64) : Emits s (s.requestAbort n) [(.robot, .abortRequested)] :=
  (silent rfl rfl : Emits s (s.changeTask n fun t => { t with state := .aborting }) []).trans (raise _ _ _)

theorem SameInside.requestAbort {t : State} (h : SameInside s t) (n : Fin 64) :
    SameInside (s.requestAbort n) (t.changeTask n fun t => { t with state := .aborting }) := (h.changeTask n _).raise_left _ _

theorem State.abortQueued_plain (h : v.isMovement = false) : s.abortQueued v = s.withdraw v.number := by
  simp [State.abortQueued, h]

theorem State.abortQueued_movement (h : v.isMovement = true) (hw : v.wheel = some w) :
    s.abortQueued v = (s.withdraw v.number).endIntent w .cancelled := by
  simp [State.abortQueued, h, hw]

/-! ## CANCEL_MOVE -/

/-- R127: the wheel's movement task that is out. -/
theorem State.movementOut_eq_none (h : ∀ v ∈ s.tasks, v.isMovement = true → v.wheel = some w → v.queued = true) :
    (s.tasks.find? fun t => t.isMovement && t.names w && !t.queued) = none := by
  refine List.find?_eq_none.2 fun v hv hout => ?_
  simp only [TaskRecord.names, Bool.and_eq_true, Bool.not_eq_true', beq_iff_eq] at hout
  rw [h v hv hout.1.1 hout.1.2] at hout
  simp at hout

theorem State.movementOut_eq_some (law : s.TaskLaw) (hv : v ∈ s.tasks) (hmove : v.isMovement = true) (hw : v.wheel = some w)
    (hq : v.queued = false) : (s.tasks.find? fun t => t.isMovement && t.names w && !t.queued) = some v := by
  have hsome : (s.tasks.find? fun t => t.isMovement && t.names w && !t.queued).isSome = true :=
    List.find?_isSome.2 ⟨v, hv, by simp [hmove, TaskRecord.names, hw, hq]⟩
  obtain ⟨y, hy⟩ := Option.isSome_iff_exists.1 hsome
  have hout := List.find?_some hy
  simp only [Bool.and_eq_true, Bool.not_eq_true'] at hout
  have hsame := State.out_of_mem law.oneOut (List.mem_of_find?_eq_some hy) hout.2
  rw [State.out_of_mem law.oneOut hv hq] at hsame
  cases hsame
  exact hy

theorem serveCancelMove_carried {i : Intent} (hw : w < Config.handles) (hx : s.wheel w = some x) (hi : x.intent = some i)
    (hphase : i.phase = .carried) : serveCancelMove w s = refuse s .state := by
  refine (State.onWheel_of_some hw hx _).trans ?_
  rw [hi]
  exact if_pos hphase

theorem serveCancelMove_unmoved (hw : w < Config.handles) (hx : s.wheel w = some x) (hi : x.intent = none) :
    serveCancelMove w s = refuse s .state := by
  refine (State.onWheel_of_some hw hx _).trans ?_
  rw [hi]

/-- R88, R127: the wheel's movement is out. -/
theorem serveCancelMove_out {i : Intent} (hw : w < Config.handles) (hx : s.wheel w = some x) (hi : x.intent = some i)
    (hphase : i.phase = .beforePick) (hout : (s.tasks.find? fun t => t.isMovement && t.names w && !t.queued) = some v) :
    serveCancelMove w s =
      if v.state = .aborting then accept s .moveAborting else accept (s.requestAbort v.number) .moveAborting := by
  refine (State.onWheel_of_some hw hx _).trans ?_
  rw [hi]
  refine (if_neg (by simp [hphase])).trans ?_
  rw [hout]

/-- R127: the wheel's movement is not out. -/
theorem serveCancelMove_waiting {i : Intent} (hw : w < Config.handles) (hx : s.wheel w = some x) (hi : x.intent = some i)
    (hphase : i.phase = .beforePick) (hout : (s.tasks.find? fun t => t.isMovement && t.names w && !t.queued) = none) :
    serveCancelMove w s = accept (s.cancelMove w) .moveCancelled := by
  refine (State.onWheel_of_some hw hx _).trans ?_
  rw [hi]
  refine (if_neg (by simp [hphase])).trans ?_
  rw [hout]

/-- R127: a movement cancelled before the pick. -/
theorem State.cancelMove_eq {i : Intent} (hx : s.wheel w = some x) (hi : x.intent = some i) : s.cancelMove w =
    ((s.withdrawMovement w).freeDestination w i).changeWheel w fun y => { y with intent := none, lastOutcome := some .cancelled } := by
  obtain ⟨flip, brush, move, hfound⟩ := State.wheel_withdrawWhere_some (fun t => t.isMovement && t.names w) hx
  have hbind : ((s.withdrawMovement w).wheel w).bind Wheel.intent = some i := by
    rw [State.withdrawMovement, hfound, Option.bind_some, hi]
  unfold State.cancelMove State.endIntent
  rw [hbind]

end

/-- Settles O28: the five requests, by their tables. -/
theorem managementSteersTheRobot : Obligations.ManagementSteersTheRobot := by
  unfold Obligations.ManagementSteersTheRobot
  refine ⟨fun s hs law => ?abort, fun s w hs => ?noWheel, fun s w x hs hw hx => ?cancel, fun s hs => ?dispatch, fun s hs => ?halt⟩
  case abort =>
    have hlaw : (s.inGrant .management).TaskLaw := law.aside
    refine ⟨fun n hn => ⟨_, rfl, request_refused hs rfl (serveAbortTask_above hn)⟩,
      fun n hn => ⟨_, rfl, request_refused hs rfl (serveAbortTask_free (s := s.inGrant .management) hn)⟩, fun v hv => ?_⟩
    have hserve := serveAbortTask_of_mem hlaw hv
    refine ⟨fun hnot hcarried => ⟨_, rfl, request_refused hs rfl ?_⟩, fun ha => ⟨_, rfl, request_emits hs rfl ?_ (SameInside.granted s .management)
      (Emits.refl _)⟩, fun hi hnot => ⟨_, rfl, request_emits hs rfl ?_ ((SameInside.granted s .management).requestAbort _) (Emits.requestAbort _ _)⟩,
      fun hq hmove hnot => ⟨_, rfl, request_emits hs rfl ?_ ((SameInside.granted s .management).withdrawWhere _)
        (Emits.silent (State.withdrawWhere_ports _ _) (State.withdrawWhere_arbiter _ _))⟩, fun w hq hmove hnot hw => ⟨_, rfl,
        request_emits hs rfl ?_ (((SameInside.granted s .management).withdrawWhere _).endIntent w _) ?_⟩⟩
    · rw [hserve, if_neg hnot, if_pos hcarried]
    · rw [hserve, if_pos ha]
      rfl
    · rw [hserve, if_neg (by simp [hi]), if_neg hnot, if_neg (by simp [TaskRecord.queued, hi])]
      rfl
    · rw [hserve, if_neg (by simp [hq]), if_neg hnot, if_pos (by simp [TaskRecord.queued, hq]), State.abortQueued_plain hmove]
      rfl
    · rw [hserve, if_neg (by simp [hq]), if_neg hnot, if_pos (by simp [TaskRecord.queued, hq]), State.abortQueued_movement hmove hw]
      rfl
    · exact Emits.silent
  case noWheel =>
    exact ⟨fun hw => ⟨_, rfl, request_refused hs rfl (State.onWheel_of_above hw _)⟩,
      fun hw hx => ⟨_, rfl, request_refused hs rfl (State.onWheel_of_none (s := s.inGrant .management) hw hx _)⟩⟩
  case cancel =>
    have hcurrent : (s.inGrant .management).wheel w = some x := hx
    refine ⟨fun hnone => ⟨_, rfl, request_refused hs rfl (serveCancelMove_unmoved hw hcurrent hnone)⟩, fun i hi => ⟨fun hphase =>
      ⟨_, rfl, request_refused hs rfl (serveCancelMove_carried hw hcurrent hi hphase)⟩, fun hphase hwaits => ?_,
      fun v law hphase hv hmove hvw => ⟨fun hissued => ?_, fun haborting => ?_⟩⟩⟩
    · intro v freed
      have hserve := serveCancelMove_waiting hw hcurrent hi hphase (State.movementOut_eq_none (s := s.inGrant .management) hwaits)
      have hsame : SameInside ((s.inGrant .management).cancelMove w) (s.cancelMove w) :=
        ((SameInside.granted s .management).withdrawWhere _).endIntent w _
      have hfreed : (s.withdrawMovement w).freeDestination w i = freed := by
        have hslot (d : Coord) : (s.withdrawMovement w).slot d = s.slot d := by
          unfold State.slot State.withdrawMovement
          rw [State.withdrawWhere_slots]
        simp only [State.freeDestination, State.freeReserved, hslot, freed]
        cases i.destination <;> rfl
      rw [State.cancelMove_eq hx hi, hfreed] at hsame
      exact ⟨_, rfl, request_emits hs rfl hserve hsame
        (Emits.silent (by simp [State.cancelMove, State.withdrawMovement]) (by simp [State.cancelMove, State.withdrawMovement]))⟩
    · have hout := State.movementOut_eq_some law hv hmove hvw (TaskRecord.queued_of_issued hissued)
      have hserve := serveCancelMove_out hw hcurrent hi hphase hout
      rw [if_neg (by simp [hissued])] at hserve
      exact ⟨_, rfl, request_emits hs rfl hserve ((SameInside.granted s _).requestAbort _) (Emits.requestAbort _ _)⟩
    · have hout := State.movementOut_eq_some law hv hmove hvw (TaskRecord.queued_of_aborting haborting)
      have hserve := serveCancelMove_out hw hcurrent hi hphase hout
      rw [if_pos haborting] at hserve
      exact ⟨_, rfl, request_emits hs rfl hserve (SameInside.granted s _) (Emits.refl _)⟩
  case dispatch =>
    have hpaused (b : Bool) := (SameInside.granted s .management).map fun u => u.setPaused b
    refine ⟨⟨_, rfl, request_emits hs rfl rfl (hpaused true) (Emits.silent rfl rfl)⟩, ?_⟩
    intro u
    have hsilent : Emits (s.inGrant .management) ((s.inGrant .management).setPaused false) [] := Emits.silent rfl rfl
    have hresumed := request_emits hs (k := .resumeDispatch) (effect := serveResumeDispatch) rfl rfl ((hpaused false).testIf_left _)
      (hsilent.trans (Emits.testIf _ s.dispatch.paused))
    rw [State.availableNow_congr (hpaused false).inside] at hresumed
    exact ⟨_, rfl, hresumed⟩
  case halt =>
    exact ⟨fun hl => ⟨_, rfl, request_emits (e := { s with link := { s.link with state := .unhomed, faults := 0, position := none } })
      hs rfl (if_pos hl) ((SameInside.granted s .management).setLink fun l =>
        { l with state := .unhomed, faults := 0, position := none }) (Emits.silent rfl rfl)⟩,
      fun hl => ⟨_, rfl, request_refused hs rfl (if_neg hl)⟩⟩

end Sys2Proof.Machine


namespace Sys2Proof.Machine

set_option Elab.async false

section
variable {s t u : State} {w : Nat} {x : Wheel}

/-! ## Wheels taken off their boards -/

theorem State.freeDestination_changeWheel (s : State) (w v : Nat) (i : Intent) (f : Wheel → Wheel) :
    (s.changeWheel v f).freeDestination w i = (s.freeDestination w i).changeWheel v f := by
  unfold State.freeDestination State.freeReserved
  cases i.destination with
  | infeed => rfl
  | outfeed => rfl
  | slot d =>
    dsimp only
    rw [show (s.changeWheel v f).slot d = s.slot d from rfl]
    split <;> rfl

/-- R149: what a resolution makes of a wheel taken off its board, by the record it finds. -/
def State.released (u : State) (y : Option Wheel) (v : Nat) : State :=
  match y with
  | none => u
  | some y => match y.intent with
    | some i => if i.phase = .beforePick ∧ (i.kind = .move ∨ i.kind = .remove) then
        (match i.destination with
          | .slot d => if u.slot d = SlotEntry.reserved .destination v then u.setSlot d .empty else u
          | _ => u).changeWheel v fun z => { z with location := .unknown, intent := none, lastOutcome := some .cancelled }
      else u.changeWheel v fun z => { z with location := .unknown }
    | none => u.changeWheel v fun z => { z with location := .unknown }

theorem Intent.releasable_iff (i : Intent) : i.releasable = true ↔ i.phase = .beforePick ∧ (i.kind = .move ∨ i.kind = .remove) := by
  simp [Intent.releasable]

theorem State.releaseWheel_eq (h : (s.wheel w).map Wheel.intent = (u.wheel w).map Wheel.intent) :
    u.releaseWheel w = u.released (s.wheel w) w := by
  unfold State.releaseWheel State.released
  cases hx : s.wheel w with
  | none =>
    have hnone : u.wheel w = none := by simpa [hx] using h.symm
    rw [hnone]
    exact State.changeWheel_self fun y hy => by rw [hnone] at hy; cases hy
  | some y =>
    obtain ⟨z, hz, hintent⟩ : ∃ z, u.wheel w = some z ∧ z.intent = y.intent := by
      simpa [hx, eq_comm] using h
    rw [hz, Option.bind_some, hintent]
    dsimp only
    cases hi : y.intent with
    | none => rfl
    | some i =>
      dsimp only
      by_cases hrelease : i.releasable = true
      · have hbind : ((u.changeWheel w fun x => { x with location := .unknown }).wheel w).bind Wheel.intent = some i := by
          rw [State.wheel_changeWheel, if_pos rfl, hz, Option.map_some, Option.bind_some, hintent, hi]
        rw [if_pos hrelease, if_pos ((Intent.releasable_iff i).1 hrelease), State.endIntent, hbind]
        dsimp only
        rw [State.freeDestination_changeWheel, State.changeWheel_changeWheel]
        rfl
      · rw [if_neg hrelease, if_neg (mt (Intent.releasable_iff i).2 hrelease)]

theorem State.releaseWheel_keeps (s : State) (w : Nat) : (s.releaseWheel w).ports = s.ports ∧ (s.releaseWheel w).arbiter = s.arbiter ∧
    (s.releaseWheel w).clock = s.clock := by
  unfold State.releaseWheel
  dsimp only
  split
  · split <;> simp
  · simp

theorem SameInside.vacate (h : SameInside s t) (w : Nat) (x : Wheel) : SameInside (s.vacate w x) (t.vacate w x) := by
  unfold State.vacate
  cases x.location with
  | inSlot b => exact SameInside.setSlot (h.withdrawWhere _) b _
  | atInfeed => exact h
  | inGripper => exact h
  | unknown => exact h

theorem State.vacate_keeps (s : State) (w : Nat) (x : Wheel) : (s.vacate w x).ports = s.ports ∧ (s.vacate w x).arbiter = s.arbiter ∧
    (s.vacate w x).clock = s.clock := by
  unfold State.vacate
  split <;> simp [State.withdrawCare]

theorem State.vacate_intent (s : State) (w : Nat) (x : Wheel) (v : Nat) :
    (s.wheel v).map Wheel.intent = ((s.vacate w x).wheel v).map Wheel.intent := by
  unfold State.vacate
  split
  · show _ = ((s.withdrawCare w).wheel v).map Wheel.intent
    unfold State.withdrawCare
    rw [State.wheel_withdrawWhere, Option.map_map]
    refine congrArg (fun f => (s.wheel v).map f) (funext fun y => ?_)
    rw [Function.comp_apply, Wheel.mark_all]
  · rfl

/-- R149, R150: a wheel displaced, if any. -/
def State.displace (s : State) (o : Option Nat) : State :=
  match o with
  | some v => s.releaseWheel v
  | none => s

theorem SameInside.displace (h : SameInside s t) (o : Option Nat) : SameInside (s.displace o) (t.displace o) := by
  cases o with
  | none => exact h
  | some v => exact h.releaseWheel v

theorem State.displace_keeps (s : State) (o : Option Nat) : (s.displace o).ports = s.ports ∧ (s.displace o).arbiter = s.arbiter ∧
    (s.displace o).clock = s.clock := by
  cases o with
  | none => exact ⟨rfl, rfl, rfl⟩
  | some v => exact s.releaseWheel_keeps v

theorem State.assignable_iff : s.assignable w x = true ↔ (x.location = .unknown ∨ ∃ b, x.location = .inSlot b) ∧ x.intent = none ∧
    ∀ v ∈ s.tasks, v.wheel = some w → v.queued = true := by
  have hout : (!(s.tasks.any fun t => !t.queued && t.names w)) = true ↔ ∀ v ∈ s.tasks, v.wheel = some w → v.queued = true := by
    rw [Bool.not_eq_true']
    exact State.outNames_eq_false_iff
  unfold State.assignable
  rw [Bool.and_eq_true, Bool.and_eq_true, hout, Option.isNone_iff_eq_none]
  cases x.location <;> simp

theorem SlotEntry.assignable_iff (e : SlotEntry) : e.assignable = true ↔ e = .empty ∨ ∃ v, e = .suspect v := by
  cases e <;> simp [SlotEntry.assignable]

/-- R150: the assignment of a wheel to a board that another wheel, or none, held in doubt. -/
theorem State.assignTo_other {c : Coord} (h : s.slot c ≠ .suspect (some w)) : s.assignTo c w x =
    accept (((s.vacate w x).displace (s.slot c).displaced).placeIn w c) (.assigned w (s.slot c).displaced) := if_neg h

section
variable {c : Coord} {tag : TagId}

theorem State.assign_closed (h : ¬ (s.slot c = .empty ∨ ∃ v, s.slot c = .suspect v)) : s.assign c tag = refuse s .state := by
  refine if_pos ?_
  rw [Bool.not_eq_true']
  simpa using mt (SlotEntry.assignable_iff _).1 h

theorem State.assign_unknown (h : s.slot c = .empty ∨ ∃ v, s.slot c = .suspect v) (htag : s.lookup tag = none) :
    s.assign c tag = refuse s .notFound := by
  unfold State.assign
  rw [(SlotEntry.assignable_iff _).2 h, htag]
  rfl

/-- R150: the wheel of the tag assigned decides. -/
theorem State.assign_known (h : s.slot c = .empty ∨ ∃ v, s.slot c = .suspect v) (htag : s.lookup tag = some w) (hx : s.wheel w = some x) :
    s.assign c tag =
      if !s.assignable w x then refuse s .state
      else if s.quarantined c ∧ x.hold ≠ .quarantine then refuse s .notPermitted
      else s.assignTo c w x := by
  unfold State.assign
  rw [(SlotEntry.assignable_iff _).2 h, htag]
  dsimp only
  rw [hx]
  rfl

end

end

section
variable {s : State} {c : Coord}

theorem State.confirm_suspect {w : Nat} (h : s.slot c = .suspect (some w)) : s.confirm c = accept (s.setSlot c (.occupied w)) := by
  simp only [State.confirm, h]

theorem State.confirm_other (h : ∀ w, s.slot c ≠ .suspect (some w)) : s.confirm c = refuse s .state := by
  unfold State.confirm
  split
  · exact absurd ‹_› (h _)
  · rfl

theorem State.clearSlot_none (h : s.slot c = .suspect none) : s.clearSlot c = accept (s.setSlot c .empty) := by
  simp only [State.clearSlot, h]

theorem State.clearSlot_some {w : Nat} (h : s.slot c = .suspect (some w)) :
    s.clearSlot c = accept ((s.setSlot c .empty).releaseWheel w) := by
  simp only [State.clearSlot, h]

theorem State.clearSlot_other (h : ∀ w, s.slot c ≠ .suspect w) : s.clearSlot c = refuse s .state := by
  unfold State.clearSlot
  split
  · exact absurd ‹_› (h _)
  · exact absurd ‹_› (h _)
  · rfl

theorem State.placeAt_refused {w : Nat} {x : Wheel} (h : x.location ≠ .unknown ∨ s.slot c ≠ .empty) : s.placeAt c w x = refuse s .state := by
  unfold State.placeAt
  rcases h with h | h
  · rw [if_pos h]
  · simp only [h, ne_eq, not_false_iff, if_true, ite_self]

theorem State.placeAt_unknown {w : Nat} {x : Wheel} (hat : x.location = .unknown) (hempty : s.slot c = .empty) : s.placeAt c w x =
    if s.quarantined c ∧ x.hold ≠ .quarantine then refuse s .notPermitted else accept (s.placeIn w c) := by
  unfold State.placeAt
  rw [if_neg (by simp [hat]), if_neg (by simp [hempty])]

end

/-- Settles O46: RESOLVE_SLOT by action and board, RESOLVE_WHEEL by action and wheel. -/
theorem resolutionSettlesBoardsAndWheels : Obligations.ResolutionSettlesBoardsAndWheels := by
  unfold Obligations.ResolutionSettlesBoardsAndWheels
  refine ⟨fun s c hs hc => ?slot, fun s w hs => ?wheel⟩
  case slot =>
    intro answers refuses confirm clear released
    have hboard := State.onBoard_of_reaches hc
    have hreleased (u : State) (v : Nat) : u.released (s.wheel v) v = released u v := by
      rcases hv : s.wheel v with _ | y
      · simp only [State.released, released, hv]
      · rcases hi : y.intent with _ | i
        · simp only [State.released, released, hv, hi]
        · simp only [State.released, released, hv, hi] <;> cases i.destination <;> rfl
    have hconfirm : serveResolveSlotConfirm .fits c.level c.position (s.inGrant .management) = (s.inGrant .management).confirm c := hboard _
    have hclear : serveResolveSlotClear .fits c.level c.position (s.inGrant .management) = (s.inGrant .management).clearSlot c := hboard _
    refine ⟨fun l p a hout => ⟨⟨_, rfl, request_refused hs rfl (State.onBoard_of_outside hout _)⟩, ⟨_, rfl, request_refused hs rfl
      (State.onBoard_of_outside hout _)⟩, ⟨_, rfl, request_refused hs rfl (State.onBoard_of_outside hout _)⟩⟩,
      ⟨_, congrArg Host.Outcome.next (State.request_badName s .management .resolveSlot _), request_refused hs rfl (hboard _)⟩,
      fun w hslot => ⟨_, rfl, request_emits hs rfl (hconfirm.trans (State.confirm_suspect (s := s.inGrant .management) hslot))
        ((SameInside.granted s .management).setSlot c _) (Emits.silent rfl rfl)⟩,
      fun hslot => ⟨_, rfl, request_refused hs rfl (hconfirm.trans (State.confirm_other (s := s.inGrant .management) hslot))⟩,
      fun hslot => ⟨_, rfl, request_emits hs rfl (hclear.trans (State.clearSlot_none (s := s.inGrant .management) hslot))
        ((SameInside.granted s .management).setSlot c _) (Emits.silent rfl rfl)⟩,
      fun w hslot => ?_,
      fun hslot => ⟨_, rfl, request_refused hs rfl (hclear.trans (State.clearSlot_other (s := s.inGrant .management) hslot))⟩, fun tag => ?_⟩
    · have hsame := ((SameInside.granted s .management).setSlot c .empty).releaseWheel w
      obtain ⟨hports, harbiter, -⟩ := ((s.inGrant .management).setSlot c .empty).releaseWheel_keeps w
      rw [State.releaseWheel_eq (s := s) (u := s.setSlot c .empty) rfl, hreleased] at hsame
      exact ⟨_, rfl, request_emits hs rfl (hclear.trans (State.clearSlot_some (s := s.inGrant .management) hslot)) hsame
        (Emits.silent hports harbiter)⟩
    · intro assign open'
      have hserve : serveResolveSlotAssign .fits c.level c.position tag (s.inGrant .management) = (s.inGrant .management).assign c tag :=
        hboard _
      refine ⟨fun hclosed => ⟨_, rfl, request_refused hs rfl (hserve.trans (State.assign_closed (s := s.inGrant .management) hclosed))⟩,
        fun hopen htag => ⟨_, rfl, request_refused hs rfl (hserve.trans (State.assign_unknown (s := s.inGrant .management) hopen htag))⟩,
        fun w x hopen htag hx => ?_⟩
      have hknown := State.assign_known (s := s.inGrant .management) hopen htag hx
      intro movable barred
      have hmovable : (s.inGrant .management).assignable w x = true ↔ movable := State.assignable_iff (s := s.inGrant .management)
      refine ⟨fun hnot => ⟨_, rfl, request_refused hs rfl (hserve.trans (hknown.trans (if_pos ?_)))⟩,
        fun hmay hbarred => ⟨_, rfl, request_refused hs rfl (hserve.trans (hknown.trans ?_))⟩, fun hmay hallowed hself => ?_,
        fun hmay hallowed hother => ?_⟩
      · rw [Bool.not_eq_true']
        simpa using mt hmovable.1 hnot
      · rw [if_neg (by rw [hmovable.2 hmay]; decide)]
        exact if_pos hbarred
      · rw [if_neg (by rw [hmovable.2 hmay]; decide)] at hknown
        replace hknown := hknown.trans ((if_neg hallowed).trans (if_pos hself))
        exact ⟨_, rfl, request_emits hs rfl (hserve.trans hknown) ((SameInside.granted s .management).setSlot c _) (Emits.silent rfl rfl)⟩
      · rw [if_neg (by rw [hmovable.2 hmay]; decide)] at hknown
        replace hknown := hknown.trans ((if_neg hallowed).trans (State.assignTo_other (s := s.inGrant .management) hother))
        have hsame := (((SameInside.granted s .management).vacate w x).displace (s.slot c).displaced).placeIn w c
        have hsilent : Emits (s.inGrant .management)
            ((((s.inGrant .management).vacate w x).displace (s.slot c).displaced).placeIn w c) [] := by
          obtain ⟨hports, harbiter, -⟩ := ((s.inGrant .management).vacate w x).displace_keeps (s.slot c).displaced
          obtain ⟨hports', harbiter', -⟩ := (s.inGrant .management).vacate_keeps w x
          exact Emits.silent (by rw [State.placeIn_ports, hports, hports']) (by rw [State.placeIn_arbiter, harbiter, harbiter'])
        have hassigned := request_emits hs (k := .resolveSlot) rfl (hserve.trans hknown) hsame hsilent
        have hclock : ((s.vacate w x).displace (s.slot c).displaced).clock = s.clock :=
          ((s.vacate w x).displace_keeps (s.slot c).displaced).2.2.trans (s.vacate_keeps w x).2.2
        have hslotnow : (s.inGrant .management).slot c = s.slot c := rfl
        rw [State.placeIn_eq, hclock, hslotnow] at hassigned
        intro vacated placed
        have hvacated : s.vacate w x = vacated := by
          simp only [State.vacate, vacated]
          cases x.location <;> rfl
        rw [hvacated] at hassigned
        refine ⟨fun v hslot => ?_, fun hslot => ?_⟩
        · have hintent : (s.wheel v).map Wheel.intent = (vacated.wheel v).map Wheel.intent := hvacated ▸ s.vacate_intent w x v
          rw [hslot] at hassigned
          simp only [SlotEntry.displaced, State.displace] at hassigned
          rw [State.releaseWheel_eq (s := s) hintent, hreleased] at hassigned
          exact ⟨_, rfl, hassigned⟩
        · have hnone : (s.slot c).displaced = none := by
            rcases hslot with hslot | hslot <;> rw [hslot] <;> rfl
          rw [hnone] at hassigned
          exact ⟨_, rfl, hassigned⟩
  case wheel =>
    intro answers refuses delete
    have hplace {c : Coord} (hc : s.reaches c) : serveResolveWheelPlaceAt .fits w c.level c.position (s.inGrant .management) =
        (s.inGrant .management).onWheel w fun x => (s.inGrant .management).placeAt c w x := State.onBoard_of_reaches hc _
    have hdelete : serveResolveWheelDelete .fits w (s.inGrant .management) = (s.inGrant .management).onWheel w fun x =>
        if x.location = .unknown then accept ((s.inGrant .management).deleteWheel w) else refuse (s.inGrant .management) .state := rfl
    refine ⟨fun l p hout => ⟨_, rfl, request_refused hs rfl (State.onBoard_of_outside hout _)⟩, fun hw => ⟨⟨_, rfl, request_refused hs rfl
      (hdelete.trans (State.onWheel_of_above hw _))⟩, fun c hc => ⟨_, rfl, request_refused hs rfl ((hplace hc).trans
      (State.onWheel_of_above hw _))⟩⟩, fun hw hx => ⟨⟨_, rfl, request_refused hs rfl (hdelete.trans
      (State.onWheel_of_none (s := s.inGrant .management) hw hx _))⟩, fun c hc => ⟨_, rfl, request_refused hs rfl ((hplace hc).trans
      (State.onWheel_of_none (s := s.inGrant .management) hw hx _))⟩⟩, fun x hw hx => ?_⟩
    have hdeleted := hdelete.trans (State.onWheel_of_some (s := s.inGrant .management) hw hx _)
    refine ⟨⟨_, congrArg Host.Outcome.next (State.request_badName s .management .resolveWheel _), request_refused hs rfl
      (State.onWheel_of_some (s := s.inGrant .management) hw hx _)⟩, fun hat => ⟨_, rfl, request_refused hs rfl (hdeleted.trans (if_neg hat))⟩,
      fun hat => ?_, fun c hc => ?_⟩
    · have hgone := State.deleteWheel_of_some (s := s.inGrant .management) hx
      have hsame := (SameInside.granted s .management).deleteWheel w
      rw [State.deleteWheel_of_some hx] at hsame
      exact ⟨_, rfl, request_emits hs rfl (hdeleted.trans (if_pos hat)) hsame (hgone ▸ Emits.silent rfl rfl)⟩
    · intro place barred
      have hplaced := (hplace hc).trans (State.onWheel_of_some (s := s.inGrant .management) hw hx _)
      refine ⟨fun hnot => ⟨_, rfl, request_refused hs rfl (hplaced.trans (State.placeAt_refused (s := s.inGrant .management) hnot))⟩,
        fun hat hempty hbarred => ⟨_, rfl, request_refused hs rfl (hplaced.trans
          ((State.placeAt_unknown (s := s.inGrant .management) hat hempty).trans (if_pos hbarred)))⟩, fun hat hempty hallowed => ?_⟩
      have hsame := (SameInside.granted s .management).placeIn w c
      rw [State.placeIn_eq s] at hsame
      exact ⟨_, rfl, request_emits hs rfl (hplaced.trans
        ((State.placeAt_unknown (s := s.inGrant .management) hat hempty).trans (if_neg hallowed))) hsame (Emits.silent rfl rfl)⟩

end Sys2Proof.Machine


namespace Sys2Proof.Machine

set_option Elab.async false

section
variable {s u : State} {v w : Nat} {x : Wheel}

/-! ## The wheels in the gripper -/

theorem State.mem_inGripper (law : s.StoreLaw) : w ∈ s.inGripper ↔ ∃ x, s.wheel w = some x ∧ x.location = .inGripper := by
  simp only [State.inGripper, List.mem_map, List.mem_filter, beq_iff_eq]
  constructor
  · rintro ⟨⟨_, x⟩, ⟨hmem, hat⟩, rfl⟩
    exact ⟨x, Table.find_of_mem law.wheels.1 hmem, hat⟩
  · rintro ⟨x, hx, hat⟩
    exact ⟨(w, x), ⟨Table.mem_of_find hx, hat⟩, rfl⟩

theorem State.inGripper_nodup (law : s.StoreLaw) : s.inGripper.Nodup := by
  have hkeys := (Table.canonical_iff _).1 law.wheels.1
  have hrising : (s.wheels.map Prod.fst).Nodup := hkeys.imp fun h => Nat.ne_of_lt h
  exact hrising.sublist (List.filter_sublist.map _)

theorem List.eq_singleton_of_nodup {α : Type} {l : List α} {a : α} (hnodup : l.Nodup) (hall : ∀ b ∈ l, b = a) (ha : a ∈ l) : l = [a] := by
  cases l with
  | nil => cases ha
  | cons b l =>
    obtain rfl := hall b List.mem_cons_self
    cases l with
    | nil => rfl
    | cons c l =>
      obtain rfl := hall c (List.mem_cons_of_mem _ List.mem_cons_self)
      simp at hnodup

/-! ## Lost wheels -/

/-- R134: a lost wheel is UNKNOWN. -/
theorem State.wheel_loseWheel_same (s : State) (w : Nat) {x : Wheel} (h : (s.loseWheel w).wheel w = some x) : x.location = .unknown := by
  have hraise (u : State) : (State.raise u .management .moveEnded).wheel w = u.wheel w := rfl
  have hrecord (u : State) : (u.record .gripperEmpty none (some w) none).wheel w = u.wheel w := by
    unfold State.wheel
    rw [State.record_wheels]
  rw [State.loseWheel_eq, hraise, hrecord, State.unhand, State.wheel_changeWheel, if_pos rfl] at h
  obtain ⟨y, -, rfl⟩ := Option.map_eq_some_iff.1 h
  rfl

theorem State.wheel_loseWheels_mem (l : List Nat) (s : State) (h : v ∈ l) (hx : (l.foldl State.loseWheel s).wheel v = some x) :
    x.location = .unknown := by
  induction l generalizing s with
  | nil => cases h
  | cons w l ih =>
    rw [List.foldl_cons] at hx
    by_cases hv : v ∈ l
    · exact ih _ hv hx
    · obtain rfl := (List.mem_cons.1 h).resolve_right hv
      rw [State.wheel_loseWheels_other l _ hv] at hx
      exact s.wheel_loseWheel_same _ hx

theorem State.loseWheels_storeLaw (law : s.StoreLaw) (l : List Nat) : (l.foldl State.loseWheel s).StoreLaw :=
  Writes.storeLaw (g := ⟨false, false, false⟩) (Writes.refl.loseWheels l) law

/-- R133: once a report of no load has been reconciled, no wheel is in the gripper. -/
theorem State.reconcile_none_empties (law : s.StoreLaw) (hx : (s.reconcile .none).wheel v = some x) : x.location ≠ .inGripper := by
  intro hat
  have hlost : (s.inGripper.foldl State.loseWheel s).wheel v = some x := hx
  by_cases hv : v ∈ s.inGripper
  · rw [State.wheel_loseWheels_mem _ _ hv hlost] at hat
    cases hat
  · rw [State.wheel_loseWheels_other _ _ hv] at hlost
    exact hv ((State.mem_inGripper law).2 ⟨x, hlost, hat⟩)

/-- R134: a wheel lost, as the spec writes it. -/
theorem State.loseWheel_of_some (hx : s.wheel w = some x) : s.loseWheel w =
    State.raise (State.record (State.changeWheel (match x.intent with
      | some i => (s.withdrawMovement w).freeIntent w i
      | none => s.withdrawMovement w) w fun y =>
        { y with location := .unknown, intent := none, lastOutcome := some (.failed .lostLoad) }) .gripperEmpty none (some w) none)
      .management .moveEnded := by
  rw [State.loseWheel_eq, State.unhand, hx, Option.bind_some] <;>
  cases x.intent <;> rfl

end

end Sys2Proof.Machine


namespace Sys2Proof.Machine

set_option Elab.async false

section
variable {s : State} {v w : Nat} {x : Wheel}

/-- R134: the reservations of a wheel lost, as the withdrawal of its task leaves them. -/
theorem State.freeIntent_withdrawn (s : State) (w : Nat) (i : Intent) : (s.withdrawMovement w).freeIntent w i =
    (let u := s.withdrawMovement w
     let f := match i.destination with
       | .slot d => if s.slot d = SlotEntry.reserved .destination w then u.setSlot d .empty else u
       | _ => u
     match i.returnSlot with
     | some r => if f.slot r = SlotEntry.reserved .putBack w then f.setSlot r .empty else f
     | none => f) := by
  have hslot (d : Coord) : (s.withdrawMovement w).slot d = s.slot d := by
    unfold State.slot State.withdrawMovement
    rw [State.withdrawWhere_slots]
  simp only [State.freeIntent, State.freeDestination, State.freeReturn, State.freeReserved, hslot] <;>
  cases i.destination <;> rfl

/-- R135: a wheel lifted, with its movement task brought to its intent. -/
def State.liftedTo (s : State) (w : Nat) (i : Intent) (place : TaskPlace) : State :=
  let v := s.changeWheel w fun y => { y with location := .inGripper, intent := some i }
  { v with tasks := v.tasks.map fun y =>
      if y.isMovement && y.wheel == some w then
        { y with kind := .movement i.kind, phase := some .carried, place := place, destination := some i.destination }
      else y }

theorem State.liftedTo_eq {f : Wheel → Wheel} {i : Intent} {place : TaskPlace} (hx : s.wheel w = some x)
    (hf : f x = { x with location := .inGripper, intent := some i }) (hphase : i.phase = .carried) (hplace : i.place .inGripper = place) :
    (s.changeWheel w f).alignTask w = s.liftedTo w i place := by
  have hsame : s.changeWheel w f = s.changeWheel w fun y => { y with location := .inGripper, intent := some i } :=
    State.changeWheel_congr hx hf
  have hfound : (s.changeWheel w f).wheel w = some { x with location := .inGripper, intent := some i } := by
    rw [State.wheel_changeWheel, if_pos rfl, hx, Option.map_some, hf]
  rw [State.alignTask_of_intent hfound rfl, hsame]
  simp only [State.liftedTo, hphase, hplace]

/-- R135: a wheel lifted from a board. -/
theorem State.liftFromSlot_eq {c : Coord} {i : Intent} (tag : TagId) (hx : s.wheel w = some x)
    (hi : (∃ j, x.intent = some j ∧ (j.kind = .move ∨ j.kind = .remove) ∧ i = { j with phase := .carried, returnSlot := some c }) ∨
      (x.intent = none ∧ i = { kind := .move, destination := .slot c, retargeted := false, returnSlot := some c, phase := .carried
                               status := .pending })) :
    s.liftFromSlot w c tag = (((s.setSlot c (.reserved .putBack w)).withdrawCare w).liftedTo w i (.board c)).record .gripperUnexpected
      (some c) (some w) (some tag) := by
  obtain ⟨flip, brush, move, hfound⟩ := State.wheel_withdrawWhere_some (s := s.setSlot c (.reserved .putBack w))
    (fun t => t.isCare && t.names w) hx
  have hlifted : liftedIntent x.intent c = i ∧ i.phase = .carried ∧ i.place .inGripper = .board c := by
    rcases hi with ⟨j, hj, hk, rfl⟩ | ⟨hnone, rfl⟩
    · refine ⟨by rw [hj]; rfl, rfl, ?_⟩
      rcases hk with hk | hk <;> simp [Intent.place, hk]
    · exact ⟨by rw [hnone]; rfl, rfl, rfl⟩
  obtain ⟨hintent, hphase, hplace⟩ := hlifted
  have halign := State.liftedTo_eq (s := (s.setSlot c (.reserved .putBack w)).withdrawCare w) (w := w) (place := .board c)
    (f := fun x => { x with location := .inGripper, intent := some (liftedIntent x.intent c) }) hfound
    (by simp only [hintent]) hphase hplace
  unfold State.liftFromSlot
  dsimp only
  rw [halign]

/-- R135: a wheel lifted at the infeed. -/
theorem State.liftFromInfeed_eq {i : Intent} (tag : TagId) (hx : s.wheel w = some x)
    (hi : (∃ j, x.intent = some j ∧ j.kind = .place ∧ i = { j with phase := .carried }) ∨ (x.intent = none ∧ i = parkIntent)) :
    s.liftFromInfeed w tag = (s.liftedTo w i .infeed).record .gripperUnexpected none (some w) (some tag) := by
  have hlifted : (match x.intent with
      | some i => { i with phase := .carried }
      | none => parkIntent) = i ∧ i.phase = .carried ∧ i.place .inGripper = .infeed := by
    rcases hi with ⟨j, hj, hk, rfl⟩ | ⟨hnone, rfl⟩
    · exact ⟨by rw [hj], rfl, by simp [Intent.place, hk]⟩
    · exact ⟨by rw [hnone], rfl, rfl⟩
  obtain ⟨hintent, hphase, hplace⟩ := hlifted
  have halign := State.liftedTo_eq (s := s) (w := w) (i := i) (place := .infeed) (f := fun x => { x with
      location := .inGripper
      intent := some (match x.intent with
        | some i => { i with phase := .carried }
        | none => parkIntent) }) hx (by simp only [hintent]) hphase hplace
  exact congrArg (fun u => State.record u .gripperUnexpected none (some w) (some tag)) halign

theorem State.reconcile_named (h : ∀ v y, s.wheel v = some y → y.location ≠ .inGripper) (law : s.StoreLaw) (w : Nat) (tag : TagId) :
    s.reconcile (.wheel w tag) = s.reconcileNamed w tag := by
  have hempty : s.inGripper = [] := List.eq_nil_iff_forall_not_mem.2 fun v hv => by
    obtain ⟨y, hy, hat⟩ := (State.mem_inGripper law).1 hv
    exact h v y hy hat
  simp [State.reconcile, hempty]

end

/-- Settles O43: the wheels lost, and the wheel named. -/
theorem reconciliationFollowsTheLoad : Obligations.ReconciliationFollowsTheLoad := by
  unfold Obligations.ReconciliationFollowsTheLoad
  refine ⟨fun s law => ⟨fun hnone => ?_, fun w x hx hat => ?_⟩, fun s w x tag law hx hnone => ?_, fun s w x tag law hx hat => ?_⟩
  · have hempty : s.inGripper = [] := List.eq_nil_iff_forall_not_mem.2 fun v hv => by
      obtain ⟨y, hy, hy'⟩ := (State.mem_inGripper law).1 hv
      exact hnone v y hy hy'
    exact ⟨by simp [State.reconcile, hempty], fun tag => by simp [State.reconcile, hempty]⟩
  · have hmem : w ∈ s.inGripper := (State.mem_inGripper law).2 ⟨x, hx, hat⟩
    intro alone u released lost
    have hreleased : (match x.intent with
        | some i => (s.withdrawMovement w).freeIntent w i
        | none => s.withdrawMovement w) = released := by
      simp only [released, u]
      cases x.intent with
      | none => rfl
      | some i => exact s.freeIntent_withdrawn w i
    have hlost : s.loseWheel w = lost := by
      exact (State.loseWheel_of_some hx).trans (congrArg (fun u => State.raise (State.record (State.changeWheel u w fun y =>
        { y with location := .unknown, intent := none, lastOutcome := some (.failed .lostLoad) }) .gripperEmpty none (some w) none)
          .management .moveEnded) hreleased)
    refine ⟨fun halone => ?_, fun v y tag hy hyat hne htwo => ?_⟩
    · have hone : s.inGripper = [w] := List.eq_singleton_of_nodup (State.inGripper_nodup law) (fun v hv => by
        obtain ⟨y, hy, hyat⟩ := (State.mem_inGripper law).1 hv
        exact halone v y hy hyat) hmem
      refine ⟨by simp [State.reconcile, hone, hlost], fun tag => by simp [State.reconcile, hone, hlost], fun tag => ?_⟩
      simp [State.reconcile, hone, State.reconcileNamed, hx, hat]
    · have hothers : (s.inGripper.filter fun r => r != v) = [w] := by
        refine List.eq_singleton_of_nodup ((State.inGripper_nodup law).filter _) (fun r hr => ?_) (List.mem_filter.2 ⟨hmem, by simpa using hne.symm⟩)
        obtain ⟨hr, hrv⟩ := List.mem_filter.1 hr
        obtain ⟨z, hz, hzat⟩ := (State.mem_inGripper law).1 hr
        exact (htwo r z hz hzat).resolve_left (by simpa using hrv)
      have hstays : (s.loseWheel w).wheel v = some y := by rw [State.wheel_loseWheel_other s hne, hy]
      calc s.reconcile (.wheel v tag)
          = (s.loseWheel w).reconcileNamed v tag := by simp [State.reconcile, hothers]
        _ = s.loseWheel w := by rw [State.reconcileNamed, hstays, Option.map_some, hyat]
        _ = lost := hlost
  · intro park lifted
    have hnamed := State.reconcile_named hnone law w tag
    refine ⟨fun c i hat hi => ?_, fun i hat hi => ?_, fun hat hi => ?_⟩
    · rw [hnamed, State.reconcileNamed, hx, Option.map_some, hat]
      exact State.liftFromSlot_eq tag hx hi
    · rw [hnamed, State.reconcileNamed, hx, Option.map_some, hat]
      exact State.liftFromInfeed_eq tag hx hi
    · rw [hnamed, State.reconcileNamed, hx, Option.map_some, hat]
      simp only [State.findLost, hx, Option.bind_some, hi]
      rfl
  · intro u
    have hnot : w ∉ s.inGripper := fun hw => by
      obtain ⟨y, hy, hyat⟩ := (State.mem_inGripper law).1 hw
      rw [hx] at hy
      cases hy
      exact hat hyat
    have hothers : (s.inGripper.filter fun v => v != w) = s.inGripper :=
      List.filter_eq_self.2 fun v hv => by simpa using fun h : v = w => hnot (h ▸ hv)
    have hlaw : u.StoreLaw := State.loseWheels_storeLaw law s.inGripper
    refine ⟨hlaw, (State.wheel_loseWheels_other _ s hnot).trans hx, fun v y hy => State.reconcile_none_empties law hy, ?_⟩
    rw [State.reconcile_named (fun v y hy => State.reconcile_none_empties law hy) hlaw]
    simp [State.reconcile, hothers]

end Sys2Proof.Machine


namespace Sys2Proof.Machine

set_option Elab.async false

/-! ## Loop passes (R153 to R160) -/

section
variable {s : State} {h : Fin 24} {reply : Option (Vector Byte 5)}

/-- A reply that is whole: its CRC-8 and its address are those of the head polled (R154). -/
def Whole (h : Fin 24) (b : Vector Byte 5) : Prop := crc8 [b[0], b[1], b[2], b[3]] = b[4] ∧ b[0] = headAddress h

theorem judgeReply_of_whole {b : Vector Byte 5} (hb : Whole h b) : judgeReply h b =
    if b[1] = 0x00#8 then .ok (min 1000 (b[2].toNat * 256 + b[3].toNat)) else if b[1] = 0x01#8 then .warming
    else if b[1] = 0x02#8 then .fault else .miss :=
  if_pos hb

theorem judgeReply_of_broken {b : Vector Byte 5} (hb : ¬ Whole h b) : judgeReply h b = .miss := if_neg hb

theorem judgeWindow_ok_iff {r : Nat} : judgeWindow h reply = .ok r ↔
    ∃ b, reply = some b ∧ Whole h b ∧ b[1] = 0x00#8 ∧ r = min 1000 (b[2].toNat * 256 + b[3].toNat) := by
  cases reply with
  | none => simp [judgeWindow]
  | some b =>
    by_cases hb : Whole h b
    · rw [judgeWindow, judgeReply_of_whole hb]
      by_cases h0 : b[1] = 0x00#8
      · simp [h0, hb, eq_comm]
      · by_cases h1 : b[1] = 0x01#8
        · simp [h1]
        · by_cases h2 : b[1] = 0x02#8 <;> simp [h0, h1, h2]
    · simp [judgeWindow, judgeReply_of_broken hb, hb]

theorem judgeWindow_warming_iff : judgeWindow h reply = .warming ↔ ∃ b, reply = some b ∧ Whole h b ∧ b[1] = 0x01#8 := by
  cases reply with
  | none => simp [judgeWindow]
  | some b =>
    by_cases hb : Whole h b
    · rw [judgeWindow, judgeReply_of_whole hb]
      by_cases h0 : b[1] = 0x00#8
      · simp [h0]
      · by_cases h1 : b[1] = 0x01#8
        · simp [h1, hb]
        · by_cases h2 : b[1] = 0x02#8 <;> simp [h0, h1, h2]
    · simp [judgeWindow, judgeReply_of_broken hb, hb]

theorem judgeWindow_fault_iff : judgeWindow h reply = .fault ↔ ∃ b, reply = some b ∧ Whole h b ∧ b[1] = 0x02#8 := by
  cases reply with
  | none => simp [judgeWindow]
  | some b =>
    by_cases hb : Whole h b
    · rw [judgeWindow, judgeReply_of_whole hb]
      by_cases h0 : b[1] = 0x00#8
      · simp [h0]
      · by_cases h1 : b[1] = 0x01#8
        · simp [h1]
        · by_cases h2 : b[1] = 0x02#8 <;> simp [h0, h1, h2, hb]
    · simp [judgeWindow, judgeReply_of_broken hb, hb]

/-- R156, R157: heads that are OFF are passed over. -/
theorem State.pollNext_skips {skipped : List (Fin 24)} (hoff : ∀ x ∈ skipped, (s.loop.heads[x]).state = .off) (rest : List (Fin 24)) :
    s.pollNext (skipped ++ rest) = s.pollNext rest := by
  induction skipped with
  | nil => rfl
  | cons x skipped ih =>
    rw [List.cons_append, State.pollNext, if_pos (hoff x List.mem_cons_self)]
    exact ih fun y hy => hoff y (List.mem_cons_of_mem x hy)

theorem State.pollNext_finds {skipped rest : List (Fin 24)} (hoff : ∀ x ∈ skipped, (s.loop.heads[x]).state = .off)
    (hon : (s.loop.heads[h]).state ≠ .off) : s.pollNext (skipped ++ h :: rest) =
      { s with loop := { s.loop with pass := some ⟨h, none, rest⟩, lastPoll := some (pollBytes h) } } := by
  rw [State.pollNext_skips hoff, State.pollNext_cons hon]

theorem State.pollNext_ends {list : List (Fin 24)} (hoff : ∀ x ∈ list, (s.loop.heads[x]).state = .off) :
    s.pollNext list = s.endLoopPass := by
  have h := State.pollNext_skips hoff []
  rwa [List.append_nil, State.pollNext_nil] at h

theorem State.zoneReadings_eq (s : State) (z : ZoneNumber) : s.zoneReadings z =
    (let rs := (List.finRange 24).filterMap fun h => if s.config.sensor.assignment[h] = some z then (s.loop.heads[h]).reading else none
     ⟨rs.length, rs.sum⟩) := by
  simp only [State.zoneReadings, List.sum_eq_foldl]

theorem State.endLoopPass_eq (s : State) : s.endLoopPass =
    { s with
      loop := { s.loop with pass := none, handed := s.loop.handed ++ [Vector.ofFn s.zoneReadings] }
      arbiter := { s.arbiter with asked := s.arbiter.asked ++ [.zoneUpdate] } } := rfl

theorem Head.judged_of_off {x : Head} (hx : x.state = .off) (o : HeadOutcome) : x.judged o = x := if_pos hx

theorem Head.judged_of_on {x : Head} (hx : x.state ≠ .off) (o : HeadOutcome) : x.judged o = x.after o := if_neg hx

/-- R159, R160: the record of the head polled, by what its window gave. -/
theorem Head.judged_window {x y : Head}
    (hy : (x.state = .off ∧ y = x) ∨ (x.state ≠ .off ∧
      ((∃ r, judgeWindow h reply = .ok r ∧ y = ⟨.active, 0, if x.state = .active then some r else x.reading⟩) ∨
       (judgeWindow h reply = .warming ∧ y = { x with misses := 0 }) ∨
       (judgeWindow h reply = .fault ∧ y = { x with state := .faulty, misses := 0 }) ∨
       ((∀ r, judgeWindow h reply ≠ .ok r) ∧ judgeWindow h reply ≠ .warming ∧ judgeWindow h reply ≠ .fault ∧ y = { x with
          misses := min 3 (x.misses + 1), state := if 3 ≤ x.misses + 1 then .missing else x.state })))) :
    x.judged (judgeWindow h reply) = y := by
  rcases hy with ⟨hoff, rfl⟩ | ⟨hon, ⟨r, ho, rfl⟩ | ⟨ho, rfl⟩ | ⟨ho, rfl⟩ | ⟨hok, hwarm, hfault, rfl⟩⟩
  · exact Head.judged_of_off hoff _
  · rw [ho, Head.judged_of_on hon, Head.after]
  · rw [ho, Head.judged_of_on hon, Head.after]
  · rw [ho, Head.judged_of_on hon, Head.after]
  · rw [Head.judged_of_on hon]
    cases ho : judgeWindow h reply with
    | miss => rfl
    | ok r => exact absurd ho (hok r)
    | warming => exact absurd ho hwarm
    | fault => exact absurd ho hfault

theorem entersTrouble_iff {a b : HeadState} : entersTrouble a b = true ↔ b ≠ a ∧ (b = .missing ∨ b = .faulty) := by
  rw [entersTrouble, Bool.and_eq_true, Bool.or_eq_true, bne_iff_ne, beq_iff_eq, beq_iff_eq, ne_comm]

/-- What the judging of a head raises, and the state it leaves. -/
theorem Emits.judgeHead (s : State) (h : Fin 24) (o : HeadOutcome) : Emits s (s.judgeHead h o)
    (if ((s.loop.heads[h]).judged o).state ≠ (s.loop.heads[h]).state ∧
        (((s.loop.heads[h]).judged o).state = .missing ∨ ((s.loop.heads[h]).judged o).state = .faulty)
      then [(.climate, .headMissing)] else []) := by
  have hr := (Emits.silent (s := s) (t := { s with loop := { s.loop with heads := s.loop.heads.set h ((s.loop.heads[h]).judged o) } })
    rfl rfl).trans (Emits.raiseIf _ (entersTrouble (s.loop.heads[h]).state ((s.loop.heads[h]).judged o).state) .climate .headMissing)
  simp only [List.nil_append, entersTrouble_iff] at hr
  exact hr

theorem State.judgeHead_loop (s : State) (h : Fin 24) (o : HeadOutcome) :
    (s.judgeHead h o).loop = { s.loop with heads := s.loop.heads.set h ((s.loop.heads[h]).judged o) } := by
  simp [State.judgeHead]

theorem State.judgeHead_config (s : State) (h : Fin 24) (o : HeadOutcome) : (s.judgeHead h o).config = s.config := by
  simp [State.judgeHead]

theorem State.judgeHead_inside (s : State) (h : Fin 24) (o : HeadOutcome) : (s.judgeHead h o).inside =
    { s.inside with loop := { s.loop with heads := s.loop.heads.set h ((s.loop.heads[h]).judged o) } } := by
  unfold State.judgeHead
  rw [State.inside_raiseIf]
  rfl

/-- The loop as a pass hands its readings on (R160). -/
def State.handOn (s : State) (l : SensorLoop) : SensorLoop :=
  { l with
  pass := none
  handed := l.handed ++ [Vector.ofFn fun z =>
    (let rs := (List.finRange 24).filterMap fun h => if s.config.sensor.assignment[h] = some z then (l.heads[h]).reading else none
     ⟨rs.length, rs.sum⟩)] }

theorem State.endLoopPass_handOn (s : State) : s.endLoopPass =
    { s with loop := s.handOn s.loop, arbiter := { s.arbiter with asked := s.arbiter.asked ++ [.zoneUpdate] } } := by
  have hz : s.zoneReadings = fun z => _ := funext s.zoneReadings_eq
  rw [State.endLoopPass_eq, hz]
  rfl

/-- A state with another sensor loop. -/
theorem State.handOn_congr {t : State} (hconfig : t.config = s.config) (l : SensorLoop) : t.handOn l = s.handOn l := by
  simp only [State.handOn, hconfig]

end

/-- Settles O47: pass starts, replies and the close of a window. -/
theorem loopPassesPollAndJudge : Obligations.LoopPassesPollAndJudge := by
  unfold Obligations.LoopPassesPollAndJudge
  intro s hs off address poll readings handOn asks
  have hrun : ∀ f : State → State, s.whenRunning f = f s := State.whenRunning_of_running hs
  have hheads (h : Fin 24) : ((s.loop.heads.map fun x : Head => { x with reading := none })[h]).state = (s.loop.heads[h]).state := by
    rw [Fin.getElem_fin, Vector.getElem_map]
    rfl
  refine ⟨fun hnone => ?_, ?_, fun bytes => ⟨fun p hp hreply => ?_, fun hclosed => ?_⟩, fun hnone => ?_, ?_⟩
  · refine congrArg Host.Outcome.next ((hrun _).trans ?_)
    unfold State.takeLoopStart
    rw [hnone]
  · intro n hn list l
    have hstart : s.whenRunning State.takeLoopStart = State.pollNext { s with loop := { l with pass := none } } list := by
      rw [hrun]
      unfold State.takeLoopStart
      rw [hn]
      rfl
    refine ⟨fun skipped h rest hlist hskipped hon => congrArg Host.Outcome.next (hstart.trans ?_), fun hall =>
      congrArg Host.Outcome.next (hstart.trans ?_)⟩
    · rw [hlist, State.pollNext_finds (fun x hx => (hheads x).trans (hskipped x hx)) (fun h' => hon ((hheads h).symm.trans h'))]
      rfl
    · rw [State.pollNext_ends fun x hx => (hheads x).trans (hall x hx), State.endLoopPass_handOn]
      rfl
  · refine congrArg Host.Outcome.next ((hrun _).trans ?_)
    unfold State.receiveReply
    rw [hp]
    dsimp only
    rw [hreply]
  · refine congrArg Host.Outcome.next ((hrun _).trans ?_)
    unfold State.receiveReply
    cases hp : s.loop.pass with
    | none => rfl
    | some p =>
      cases hreply : p.reply with
      | none => exact absurd hreply (hclosed p hp)
      | some b => simp only [hreply]
  · refine congrArg Host.Outcome.next ((hrun _).trans ?_)
    unfold State.closeWindow
    rw [hnone]
  · intro p hp x good ok warming fault y hy l raised idle
    have hjudged : x.judged (judgeWindow p.polled p.reply) = y := Head.judged_window (by
      simp only [ne_eq, judgeWindow_ok_iff, judgeWindow_warming_iff, judgeWindow_fault_iff]
      exact hy)
    have hclose : s.whenRunning State.closeWindow = (s.judgeHead p.polled (judgeWindow p.polled p.reply)).pollNext p.rest := by
      rw [hrun]
      unfold State.closeWindow
      rw [hp]
    have hemits := Emits.judgeHead s p.polled (judgeWindow p.polled p.reply)
    have hinside := s.judgeHead_inside p.polled (judgeWindow p.polled p.reply)
    have hloop := s.judgeHead_loop p.polled (judgeWindow p.polled p.reply)
    rw [hjudged] at hemits hinside hloop
    refine ⟨fun skipped h rest hrest hskipped hon => ⟨_, congrArg Host.Outcome.next hclose, ?_⟩, fun hall =>
      ⟨_, congrArg Host.Outcome.next hclose, ?_⟩⟩
    · rw [hrest, State.pollNext_finds (fun v hv => by rw [hloop]; exact hskipped v hv) (by rw [hloop]; exact hon), hloop]
      exact ⟨congrArg (fun u : State => { u with loop := poll l h rest }) hinside, hemits.arbiter, hemits.portsAlone⟩
    · rw [State.pollNext_ends fun v hv => by rw [hloop]; exact hall v hv, State.endLoopPass_handOn, hloop,
        State.handOn_congr (s.judgeHead_config _ _)]
      refine ⟨congrArg (fun u : State => { u with loop := handOn l }) hinside, ?_, hemits.portsAlone⟩
      simp only [hemits.arbiter, asks]

end Sys2Proof.Machine


namespace Sys2Proof.Machine

set_option Elab.async false

/-! ## The end-of-pass update (R163 to R171, R173) -/

section
variable {z : Zone} {l : ZoneLimits} {now : Nat} {r : ZoneReadings}

theorem Zone.update_quiet (h : r.count = 0) : z.update l now r = z.quietUpdate l.hold := if_pos h

theorem Zone.update_live (h : 0 < r.count) : z.update l now r = z.liveUpdate l now r := if_neg h.ne'

/-- R164, R169: a zone that loses its humidity. -/
theorem Zone.quietUpdate_lost (hstate : z.humidity = .live ∨ z.humidity = .holding) {hold : Nat} (h : hold ≤ z.holdCount) :
    z.quietUpdate hold = Zone.setAlarm { z with humidity := .lost } (.normal, 0) := by
  have hlost : z.quietState hold = .lost := by rcases hstate with hz | hz <;> simp only [Zone.quietState, hz, if_pos h]
  have henters : entersLost z.humidity .lost = true := by rcases hstate with hz | hz <;> rw [hz] <;> rfl
  simp only [Zone.quietUpdate, hlost, henters, if_true]

/-- R164: a zone that goes on without a reading. -/
theorem Zone.quietUpdate_kept {hold : Nat} (h : ¬ ((z.humidity = .live ∨ z.humidity = .holding) ∧ hold ≤ z.holdCount)) :
    z.quietUpdate hold = { z with humidity := if z.humidity = .live then .holding else z.humidity } := by
  unfold Zone.quietUpdate Zone.quietState
  cases hz : z.humidity with
  | unseen => rfl
  | lost => rfl
  | live => rw [hz] at h; simp [show ¬ hold ≤ z.holdCount from fun g => h ⟨.inl rfl, g⟩, entersLost]
  | holding => rw [hz] at h; simp [show ¬ hold ≤ z.holdCount from fun g => h ⟨.inr rfl, g⟩, entersLost]

theorem Zone.append_eq (z : Zone) (x : Sample) : z.append x = { z with
    ring := if z.capture = .off then z.ring else ringPush z.ring x
    overrun := z.overrun || (z.capture != .off && decide (32 ≤ z.ring.length))
    capture := z.capture.afterAppend } := by
  obtain ⟨humidity, raw, filtered, holdCount, alarm, dwell, unacked, capture, ring, overrun, exclusion, presence⟩ := z
  cases capture with
  | off => simp [Zone.append, CaptureMode.afterAppend]
  | continuous => rfl
  | counted n => rfl

/-- R163: the first sample after UNSEEN or LOST, else the filter. -/
theorem Zone.filter_eq (z : Zone) (raw shift : Nat) : z.filter raw shift = (match z.filtered with
    | some h => if z.humidity = .live ∨ z.humidity = .holding then ((h : Int) + Int.tdiv ((raw : Int) - h) (2 ^ shift)).toNat else raw
    | none => raw) := by
  unfold Zone.filter
  cases z.humidity <;> cases z.filtered <;> rfl

/-- R163, R165, R168, R173: a LIVE update, field by field. -/
theorem Zone.liveUpdate_eq (z : Zone) (l : ZoneLimits) (now : Nat) (r : ZoneReadings) : z.liveUpdate l now r =
    (let hf := z.filter (rawMean r) l.shift
     let a := alarmStep l z.alarm z.dwell hf
     { z with
       humidity := .live, raw := some (rawMean r), filtered := some hf, holdCount := 0, alarm := a.1, dwell := a.2
       unacked := z.unacked || alarmChanged z.alarm a.1
       ring := if z.capture = .off then z.ring else ringPush z.ring ⟨now, rawMean r, hf, r.count⟩
       overrun := z.overrun || (z.capture != .off && decide (32 ≤ z.ring.length))
       capture := z.capture.afterAppend }) := by
  unfold Zone.liveUpdate
  rw [Zone.append_eq]
  rfl

theorem CaptureMode.afterAppend_eq (m : CaptureMode) : m.afterAppend = (match m with
    | .counted n => if n ≤ 1 then .off else .counted (n - 1)
    | m => m) := by
  cases m <;> rfl

theorem ringPush_eq (ring : List Sample) (x : Sample) :
    ringPush ring x = if ring.length < 32 then ring ++ [x] else ring.tail ++ [x] := by
  by_cases h : ring.length < 32
  · rw [if_pos h]
    exact if_neg (not_le.2 h)
  · rw [if_neg h]
    exact if_pos (not_lt.1 h)

theorem alarmChanged_eq (a b : AlarmState) :
    alarmChanged a b = (b != a && ((b == .lowAlarm || b == .highAlarm) || (a == .lowAlarm || a == .highAlarm))) := by
  cases a <;> cases b <;> rfl

end

/-- Settles O48: a pass without readings, and the LIVE update with its alarm table. -/
theorem zonesAreUpdatedByTheRules : Obligations.ZonesAreUpdatedByTheRules := by
  unfold Obligations.ZonesAreUpdatedByTheRules
  intro z l now r y alarming
  refine ⟨fun hnone => ⟨fun hlost => ?lost, fun hkept => ?kept⟩, ?live⟩
  case lost =>
    have hy : y = Zone.setAlarm { z with humidity := .lost } (.normal, 0) :=
      (Zone.update_quiet hnone).trans (Zone.quietUpdate_lost hlost.1 hlost.2)
    rw [hy]
    have hchange : alarmChanged z.alarm .normal = alarming z.alarm := by
      rw [alarmChanged_eq]
      simp only [alarming]
      cases z.alarm <;> rfl
    simp only [Zone.setAlarm, hchange]
  case kept => exact (Zone.update_quiet hnone).trans (Zone.quietUpdate_kept hkept)
  case live =>
    intro hpos raw hf x
    have hy := (Zone.update_live (z := z) (l := l) (now := now) hpos).trans (Zone.liveUpdate_eq z l now r)
    have hfilter : z.filter (rawMean r) l.shift = hf := Zone.filter_eq z _ _
    rw [hfilter] at hy
    have halarm : y.alarm = (alarmStep l z.alarm z.dwell hf).1 := congrArg Zone.alarm hy
    have hdwell : y.dwell = (alarmStep l z.alarm z.dwell hf).2 := congrArg Zone.dwell hy
    refine ⟨?whole, ?_, ?_, ?_, ?_, ?_, ?_, ?_, ?_, ?_, ?_, ?_⟩
    case whole =>
      simp only [halarm, hdwell]
      refine hy.trans ?_
      simp only [CaptureMode.afterAppend_eq, ringPush_eq, alarmChanged_eq]
      rfl
    all_goals
      intro ha
      simp only [halarm, hdwell, ha, alarmStep]
    · intro h; simp [h]
    · intro h h'; simp [not_lt.2 h, h']
    · intro h h'; simp [not_lt.2 h, not_lt.2 h']
    · intro h; simp [h, dwellUp]
    · intro h; simp [not_lt.2 h]
    · intro h; simp [h]
    · intro h; simp [not_le.2 h]
    · intro h; simp [h, dwellUp]
    · intro h; simp [not_lt.2 h]
    · intro h; simp [show hf + l.hy ≤ l.hi by omega]
    · intro h; simp [show ¬ hf + l.hy ≤ l.hi by omega]

end Sys2Proof.Machine


namespace Sys2Proof.Machine

set_option Elab.async false

section
variable {s : State}

theorem someZone_iff {before after : Vector Zone 8} {f : Zone → Zone → Bool} :
    someZone before after f = true ↔ ∃ z : ZoneNumber, f before[z] after[z] = true := by
  unfold someZone
  rw [List.any_eq_true]
  exact ⟨fun ⟨z, _, h⟩ => ⟨z, h⟩, fun ⟨z, h⟩ => ⟨z, List.mem_finRange z, h⟩⟩

theorem Zone.overruns_iff {z : Zone} {r : ZoneReadings} : z.overruns r = true ↔ 0 < r.count ∧ z.capture ≠ .off ∧ 32 ≤ z.ring.length := by
  simp [Zone.overruns, Config.ringRoom, and_assoc, Nat.pos_iff_ne_zero]

/-- The changes of eight zones in one pass, as the notices and the test name them. -/
structure Changes (before after : Vector Zone 8) (p : Vector ZoneReadings 8) (lost alarmed overrun done : Prop) : Prop where
  lost : lost ↔ ∃ z : ZoneNumber, (before[z]).humidity ≠ .lost ∧ (after[z]).humidity = .lost
  alarmed : alarmed ↔ ∃ z : ZoneNumber, (after[z]).alarm ≠ (before[z]).alarm ∧
    (((after[z]).alarm == .lowAlarm || (after[z]).alarm == .highAlarm) = true ∨
      ((before[z]).alarm == .lowAlarm || (before[z]).alarm == .highAlarm) = true)
  overrun : overrun ↔ ∃ z : ZoneNumber, 0 < (p[z]).count ∧ (before[z]).capture ≠ .off ∧ 32 ≤ (before[z]).ring.length
  done : done ↔ ∃ z : ZoneNumber, (before[z]).capture ≠ .off ∧ (after[z]).capture = .off

/-- The notices of an end-of-pass update (R164, R170, R173). -/
theorem Emits.zoneNotices (s : State) {before after : Vector Zone 8} {p : Vector ZoneReadings 8} {lost alarmed overrun done : Prop}
    [Decidable lost] [Decidable alarmed] [Decidable overrun] [Decidable done] (h : Changes before after p lost alarmed overrun done) :
    Emits s (s.zoneNotices before after p)
      ((if lost then [(.climate, .sensorLost)] else []) ++
       (if alarmed then [(.climate, .zoneAlarm), (.management, .zoneAlarm)] else []) ++
       (if overrun then [(.climate, .captureOverrun)] else []) ++ (if done then [(.climate, .captureDone)] else [])) := by
  have hlost : (someZone before after fun a b => entersLost a.humidity b.humidity) = decide lost := by
    rw [Bool.eq_iff_iff, someZone_iff, decide_eq_true_iff, h.lost]
    simp [entersLost]
  have halarmed : (someZone before after fun a b => alarmChanged a.alarm b.alarm) = decide alarmed := by
    rw [Bool.eq_iff_iff, someZone_iff, decide_eq_true_iff, h.alarmed]
    simp only [alarmChanged_eq, Bool.and_eq_true, bne_iff_ne, Bool.or_eq_true]
  have hover : ((List.finRange 8).any fun z => before[z].overruns p[z]) = decide overrun := by
    rw [Bool.eq_iff_iff, List.any_eq_true, decide_eq_true_iff, h.overrun]
    simp only [Zone.overruns_iff, List.mem_finRange, true_and]
  have hdone : someZone before after captureEnded = decide done := by
    rw [Bool.eq_iff_iff, someZone_iff, decide_eq_true_iff, h.done]
    simp [captureEnded]
  have hchain := ((((Emits.raiseIf s (decide lost) .climate .sensorLost).trans (.raiseIf _ (decide alarmed) .climate .zoneAlarm)).trans
    (.raiseIf _ (decide alarmed) .management .zoneAlarm)).trans (.raiseIf _ (decide overrun) .climate .captureOverrun)).trans
    (.raiseIf _ (decide done) .climate .captureDone)
  unfold State.zoneNotices
  rw [hlost, halarmed, hover, hdone]
  refine hchain.of_mem_iff fun x => ?_
  by_cases ha : alarmed <;> simp [ha]

theorem SameInside.zoneNotices (s : State) (before after : Vector Zone 8) (p : Vector ZoneReadings 8) :
    SameInside (s.zoneNotices before after p) s :=
  (((((SameInside.refl s).raiseIf_left _ _ _).raiseIf_left _ _ _).raiseIf_left _ _ _).raiseIf_left _ _ _).raiseIf_left _ _ _

/-- A withdrawal looks at the QUEUED tasks of the list alone. -/
theorem State.withdrawWhere_congr {p q : TaskRecord → Bool} (h : ∀ t ∈ s.tasks, p t = q t) : s.withdrawWhere p = s.withdrawWhere q := by
  unfold State.withdrawWhere
  have hpick : (s.tasks.filter fun t => t.queued && p t) = s.tasks.filter fun t => t.queued && q t :=
    List.filter_congr fun t ht => by rw [h t ht]
  have hkeep : (s.tasks.filter fun t => !(t.queued && p t)) = s.tasks.filter fun t => !(t.queued && q t) :=
    List.filter_congr fun t ht => by rw [h t ht]
  rw [hpick, hkeep]

theorem TaskRecord.Shaped.brush_board {t : TaskRecord} (h : t.Shaped) (hk : t.kind = .brush) : ∃ c, t.place = .board c := by
  unfold TaskRecord.Shaped at h
  rw [hk] at h
  exact h.2.1

/-- R171: the BRUSHes withdrawn are those in LOW_ALARM afterwards and not before. -/
theorem State.brushInEntering_eq {after : Vector Zone 8} {t : TaskRecord} (h : t.Shaped) : s.brushInEntering s.zones after t =
    (t.kind == .brush && State.inLowAlarm { s with zones := after } t && !s.inLowAlarm t) := by
  by_cases hk : t.kind = .brush
  · obtain ⟨c, hc⟩ := h.brush_board hk
    simp only [State.brushInEntering, State.inLowAlarm, hc, TaskPlace.zones, List.any_cons, List.any_nil, Bool.or_false, entersLow,
      State.zone, Bool.and_assoc]
    refine congrArg _ (Bool.and_comm _ _)
  · have hne : (t.kind == .brush) = false := beq_false_of_ne hk
    simp only [State.brushInEntering, hne, Bool.false_and]

/-- The whole update: the notices, the withdrawals, the test. -/
theorem State.updateZones_eq (law : s.TaskLaw) (p : Vector ZoneReadings 8) : s.updateZones p =
    (let v : State := { s with zones := s.updatedZones p }
     ((v.zoneNotices s.zones (s.updatedZones p) p).withdrawWhere fun t => t.kind == .brush && v.inLowAlarm t && !s.inLowAlarm t).testIf
       (someZone s.zones (s.updatedZones p) fun a b => a.alarm != b.alarm)) := by
  unfold State.updateZones
  dsimp only
  rw [State.withdrawWhere_congr fun t ht => State.brushInEntering_eq (law.shapes t ?_)]
  have htasks : (State.zoneNotices { s with zones := s.updatedZones p } s.zones (s.updatedZones p) p).tasks = s.tasks := by
    simp [State.zoneNotices]
  rwa [htasks] at ht

end

/-- Settles O49: the update of all zones in one grant. -/
theorem zoneUpdateIsOneGrant : Obligations.ZoneUpdateIsOneGrant := by
  unfold Obligations.ZoneUpdateIsOneGrant
  refine fun s hs => ⟨fun hnone => congrArg Host.Outcome.next ((State.whenRunning_of_running hs _).trans ?_), ?_⟩
  · unfold State.takeHanded
    rw [State.granted_eq]
    dsimp only
    rw [hnone]
  · intro p rest law hhanded after alarming v u
    have hlaw : State.TaskLaw { s.inGrantOf .zoneUpdate with loop := { s.loop with handed := rest } } :=
      law.aside rfl rfl rfl rfl rfl rfl fun _ => rfl
    let noted := State.zoneNotices { v with arbiter := s.granted .zoneUpdate } s.zones after p
    let withdrawn := noted.withdrawWhere fun t => t.kind == .brush && v.inLowAlarm t && !s.inLowAlarm t
    have hstep : exec .zoneUpdate s = .next (withdrawn.testIf (someZone s.zones after fun a b => a.alarm != b.alarm)) := by
      refine congrArg Host.Outcome.next ((State.whenRunning_of_running hs _).trans ?_)
      unfold State.takeHanded
      rw [State.granted_eq]
      dsimp only
      rw [hhanded]
      exact State.updateZones_eq hlaw p
    have hnoted : SameInside noted v := (SameInside.zoneNotices _ _ _ _).trans ⟨rfl⟩
    have hwithdrawn : SameInside withdrawn u := hnoted.withdrawWhere _
    have hchanged : (someZone s.zones after fun a b => a.alarm != b.alarm) =
        decide (∃ z : ZoneNumber, (after[z]).alarm ≠ (s.zone z).alarm) := by
      rw [Bool.eq_iff_iff, someZone_iff, decide_eq_true_iff]
      simp only [bne_iff_ne, State.zone, ne_comm]
    have hemits := ((Emits.zoneNotices { v with arbiter := s.granted .zoneUpdate } (before := s.zones) (after := after) (p := p)
      ⟨Iff.rfl, Iff.rfl, Iff.rfl, Iff.rfl⟩).thenSilent (u := withdrawn)
      (State.withdrawWhere_ports _ _) (State.withdrawWhere_arbiter _ _)).trans
      (.testIf _ (someZone s.zones after fun a b => a.alarm != b.alarm))
    rw [hchanged] at hstep hemits
    rw [State.availableNow_congr hwithdrawn.inside] at hemits
    simp only [decide_eq_true_eq] at hemits
    refine ⟨_, hstep, hemits.arbiter, (hwithdrawn.testIf_left _).inside, ?_⟩
    exact ⟨hemits.sans, hemits.notices⟩

end Sys2Proof.Machine


namespace Sys2Proof.Machine

set_option Elab.async false

/-! ## Entries and the evictee -/

/-- The best of a list under a choice between two stands no worse than every element. -/
theorem foldl_choose_best {α : Type} {f : α → α → α} {R : α → α → Prop} (hrefl : ∀ a, R a a) (htrans : ∀ {a b c}, R a b → R b c → R a c)
    (hleft : ∀ a b, R (f a b) a) (hright : ∀ a b, R (f a b) b) (t : α) (l : List α) : ∀ x ∈ t :: l, R (l.foldl f t) x := by
  induction l generalizing t with
  | nil => simpa using hrefl t
  | cons y l ih =>
    intro x hx
    have hhead := ih (f t y) (f t y) List.mem_cons_self
    rcases List.mem_cons.1 hx with rfl | hx
    · exact htrans hhead (hleft _ _)
    · rcases List.mem_cons.1 hx with rfl | hx
      · exact htrans hhead (hright _ _)
      · exact ih _ x (List.mem_cons_of_mem _ hx)

section
variable {s : State} {t v : TaskRecord} {n : Fin 64}

/-- R62, R67: a list with room has a number free. -/
theorem State.freeNumber_isSome (law : s.TaskLaw) (h : s.tasks.length < 64) : ∃ n, s.freeNumber = some n := by
  refine Option.isSome_iff_exists.1 (List.find?_isSome.2 ?_)
  have hcard : (s.tasks.map TaskRecord.number).toFinset.card < (Finset.univ : Finset (Fin 64)).card := by
    rw [List.toFinset_card_of_nodup law.numbers, List.length_map, Finset.card_fin]
    exact h
  obtain ⟨n, -, hn⟩ := Finset.exists_mem_notMem_of_card_lt_card hcard
  refine ⟨n, List.mem_finRange n, List.all_eq_true.2 fun t ht => bne_iff_ne.2 fun htn => hn ?_⟩
  exact List.mem_toFinset.2 (List.mem_map.2 ⟨t, ht, htn⟩)

theorem State.enter_of_freeNumber (h : s.freeNumber = some n) : s.enter t = some (State.markTask { s.makeRoomInSequence with
      tasks := s.makeRoomInSequence.tasks ++ [s.makeRoomInSequence.entry t n]
      dispatch := { s.makeRoomInSequence.dispatch with sequence := s.makeRoomInSequence.dispatch.sequence + 1 } }
      (s.makeRoomInSequence.entry t n) true, n) := by
  unfold State.enter
  rw [h]
  rfl

theorem State.makeRoomInSequence_wheels (s : State) : s.makeRoomInSequence.wheels = s.wheels := by
  unfold State.makeRoomInSequence
  split <;> rfl

theorem State.makeRoomInSequence_below (h : s.dispatch.sequence < Config.maxMinute) : s.makeRoomInSequence = s := if_neg h.ne

theorem State.makeRoomInSequence_full (h : s.dispatch.sequence = Config.maxMinute) : s.makeRoomInSequence =
    { s with
      tasks := s.tasks.mapIdx fun i v => { v with sequence := i }
      dispatch := { s.dispatch with sequence := s.tasks.length } } := by
  unfold State.makeRoomInSequence
  rw [if_pos h, restamp_eq]
  simp only [Nat.zero_add]

/-- A task that eviction takes no later than another: the lower standing score, and among equals the later entered (R64). -/
def State.evictedFirst (s : State) (a b : TaskRecord) : Prop :=
  s.standing a < s.standing b ∨ (s.standing a = s.standing b ∧ b.sequence ≤ a.sequence)

theorem State.evictee_first {e : TaskRecord} (h : s.evictee = some e) (hv : v ∈ s.tasks) (hq : v.queued = true) (hc : v.isCare = true) :
    s.evictedFirst e v := by
  unfold State.evictee at h
  split at h
  · cases h
  · next t rest hlist =>
    cases h
    have hmem : v ∈ t :: rest := hlist ▸ List.mem_filter.2 ⟨hv, by simp [hq, hc]⟩
    refine foldl_choose_best (R := s.evictedFirst) (fun a => .inr ⟨rfl, le_rfl⟩) ?_ ?_ ?_ t rest v hmem
    · unfold State.evictedFirst
      omega
    · intro a b
      unfold State.evictedFirst State.weaker
      split_ifs <;> omega
    · intro a b
      unfold State.evictedFirst State.weaker
      split_ifs <;> omega

/-- R64: the QUEUED care task that every other one outlasts is the one that eviction takes. -/
theorem State.evictee_eq (hv : v ∈ s.tasks) (hq : v.queued = true) (hc : v.isCare = true)
    (hleast : ∀ v' ∈ s.tasks, v'.queued = true → v'.isCare = true → v' ≠ v →
      s.standing v < s.standing v' ∨ (s.standing v = s.standing v' ∧ v'.sequence < v.sequence)) : s.evictee = some v := by
  cases he : s.evictee with
  | none =>
    unfold State.evictee at he
    split at he
    · next hnone => exact absurd (List.mem_filter.2 ⟨hv, by simp [hq, hc]⟩) (hnone ▸ List.not_mem_nil)
    · cases he
  | some e =>
    obtain ⟨hmem, hqueued, hcare⟩ := State.evictee_some he
    have hfirst := State.evictee_first he hv hq hc
    unfold State.evictedFirst at hfirst
    by_contra hne
    have hother := hleast e hmem hqueued hcare fun h => hne (h ▸ rfl)
    omega

theorem State.evictee_none (h : ∀ v ∈ s.tasks, v.queued = true → v.isCare = false) : s.evictee = none := by
  cases he : s.evictee with
  | none => rfl
  | some e =>
    obtain ⟨hmem, hqueued, hcare⟩ := State.evictee_some he
    rw [h e hmem hqueued] at hcare
    cases hcare

theorem State.offerCare_room (hc : s.careCount < 56) (hl : s.tasks.length < 64) : s.offerCare t = (s.enter t).map Prod.fst :=
  if_pos ⟨hc, decide_eq_true hl⟩

theorem State.offerCare_full (h : 56 ≤ s.careCount ∨ 64 ≤ s.tasks.length) : s.offerCare t =
    s.evictee.bind fun v => if s.standing v < s.standing t then ((s.withdraw v.number).enter t).map Prod.fst else none := by
  have hfull : ¬ (s.careCount < Config.careRoom ∧ s.hasRoom = true) := by
    simp only [Config.careRoom, State.hasRoom, Config.listRoom, decide_eq_true_eq]
    omega
  unfold State.offerCare
  rw [if_neg hfull]
  cases s.evictee <;> rfl

end

/-- Settles O22: an entry, then the offers of a care candidate and of a non-care task. -/
theorem entriesMakeTheirRoomAndStamp : Obligations.EntriesMakeTheirRoomAndStamp := by
  unfold Obligations.EntriesMakeTheirRoomAndStamp
  refine ⟨fun s t law hroom => ?entered, fun s t => ⟨State.offerCare_room, fun hfull => ⟨fun hnone => ?noneToTake, fun v hv hq hc hleast => ?displaced⟩⟩,
    fun s t => ⟨fun hfull => ?noRoom, fun hbelow hl => ?room, fun hbelow hl v hv hq hc hleast => ?withdrawn⟩⟩
  case entered =>
    obtain ⟨n, hn⟩ := State.freeNumber_isSome law hroom
    refine ⟨_, n, State.enter_of_freeNumber hn, State.freeNumber_free hn, fun m hm => State.freeNumber_lowest hn hm, fun hseq => ?_,
      fun hseq => ?_, fun v => ?_⟩
    · rw [State.markTask_frame]
      simp only [State.makeRoomInSequence_below hseq]
      rfl
    · rw [State.markTask_frame]
      simp only [State.makeRoomInSequence_full hseq]
      rfl
    · rw [State.wheel_markTask]
      have hwheel : ∀ l d, State.wheel { s.makeRoomInSequence with tasks := l, dispatch := d } v = s.wheel v := fun l d => by
        simp only [State.wheel, State.makeRoomInSequence_wheels]
      rw [hwheel]
      rfl
  case noneToTake => rw [State.offerCare_full hfull, State.evictee_none hnone, Option.bind_none]
  case displaced => rw [State.offerCare_full hfull, State.evictee_eq hv hq hc hleast, Option.bind_some]
  case noRoom => exact if_neg (not_lt.2 hfull)
  case room => exact (if_pos hbelow).trans (if_pos (decide_eq_true hl))
  case withdrawn =>
    unfold State.offerNonCare
    rw [if_pos hbelow, if_neg (by simpa [State.hasRoom, Config.listRoom] using hl), State.evictee_eq hv hq hc hleast]

/-- Settles O24: the standing score, and the dispatch score at no known position and at one. -/
theorem scoresAreComputedByTheRules : Obligations.ScoresAreComputedByTheRules := by
  unfold Obligations.ScoresAreComputedByTheRules
  intro s t weight late alarm kind standing
  have hweight : s.weightOf t = weight := by
    unfold State.weightOf
    cases hw : t.wheel with
    | none => simp only [weight, hw, Option.bind_none, Config.surveyWeight]
    | some w => cases hx : s.wheel w <;> simp only [weight, hw, hx, Option.bind_some, Config.surveyWeight]
  have hlate : s.lateness t = late := by
    unfold State.lateness
    simp only [late]
    split_ifs <;> omega
  have hstanding : s.standing t = standing := by
    unfold State.standing
    rw [hweight, hlate]
    rfl
  refine ⟨hstanding, fun hnone => ?_, ?_⟩
  · unfold State.dispatchScore State.travelCost
    rw [hnone, hstanding, Nat.sub_zero]
  · intro p hp q cost
    have hcost : (s.travelCost t : Int) = cost := by
      unfold State.travelCost
      rw [hp]
      push_cast
      rfl
    have hmax : standing ≤ 65535 := min_le_left _ _
    unfold State.dispatchScore
    rw [hstanding]
    omega

end Sys2Proof.Machine


namespace Sys2Proof.Machine

set_option Elab.async false

/-! ## The choice at TAKE (R75 to R77) -/

section
variable {s : State} {t v : TaskRecord}

theorem State.eligible_iff : s.eligible t = true ↔
    t.queued = true ∧ (∀ z ∈ t.zones s, (s.zone z).exclusion = .none) ∧ ¬ (t.kind = .brush ∧ s.inLowAlarm t = true) := by
  simp [State.eligible, State.excluded, and_assoc, imp_iff_not_or]

/-- The QUEUED CARRIED task entered first, where there is one (R77). -/
theorem State.carriedFirst_some (h : s.carriedFirst = some t) : t ∈ s.tasks ∧ t.queued = true ∧ t.phase = some .carried ∧
    ∀ v ∈ s.tasks, v.queued = true → v.phase = some .carried → t.sequence ≤ v.sequence := by
  unfold State.carriedFirst at h
  split at h
  · cases h
  · next a rest hlist =>
    cases h
    have hmem := foldl_choose_mem older (fun a b => by unfold older; split <;> simp) a rest
    rw [← hlist, List.mem_filter] at hmem
    obtain ⟨hin, hpick⟩ := hmem
    obtain ⟨hqueued, hphase⟩ := by simpa using hpick
    refine ⟨hin, hqueued, hphase, fun v hv hq hp => ?_⟩
    have hvmem : v ∈ a :: rest := hlist ▸ List.mem_filter.2 ⟨hv, by simp [hq, hp]⟩
    refine foldl_choose_best (R := fun a b => a.sequence ≤ b.sequence) (fun _ => le_rfl) (fun h g => h.trans g) ?_ ?_ a rest v hvmem
    · intro a b
      unfold older
      split_ifs <;> omega
    · intro a b
      unfold older
      split_ifs <;> omega

theorem State.carriedFirst_none : s.carriedFirst = none ↔ ∀ t ∈ s.tasks, t.queued = true → t.phase ≠ some .carried := by
  unfold State.carriedFirst
  constructor
  · intro h t ht hq hp
    split at h
    · next hnone => exact absurd (List.mem_filter.2 ⟨ht, by simp [hq, hp]⟩) (hnone ▸ List.not_mem_nil)
    · cases h
  · intro h
    split
    · rfl
    · next a rest hlist =>
      have hmem : a ∈ s.tasks.filter fun t => t.queued && t.phase == some .carried := hlist ▸ List.mem_cons_self
      obtain ⟨hin, hpick⟩ := List.mem_filter.1 hmem
      obtain ⟨hq, hp⟩ := by simpa using hpick
      exact absurd hp (h a hin hq)

/-- The eligible task of highest dispatch score, the oldest among equals (R75). -/
theorem State.best_eligible (h : s.best (s.tasks.filter s.eligible) = some t) : t ∈ s.tasks ∧ s.eligible t = true ∧
    ∀ v ∈ s.tasks, s.eligible v = true → s.dispatchScore v < s.dispatchScore t ∨
      (s.dispatchScore v = s.dispatchScore t ∧ t.sequence ≤ v.sequence) := by
  rcases hlist : s.tasks.filter s.eligible with _ | ⟨a, rest⟩ <;> rw [hlist] at h
  · cases h
  · cases h
    have hmem := foldl_choose_mem s.better (fun a b => by unfold State.better; split <;> simp) a rest
    rw [← hlist, List.mem_filter] at hmem
    refine ⟨hmem.1, hmem.2, fun v hv he => ?_⟩
    have hvmem : v ∈ a :: rest := hlist ▸ List.mem_filter.2 ⟨hv, he⟩
    refine foldl_choose_best (R := fun a b => s.dispatchScore b < s.dispatchScore a ∨
      (s.dispatchScore b = s.dispatchScore a ∧ a.sequence ≤ b.sequence)) (fun _ => .inr ⟨rfl, le_rfl⟩) ?_ ?_ ?_ a rest v hvmem
    · intro a b c
      omega
    · intro a b
      unfold State.better
      split_ifs <;> omega
    · intro a b
      unfold State.better
      split_ifs <;> omega

theorem State.best_none : s.best (s.tasks.filter s.eligible) = none ↔ ∀ t ∈ s.tasks, s.eligible t = false := by
  rcases hlist : s.tasks.filter s.eligible with _ | ⟨a, rest⟩
  · refine ⟨fun _ t ht => ?_, fun _ => rfl⟩
    by_contra he
    exact absurd (List.mem_filter.2 ⟨ht, by simpa using he⟩) (hlist ▸ List.not_mem_nil)
  · refine ⟨nofun, fun h => ?_⟩
    have hmem : a ∈ s.tasks.filter s.eligible := hlist ▸ List.mem_cons_self
    obtain ⟨hin, he⟩ := List.mem_filter.1 hmem
    rw [h a hin] at he
    cases he

theorem State.choice_empty_iff : s.choice = .empty ↔ s.tasks = [] := by
  unfold State.choice
  constructor
  · intro h
    split at h
    · assumption
    · split at h
      · split at h <;> cases h
      · split at h <;> cases h
  · exact fun h => if_pos h

theorem State.choice_carried (h : s.carriedFirst = some t) : s.choice = if s.eligible t = true then .task t else .blocked := by
  unfold State.choice
  rw [if_neg (List.ne_nil_of_mem (State.carriedFirst_some h).1), h]

theorem State.choice_best (hne : s.tasks ≠ []) (h : s.carriedFirst = none) :
    s.choice = ((s.best (s.tasks.filter s.eligible)).map Choice.task).getD .blocked := by
  unfold State.choice
  rw [if_neg hne, h]
  dsimp only
  cases s.best (s.tasks.filter s.eligible) <;> rfl

end

/-- Settles O25: the CARRIED task first, else the eligible task of highest score. -/
theorem choiceFollowsPrecedenceAndScore : Obligations.ChoiceFollowsPrecedenceAndScore := by
  unfold Obligations.ChoiceFollowsPrecedenceAndScore
  intro s _ carried eligible
  have heligible (t : TaskRecord) : eligible t ↔ t ∈ s.tasks ∧ s.eligible t = true := by rw [State.eligible_iff]
  have hfirst (hnone : ∀ t, ¬ carried t) : s.carriedFirst = none :=
    State.carriedFirst_none.2 fun t ht hq hp => hnone t ⟨ht, hq, hp⟩
  refine ⟨State.choice_empty_iff, fun ⟨v, hv, hq, hp⟩ => ?_, fun hnone hne hblocked => ?_, fun hnone ⟨v, hv⟩ => ?_⟩
  · cases hc : s.carriedFirst with
    | none => exact absurd hp (State.carriedFirst_none.1 hc v hv hq)
    | some t =>
      obtain ⟨hmem, hqueued, hphase, hleast⟩ := State.carriedFirst_some hc
      refine ⟨t, ⟨hmem, hqueued, hphase⟩, fun v hv => hleast v hv.1 hv.2.1 hv.2.2, fun he => ?_, fun he => ?_⟩
      · rw [State.choice_carried hc, if_pos ((heligible t).1 he).2]
      · rw [State.choice_carried hc, if_neg fun h => he ((heligible t).2 ⟨hmem, h⟩)]
  · have hbest : s.best (s.tasks.filter s.eligible) = none :=
      State.best_none.2 fun t ht => by simpa using fun h => hblocked t ((heligible t).2 ⟨ht, h⟩)
    rw [State.choice_best hne (hfirst hnone), hbest]
    rfl
  · obtain ⟨hmem, he⟩ := (heligible v).1 hv
    cases hb : s.best (s.tasks.filter s.eligible) with
    | none => exact absurd (State.best_none.1 hb v hmem) (by simp [he])
    | some t =>
      obtain ⟨htmem, hte, hbest⟩ := State.best_eligible hb
      refine ⟨t, ?_, (heligible t).2 ⟨htmem, hte⟩, fun v hv => ?_⟩
      · rw [State.choice_best (List.ne_nil_of_mem hmem) (hfirst hnone), hb]
        rfl
      · exact hbest v ((heligible v).1 hv).1 ((heligible v).1 hv).2

end Sys2Proof.Machine


namespace Sys2Proof.Machine

set_option Elab.async false

/-! ## Issue (R70, R80 to R84, R95, R117) -/

section
variable {s : State} {x v : TaskRecord} {w : Nat} {r : Wheel}

/-- R80: the marks of a list of zones set. -/
theorem State.markZones_eq (s : State) (l : List ZoneNumber) : l.foldl State.markZone s = { s with
    zones := Vector.ofFn fun z : ZoneNumber => { s.zone z with presence := (s.zone z).presence || l.contains z } } := by
  induction l generalizing s with
  | nil =>
    have hzones : (Vector.ofFn fun z : ZoneNumber => { s.zone z with presence := (s.zone z).presence || [].contains z }) = s.zones := by
      ext i hi
      simp [State.zone]
    rw [hzones]
    rfl
  | cons a l ih =>
    have hzones (z : ZoneNumber) : ({ (s.markZone a).zone z with
        presence := ((s.markZone a).zone z).presence || l.contains z } : Zone) =
        { s.zone z with presence := (s.zone z).presence || (a :: l).contains z } := by
      by_cases hz : z = a
      · subst hz
        simp [State.markZone]
      · simp [State.markZone, hz]
    rw [List.foldl_cons, ih]
    simp only [hzones]
    rfl

/-- R70, R80: a task ISSUED under an issue number. -/
def TaskRecord.issuedUnder (x : TaskRecord) (n : Nat) : TaskRecord := { x with state := .issued, issue := n, rereads := 0 }

/-- R70, R80: a state once a task is ISSUED and its zones are marked. -/
def State.issued (s : State) (x : TaskRecord) : State := { s with
  dispatch := { s.dispatch with lastIssue := s.dispatch.lastIssue.set x.number (s.nextIssue x.number) }
  tasks := s.tasks.map fun v => if v.number = x.number then x.issuedUnder (s.nextIssue x.number) else v
  zones := Vector.ofFn fun z : ZoneNumber => { s.zone z with presence := (s.zone z).presence || (x.zones s).contains z } }

theorem State.issued_eq (law : s.ListLaw) (hx : x ∈ s.tasks) :
    (x.zones s).foldl State.markZone ((s.stampIssue x.number).changeTask x.number fun v => { v with state := .issued, rereads := 0 }) =
      s.issued x := by
  have htasks : ((s.stampIssue x.number).changeTask x.number fun v => { v with state := .issued, rereads := 0 }).tasks =
      (s.issued x).tasks := by
    simp only [State.changeTask, State.stampIssue, State.issued, List.map_map]
    refine List.map_congr_left fun v hv => ?_
    by_cases hn : v.number = x.number
    · rw [law.eq_of_number hv hx hn]
      simp [TaskRecord.issuedUnder]
    · simp [hn]
  rw [State.markZones_eq, State.issued]
  simp only [State.issued] at htasks
  rw [← htasks]
  rfl

/-- R68, R95, R117: the link WORKING on a task issued with a tag as one of a kind. -/
def State.atWork (s : State) (tag : Option TagId) (k : TaskKind) : State := { s with link := { s.link with
  state := .working, verified := false, issuedTag := tag, deadline := some s.config.robot.allowances[k.index] } }

/-- R80 to R84, R95, R117: an issue by its steps. -/
theorem State.issue_eq (law : s.ListLaw) (hx : x ∈ s.tasks) : s.issue x =
    (((s.issued x).issueMovement x).merge x).atWork (s.tagOf x)
      (((((s.issued x).issueMovement x).merge x).task x.number |>.map TaskRecord.kind).getD x.kind) := by
  unfold State.issue
  dsimp only
  rw [State.issued_eq law hx]
  rfl

theorem State.mem_issued (h : v.number ≠ x.number) : v ∈ (s.issued x).tasks ↔ v ∈ s.tasks := by
  simp only [State.issued, List.mem_map]
  constructor
  · rintro ⟨y, hy, hyv⟩
    by_cases hn : y.number = x.number
    · rw [if_pos hn] at hyv
      exact absurd (congrArg TaskRecord.number hyv).symm h
    · rw [if_neg hn] at hyv
      exact hyv ▸ hy
  · exact fun hv => ⟨v, hv, if_neg h⟩

theorem State.own_issued (hx : x ∈ s.tasks) : x.issuedUnder (s.nextIssue x.number) ∈ (s.issued x).tasks :=
  List.mem_map.2 ⟨x, hx, if_pos rfl⟩

theorem State.numbers_issued (law : s.ListLaw) : ((s.issued x).tasks.map TaskRecord.number).Nodup := by
  have hsame : (s.issued x).tasks.map TaskRecord.number = s.tasks.map TaskRecord.number := by
    rw [State.issued, List.map_map]
    refine List.map_congr_left fun v _ => ?_
    by_cases hn : v.number = x.number
    · simp [hn, TaskRecord.issuedUnder]
    · simp [hn]
  rw [hsame]
  exact law.numbers

theorem State.queued_issued (hv : v ∈ (s.issued x).tasks) (hq : v.queued = true) : v.number ≠ x.number := by
  obtain ⟨y, hy, rfl⟩ := List.mem_map.1 hv
  by_cases hn : y.number = x.number
  · rw [if_pos hn] at hq
    cases hq
  · rwa [if_neg hn]

/-- R80, R82, R83: the task to be issued is merged. -/
def State.MergesOwn (s : State) (x : TaskRecord) : Prop := ∃ w r, x.wheel = some w ∧ s.wheel w = some r ∧ s.Merges x r

/-- What an issue makes of the list and the wheels, the task ISSUED as one of kind k. -/
structure IssueEffect (s : State) (x : TaskRecord) (e : State) (k : TaskKind) : Prop where
  frame : e = { s.issued x with tasks := e.tasks, wheels := e.wheels }
  own : { x.issuedUnder (s.nextIssue x.number) with kind := k } ∈ e.tasks
  numbers : (e.tasks.map TaskRecord.number).Nodup
  merged : s.MergesOwn x → k = .flipBrush
  kept : ¬ s.MergesOwn x → k = x.kind
  others : ∀ v, v.number ≠ x.number → (v ∈ e.tasks ↔ v ∈ s.tasks ∧
    ¬ (v.wheel = x.wheel ∧ x.wheel ≠ none ∧
      ((x.kind.clearsCare = true ∧ v.isCare = true) ∨
       (s.MergesOwn x ∧ x.kind = .flip ∧ v.kind = .brush) ∨ (s.MergesOwn x ∧ x.kind = .brush ∧ v.kind = .flip))))
  otherWheels : ∀ w r, s.wheel w = some r → x.wheel ≠ some w → e.wheel w = some r
  ownWheel : ∀ w r, s.wheel w = some r → x.wheel = some w → ∃ r', e.wheel w = some r' ∧
    r' = { r with
      intent := if x.isMovement then r.intent.map fun i => { i with status := .active } else r.intent
      flipMark := r'.flipMark, brushMark := r'.brushMark, moveMark := r'.moveMark } ∧
    r'.moveMark = r.moveMark ∧ (s.MergesOwn x → r'.flipMark = true ∧ r'.brushMark = true) ∧
    (¬ s.MergesOwn x → x.kind.clearsCare = false → r'.flipMark = r.flipMark ∧ r'.brushMark = r.brushMark) ∧
    (x.kind.clearsCare = true →
      r'.flipMark = (r.flipMark && !s.tasks.any fun v => v.wheel == some w && (v.kind == .flip || v.kind == .flipBrush)) ∧
      r'.brushMark = (r.brushMark && !s.tasks.any fun v => v.wheel == some w && (v.kind == .brush || v.kind == .flipBrush)))

/-- A care task or a survey that is not merged. -/
theorem IssueEffect.plain (law : s.ListLaw) (hx : x ∈ s.tasks) (hmove : x.isMovement = false) (hclear : x.kind.clearsCare = false)
    (hno : ¬ s.MergesOwn x) : IssueEffect s x (s.issued x) x.kind where
  frame := rfl
  own := State.own_issued hx
  numbers := State.numbers_issued law
  merged := fun h => absurd h hno
  kept := fun _ => rfl
  others := fun v hv => by simp [State.mem_issued hv, hclear, hno]
  otherWheels := fun w r hr _ => hr
  ownWheel := fun w r hr _ => ⟨r, hr, by simp [hmove], rfl, fun h => absurd h hno, fun _ _ => ⟨rfl, rfl⟩, by simp [hclear]⟩

/-- R80: a movement task's intent becomes ACTIVE. -/
def State.activate (s : State) (w : Nat) : State :=
  s.changeWheel w fun x => { x with intent := x.intent.map fun i => { i with status := .active } }

/-- A movement whose issue clears no care tasks. -/
theorem IssueEffect.movement (law : s.ListLaw) (hx : x ∈ s.tasks) (hmove : x.isMovement = true) (hw : x.wheel = some w)
    (hclear : x.kind.clearsCare = false) (hno : ¬ s.MergesOwn x) : IssueEffect s x ((s.issued x).activate w) x.kind where
  frame := rfl
  own := State.own_issued hx
  numbers := State.numbers_issued law
  merged := fun h => absurd h hno
  kept := fun _ => rfl
  others := fun v hv => by
    have hmem : v ∈ ((s.issued x).activate w).tasks ↔ v ∈ s.tasks := State.mem_issued hv
    simp [hmem, hclear, hno]
  otherWheels := fun y r hr hy => by
    have hne : y ≠ w := fun h => hy (h ▸ hw)
    rw [State.activate, State.wheel_changeWheel, if_neg hne]
    exact hr
  ownWheel := fun y r hr hy => by
    obtain rfl : w = y := Option.some.inj (hw.symm.trans hy)
    refine ⟨{ r with intent := r.intent.map fun i => { i with status := .active } }, ?_, by simp [hmove], rfl, fun h => absurd h hno,
      fun _ _ => ⟨rfl, rfl⟩, by simp [hclear]⟩
    rw [State.activate, State.wheel_changeWheel, if_pos rfl]
    exact congrArg (Option.map _) hr

/-- R85: the marks that the withdrawal of a wheel's QUEUED care tasks clears, once a movement of it is ISSUED. -/
theorem State.careMarks_issued (law : s.ListLaw) (hx : x ∈ s.tasks) (hq : ∀ v ∈ s.tasks, v.queued = true) (hmove : x.isCare = false)
    {kinds : TaskKind → Bool} (hkinds : ∀ t : TaskRecord, kinds t.kind = true → t.isCare = true) (w : Nat) :
    (((s.issued x).tasks.filter fun t => t.queued && (t.isCare && t.names w)).filter fun t => t.wheel == some w).any
      (fun t => kinds t.kind) = s.tasks.any fun v => v.wheel == some w && kinds v.kind := by
  rw [Bool.eq_iff_iff, List.any_eq_true, List.any_eq_true]
  constructor
  · rintro ⟨t, ht, hk⟩
    obtain ⟨ht, hw⟩ := List.mem_filter.1 ht
    obtain ⟨ht, hpick⟩ := List.mem_filter.1 ht
    have hqueued : t.queued = true := (Bool.and_eq_true _ _ ▸ hpick).1
    exact ⟨t, (State.mem_issued (State.queued_issued ht hqueued)).1 ht, by rw [hw, hk]; rfl⟩
  · rintro ⟨t, ht, hk⟩
    obtain ⟨hw, hk⟩ := (Bool.and_eq_true _ _).mp hk
    have hcare := hkinds t hk
    have hn : t.number ≠ x.number := fun h => by
      rw [law.eq_of_number ht hx h, hmove] at hcare
      cases hcare
    refine ⟨t, List.mem_filter.2 ⟨List.mem_filter.2 ⟨(State.mem_issued hn).2 ht, ?_⟩, hw⟩, hk⟩
    simp only [hq t ht, hcare, TaskRecord.names, hw, Bool.and_self]

/-- R84: a movement whose issue withdraws the wheel's QUEUED care tasks. -/
theorem IssueEffect.clearing (law : s.ListLaw) (hq : ∀ v ∈ s.tasks, v.queued = true) (hx : x ∈ s.tasks) (hmove : x.isMovement = true)
    (hcare : x.isCare = false) (hw : x.wheel = some w) (hclear : x.kind.clearsCare = true) (hno : ¬ s.MergesOwn x) :
    IssueEffect s x (((s.issued x).activate w).withdrawCare w) x.kind where
  frame := by
    have h := ((s.issued x).activate w).withdrawWhere_frame fun t => t.isCare && t.names w
    rw [State.withdrawCare, State.withdrawWhere_tasks]
    exact h
  own := by
    rw [State.withdrawCare, State.withdrawWhere_tasks]
    exact List.mem_filter.2 ⟨State.own_issued hx, rfl⟩
  numbers := by
    rw [State.withdrawCare, State.withdrawWhere_tasks]
    exact (State.numbers_issued law).sublist (List.filter_sublist.map _)
  merged := fun h => absurd h hno
  kept := fun _ => rfl
  others := fun v hv => by
    have hmem : v ∈ ((s.issued x).activate w).tasks ↔ v ∈ s.tasks := State.mem_issued hv
    rw [State.withdrawCare, State.withdrawWhere_tasks, List.mem_filter, hmem]
    refine and_congr_right fun hvs => ?_
    simp [hq v hvs, hclear, hno, hw, TaskRecord.names, imp_iff_or_not]
  otherWheels := fun y r hr hy => by
    have hne : y ≠ w := fun h => hy (h ▸ hw)
    have hactive : ((s.issued x).activate w).wheel y = some r := by
      rw [State.activate, State.wheel_changeWheel, if_neg hne]
      exact hr
    have hnone : (((((s.issued x).activate w).tasks.filter fun t => t.queued && (t.isCare && t.names w))).filter
        fun t => t.wheel == some y) = [] := by
      rw [List.filter_eq_nil_iff]
      intro t ht
      have hnames := (List.mem_filter.1 ht).2
      simp only [TaskRecord.names, Bool.and_eq_true, beq_iff_eq] at hnames
      simp [hnames.2.2, Ne.symm hne]
    rw [State.withdrawCare, State.wheel_withdrawWhere, hnone, hactive]
    rfl
  ownWheel := fun y r hr hy => by
    obtain rfl : w = y := Option.some.inj (hw.symm.trans hy)
    have hactive : ((s.issued x).activate w).wheel w = some { r with intent := r.intent.map fun i => { i with status := .active } } := by
      rw [State.activate, State.wheel_changeWheel, if_pos rfl]
      exact congrArg (Option.map _) hr
    have hflips := State.careMarks_issued law hx hq hcare (kinds := TaskKind.flips)
      (fun t ht => by cases h : t.kind <;> simp_all [TaskRecord.isCare, TaskKind.flips]) w
    have hbrushes := State.careMarks_issued law hx hq hcare (kinds := TaskKind.brushes)
      (fun t ht => by cases h : t.kind <;> simp_all [TaskRecord.isCare, TaskKind.brushes]) w
    have hmoves : ((((s.issued x).tasks.filter fun t => t.queued && (t.isCare && t.names w))).filter fun t => t.wheel == some w).any
        (fun t => t.kind.moves) = false := by
      rw [List.any_eq_false]
      intro t ht
      have hpick := (List.mem_filter.1 (List.mem_filter.1 ht).1).2
      have hcare : t.isCare = true := by simp only [Bool.and_eq_true] at hpick; exact hpick.2.1
      cases h : t.kind <;> simp_all [TaskRecord.isCare, TaskKind.moves, TaskKind.flips, TaskKind.brushes]
    have hwheel : (((s.issued x).activate w).withdrawCare w).wheel w = some { r with
        intent := r.intent.map fun i => { i with status := .active }
        flipMark := r.flipMark && !s.tasks.any fun v => v.wheel == some w && v.kind.flips
        brushMark := r.brushMark && !s.tasks.any fun v => v.wheel == some w && v.kind.brushes } := by
      have htasks : ((s.issued x).activate w).tasks = (s.issued x).tasks := rfl
      rw [State.withdrawCare, State.wheel_withdrawWhere, hactive, Option.map_some, Wheel.mark_all, htasks, hflips, hbrushes, hmoves]
      simp only [Bool.not_false, Bool.and_true]
    exact ⟨_, hwheel, by simp [hmove], rfl, fun h => absurd h hno, fun _ h => absurd h (by simp [hclear]), fun _ => ⟨rfl, rfl⟩⟩

/-- R82, R83: the merge, of a task whose wheel's other care task is withdrawn with its mark kept. -/
theorem IssueEffect.merging (law : s.ListLaw) (hq : ∀ v ∈ s.tasks, v.queued = true) (hx : x ∈ s.tasks) {other : TaskKind}
    (hkind : (x.kind = .flip ∧ other = .brush) ∨ (x.kind = .brush ∧ other = .flip)) (hw : x.wheel = some w) (hmerges : s.MergesOwn x) :
    IssueEffect s x ((s.issued x).mergeInto x w other) .flipBrush where
  frame := rfl
  own := by
    refine (State.mem_changeTask _ _ _).2 ⟨x.issuedUnder (s.nextIssue x.number), List.mem_filter.2 ⟨State.own_issued hx, rfl⟩, ?_⟩
    exact (if_pos rfl).symm
  numbers := by
    have hsame := State.changeTask_numbers { s.issued x with
      tasks := (s.issued x).tasks.filter fun v => !(v.queued && v.kind == other && v.names w) } x.number
      (fun v => { v with kind := .flipBrush }) fun _ => rfl
    exact hsame ▸ (State.numbers_issued law).sublist (List.filter_sublist.map _)
  merged := fun _ => rfl
  kept := fun h => absurd hmerges h
  others := fun v hv => by
    have hmem : v ∈ ((s.issued x).mergeInto x w other).tasks ↔
        v ∈ (s.issued x).tasks.filter fun v => !(v.queued && v.kind == other && v.names w) := by
      refine (State.mem_changeTask _ _ _).trans ⟨?_, fun h => ⟨v, h, (if_neg hv).symm⟩⟩
      rintro ⟨y, hy, rfl⟩
      by_cases hn : y.number = x.number
      · rw [if_pos hn] at hv
        exact absurd hn hv
      · rwa [if_neg hn]
    rw [hmem, List.mem_filter, State.mem_issued hv]
    refine and_congr_right fun hvs => ?_
    rcases hkind with ⟨hk, rfl⟩ | ⟨hk, rfl⟩ <;> simp [hq v hvs, hmerges, hk, hw, TaskRecord.names, TaskKind.clearsCare, imp_iff_or_not]
  otherWheels := fun y r hr hy => by
    have hne : y ≠ w := fun h => hy (h ▸ hw)
    rw [State.mergeInto, State.wheel_changeWheel, if_neg hne]
    exact hr
  ownWheel := fun y r hr hy => by
    obtain rfl : w = y := Option.some.inj (hw.symm.trans hy)
    have hmove : x.isMovement = false := by rcases hkind with ⟨h, -⟩ | ⟨h, -⟩ <;> simp [TaskRecord.isMovement, h]
    have hclear : x.kind.clearsCare = false := by rcases hkind with ⟨h, -⟩ | ⟨h, -⟩ <;> rw [h] <;> rfl
    refine ⟨r.mark .flipBrush true, ?_, by simp [hmove, Wheel.mark], rfl, fun _ => ⟨rfl, rfl⟩, fun h => absurd hmerges h,
      fun h => absurd h (by simp [hclear])⟩
    rw [State.mergeInto, State.wheel_changeWheel, if_pos rfl]
    exact congrArg (Option.map _) hr

theorem State.zone_issued (z : ZoneNumber) :
    (s.issued x).zone z = { s.zone z with presence := (s.zone z).presence || (x.zones s).contains z } := by
  simp [State.zone, State.issued]

/-- R82, R83: the merge is judged by the same clock, zones and record as before the issue. -/
theorem State.mergesFlip_issued : (s.issued x).mergesFlip x r = s.mergesFlip x r := by
  have hlow : (s.issued x).inLowAlarm x = s.inLowAlarm x := by
    unfold State.inLowAlarm
    cases x.place with
    | board c =>
      have hzone : (s.issued x).zoneOf c = s.zoneOf c := rfl
      simp only [hzone, State.zone_issued]
    | infeed => rfl
    | level a l => rfl
  unfold State.mergesFlip
  rw [hlow]
  rfl

theorem State.mergesBrush_issued : (s.issued x).mergesBrush x r = s.mergesBrush x r := rfl

theorem State.dueWithin_iff {due : Option Nat} {window : Nat} :
    s.dueWithin due window = true ↔ ∃ m, due = some m ∧ m ≤ s.clock.minute + window := by
  cases due <;> simp [State.dueWithin]

theorem State.mergesFlip_iff : s.mergesFlip x r = true ↔ x.kind = .flip ∧
    (∃ m, r.brushDue = some m ∧ m ≤ s.clock.minute + s.config.classes[r.cls].merge) ∧ s.inLowAlarm x = false ∧ r.hold ≠ .quarantine := by
  simp only [State.mergesFlip, Bool.and_eq_true, State.dueWithin_iff, beq_iff_eq, Bool.not_eq_true', bne_iff_ne, and_assoc]

theorem State.mergesBrush_iff : s.mergesBrush x r = true ↔ x.kind = .brush ∧
    ∃ m, r.flipDue = some m ∧ m ≤ s.clock.minute + s.config.classes[r.cls].merge := by
  simp only [State.mergesBrush, Bool.and_eq_true, State.dueWithin_iff, beq_iff_eq]

theorem State.mergesOwn_iff (hw : x.wheel = some w) (hr : s.wheel w = some r) :
    s.MergesOwn x ↔ s.mergesFlip x r = true ∨ s.mergesBrush x r = true := by
  rw [State.mergesFlip_iff, State.mergesBrush_iff]
  constructor
  · rintro ⟨v, q, hv, hq, hm⟩
    obtain rfl : w = v := Option.some.inj (hw.symm.trans hv)
    obtain rfl : r = q := Option.some.inj (hr.symm.trans hq)
    exact hm
  · exact fun hm => ⟨w, r, hw, hr, hm⟩

theorem State.MergesOwn.kind (h : s.MergesOwn x) : x.kind = .flip ∨ x.kind = .brush := by
  obtain ⟨_, _, _, _, hm⟩ := h
  exact hm.imp And.left And.left

/-- No merge of a task that is no FLIP and no BRUSH. -/
theorem State.merge_of_other (s : State) (hflip : x.kind ≠ .flip) (hbrush : x.kind ≠ .brush) : s.merge x = s := by
  unfold State.merge
  split
  · rfl
  · split
    · rfl
    · rw [if_neg (by simp [State.mergesFlip, hflip]), if_neg (by simp [State.mergesBrush, hbrush])]

theorem State.issueMovement_of_care (s : State) (hmove : x.isMovement = false) : s.issueMovement x = s := by
  have hclear : x.kind.clearsCare = false := by
    unfold TaskRecord.isMovement at hmove
    cases hk : x.kind <;> simp_all [TaskKind.clearsCare]
  unfold State.issueMovement
  split
  · rfl
  · simp [hmove, hclear]

/-- R82, R83: what the merge makes of a care task ISSUED. -/
theorem IssueEffect.care (law : s.ListLaw) (hq : ∀ v ∈ s.tasks, v.queued = true) (hx : x ∈ s.tasks) (hmove : x.isMovement = false) :
    ∃ k, IssueEffect s x ((s.issued x).merge x) k := by
  have hclear : x.kind.clearsCare = false := by
    unfold TaskRecord.isMovement at hmove
    cases hk : x.kind <;> simp_all [TaskKind.clearsCare]
  cases hw : x.wheel with
  | none =>
    refine ⟨x.kind, ?_⟩
    unfold State.merge
    rw [hw]
    exact .plain law hx hmove hclear fun ⟨_, _, h, _⟩ => by rw [hw] at h; cases h
  | some w =>
    have hsame : (s.issued x).wheel w = s.wheel w := rfl
    cases hr : s.wheel w with
    | none =>
      refine ⟨x.kind, ?_⟩
      unfold State.merge
      rw [hw]
      dsimp only
      rw [hsame, hr]
      exact .plain law hx hmove hclear fun ⟨v, _, h, h', _⟩ => by
        rw [hw] at h
        cases h
        rw [hr] at h'
        cases h'
    | some r =>
      have hmerges := State.mergesOwn_iff hw hr
      unfold State.merge
      rw [hw]
      dsimp only
      rw [hsame, hr]
      dsimp only
      rw [State.mergesFlip_issued, State.mergesBrush_issued]
      split
      · next hf => exact ⟨_, .merging law hq hx (.inl ⟨(State.mergesFlip_iff.1 hf).1, rfl⟩) hw (hmerges.2 (.inl hf))⟩
      · next hf =>
        split
        · next hb => exact ⟨_, .merging law hq hx (.inr ⟨(State.mergesBrush_iff.1 hb).1, rfl⟩) hw (hmerges.2 (.inr hb))⟩
        · next hb => exact ⟨_, .plain law hx hmove hclear fun h => (hmerges.1 h).elim hf hb⟩

/-- R80 to R84: what the issue of a QUEUED task makes of the list and the wheels. -/
theorem IssueEffect.of_mem (law : s.ListLaw) (hq : ∀ v ∈ s.tasks, v.queued = true) (hx : x ∈ s.tasks) :
    ∃ k, IssueEffect s x (((s.issued x).issueMovement x).merge x) k := by
  cases hmove : x.isMovement with
  | false =>
    rw [State.issueMovement_of_care _ hmove]
    exact IssueEffect.care law hq hx hmove
  | true =>
    have hshape := law.shapes x hx
    have hcare : x.isCare = false := by
      unfold TaskRecord.isMovement at hmove
      cases hk : x.kind <;> simp_all [TaskRecord.isCare]
    have hflip : x.kind ≠ .flip := fun h => by simp [TaskRecord.isCare, h] at hcare
    have hbrush : x.kind ≠ .brush := fun h => by simp [TaskRecord.isCare, h] at hcare
    have hno : ¬ s.MergesOwn x := fun h => h.kind.elim hflip hbrush
    obtain ⟨w, hw⟩ : ∃ w, x.wheel = some w := by
      unfold TaskRecord.Shaped at hshape
      unfold TaskRecord.isMovement at hmove
      cases hk : x.kind <;> simp_all [Option.isSome_iff_exists]
    have hissue : (s.issued x).issueMovement x =
        if x.kind.clearsCare then ((s.issued x).activate w).withdrawCare w else (s.issued x).activate w := by
      unfold State.issueMovement
      rw [hw]
      dsimp only
      rw [if_pos hmove]
      rfl
    rw [State.merge_of_other _ hflip hbrush, hissue]
    split
    · next hclear => exact ⟨_, .clearing law hq hx hmove hcare hw hclear hno⟩
    · next hclear => exact ⟨_, .movement law hx hmove hw (by simpa using hclear) hno⟩

end

end Sys2Proof.Machine


namespace Sys2Proof.Machine

set_option Elab.async false

namespace SameInside

variable {s t : State} {x : TaskRecord}

theorem issueMovement (h : SameInside s t) (x : TaskRecord) : SameInside (s.issueMovement x) (t.issueMovement x) := by
  unfold State.issueMovement
  cases x.wheel with
  | none => exact h
  | some w =>
    have hactive : SameInside
        (if x.isMovement then s.changeWheel w fun x => { x with intent := x.intent.map fun i => { i with status := .active } } else s)
        (if x.isMovement then t.changeWheel w fun x => { x with intent := x.intent.map fun i => { i with status := .active } } else t) := by
      split
      · exact h.changeWheel _ _
      · exact h
    dsimp only
    split
    · exact hactive.withdrawWhere _
    · exact hactive

theorem mergeInto (h : SameInside s t) (x : TaskRecord) (w : Nat) (other : TaskKind) :
    SameInside (s.mergeInto x w other) (t.mergeInto x w other) :=
  h.map fun u => u.mergeInto x w other

theorem merge (h : SameInside s t) (x : TaskRecord) : SameInside (s.merge x) (t.merge x) := by
  unfold State.merge
  cases x.wheel with
  | none => exact h
  | some w =>
    dsimp only
    rw [h.wheel w]
    cases t.wheel w with
    | none => exact h
    | some r =>
      dsimp only
      rw [h.congr fun u => u.mergesFlip x r, h.congr fun u => u.mergesBrush x r]
      split
      · exact h.mergeInto _ _ _
      · split
        · exact h.mergeInto _ _ _
        · exact h

theorem issue (h : SameInside s t) (x : TaskRecord) : SameInside (s.issue x) (t.issue x) := by
  have hstamped : SameInside ((s.stampIssue x.number).changeTask x.number fun v => { v with state := .issued, rereads := 0 })
      ((t.stampIssue x.number).changeTask x.number fun v => { v with state := .issued, rereads := 0 }) :=
    h.map fun u => (u.stampIssue x.number).changeTask x.number fun v => { v with state := .issued, rereads := 0 }
  have hmarked := hstamped.map fun u => { u with
    zones := Vector.ofFn fun z : ZoneNumber => { u.zone z with presence := (u.zone z).presence || (x.zones s).contains z } }
  have hmerged := (hmarked.issueMovement x).merge x
  unfold State.issue
  dsimp only
  rw [← h.congr x.zones, State.markZones_eq, State.markZones_eq, hmerged.congr fun u => u.task x.number, ← h.congr fun u => u.tagOf x]
  exact hmerged.map fun u => u.atWork (s.tagOf x) ((((State.merge _ x).task x.number).map TaskRecord.kind).getD x.kind)

end SameInside

section
variable {s : State} {x : TaskRecord}

/-- R70, R80 to R84, R95, R117: the whole of an issue. -/
theorem State.issue_effect (law : s.Cleared) (hx : x ∈ s.tasks) : ∃ e k, IssueEffect s x e k ∧ s.issue x = { s with
    tasks := e.tasks, wheels := e.wheels, zones := (s.issued x).zones
    dispatch := { s.dispatch with lastIssue := s.dispatch.lastIssue.set x.number (s.nextIssue x.number) }
    link := { s.link with
      state := .working, verified := false, issuedTag := s.tagOf x, deadline := some s.config.robot.allowances[k.index] } } := by
  obtain ⟨k, he⟩ := IssueEffect.of_mem law.toListLaw law.queued hx
  have hkind : ((((s.issued x).issueMovement x).merge x).task x.number |>.map TaskRecord.kind).getD x.kind = k := by
    have htask := State.task_of_mem he.numbers he.own
    rw [show (((s.issued x).issueMovement x).merge x).task x.number = _ from htask]
    rfl
  refine ⟨_, k, he, ?_⟩
  rw [State.issue_eq law.toListLaw hx, hkind]
  exact congrArg (fun e => e.atWork (s.tagOf x) k) he.frame

theorem IssueEffect.workReply {e : State} {k : TaskKind} (he : IssueEffect s x e k) {t : State} (ht : t.tasks = e.tasks) :
    t.workReply x.number = ⟨.ok, .work (t.workOf { x.issuedUnder (s.nextIssue x.number) with kind := k })⟩ := by
  have htask := State.task_of_mem (s := t) (ht ▸ he.numbers) (ht ▸ he.own)
  unfold State.workReply
  rw [show t.task x.number = _ from htask]

end

/-- Settles O27: the issue of the task chosen. -/
theorem takeIssuesTheChosenTask : Obligations.TakeIssuesTheChosenTask := by
  unfold Obligations.TakeIssuesTheChosenTask
  intro s x hs law hidle hrun u hchoice n merges
  have hcleared : u.Cleared := (s.withdrawWhere_relisted _).cleared (law.cleared (by simp [hidle]))
  obtain ⟨hx, -⟩ := State.choice_task hchoice
  obtain ⟨e, k, he, hissue⟩ := State.issue_effect hcleared hx
  let y : TaskRecord := { x.issuedUnder (u.nextIssue x.number) with kind := k }
  let g := (s.inGrant .robot).checkList
  have hsame : SameInside g u := (SameInside.granted s .robot).checkList
  have hgcleared : g.Cleared := ((s.inGrant .robot).withdrawWhere_relisted _).cleared (law.aside.cleared (by simp [hidle]))
  have hgx : x ∈ g.tasks := hsame.tasks ▸ hx
  obtain ⟨e', k', he', hissue'⟩ := State.issue_effect hgcleared hgx
  have hissued : SameInside (g.issue x) (u.issue x) := hsame.issue x
  have hserve : serveTake (s.inGrant .robot) = (g.issue x, ⟨.ok, .work ((u.issue x).workOf y)⟩) := by
    have hreply : (g.issue x).workReply x.number = ⟨.ok, .work ((u.issue x).workOf y)⟩ := by
      rw [hissued.congr fun v => v.workReply x.number]
      exact he.workReply (by rw [hissue])
    have hchoose : g.choice = .task x := (hsame.congr State.choice).trans hchoice
    unfold serveTake
    rw [show (s.inGrant .robot).link.state = .idle from hidle]
    dsimp only
    unfold State.dispatchTake
    rw [if_neg (by simp [hrun])]
    dsimp only
    rw [show (s.inGrant .robot).checkList.choice = .task x from hchoose]
    dsimp only
    rw [hreply]
  have hsilent : Emits (s.inGrant .robot) (g.issue x) [] := .silent
    (by rw [hissue']; exact State.withdrawWhere_ports _ _) (by rw [hissue']; exact State.withdrawWhere_arbiter _ _)
  obtain ⟨hinside, hserved⟩ := request_emits hs (k := .take) rfl hserve hissued hsilent
  have hfinal := SameInside.mk hinside
  have htasks : (s.request (proper .robot) .take serveTake).tasks = e.tasks := hfinal.tasks.trans (by rw [hissue])
  have hwheel (w : Nat) : (s.request (proper .robot) .take serveTake).wheel w = e.wheel w := (hfinal.wheel w).trans (by rw [hissue]; rfl)
  have hzone (z : ZoneNumber) : (s.request (proper .robot) .take serveTake).zone z = (u.issued x).zone z :=
    (hfinal.congr fun v => v.zone z).trans (by rw [hissue]; rfl)
  refine ⟨_, y, rfl, ?_, ?_, rfl, he.merged, he.kept, htasks ▸ he.own, fun v hv => ?_, fun z => ?_, fun w r hr => ⟨fun hw => ?_, fun hw => ?_⟩⟩
  · rwa [← hfinal.congr fun v => v.workOf y] at hserved
  · have hzones : (s.request (proper .robot) .take serveTake).zones = (u.issued x).zones :=
      (hfinal.congr State.zones).trans (by rw [hissue])
    have hwheels : (s.request (proper .robot) .take serveTake).wheels = e.wheels := (hfinal.congr State.wheels).trans (by rw [hissue])
    rw [htasks, hzones, hwheels]
    refine hinside.trans ?_
    rw [hissue]
    rfl
  · rw [htasks]
    exact he.others v hv
  · rw [hzone, State.zone_issued]
  · rw [hwheel]
    exact he.otherWheels w r hr hw
  · rw [hwheel]
    exact he.ownWheel w r hr hw

end Sys2Proof.Machine


namespace Sys2Proof.Machine

set_option Elab.async false

/-! ## A TAKE that issues nothing (R78, R79, R91, R92, R104) -/

section
variable {s : State} {t : TaskRecord}

theorem SlotEntry.isOccupied_iff {e : SlotEntry} : e.isOccupied = true ↔ ∃ v, e = .occupied v := by
  cases e <;> simp [SlotEntry.isOccupied]

/-- R58: the table of fits. -/
theorem State.intentFits_iff {x : Wheel} {i : Intent} : s.intentFits x i = true ↔ s.Agrees x i := by
  unfold State.intentFits State.Agrees
  cases i.phase with
  | carried => cases x.location <;> simp
  | beforePick => cases i.kind <;> cases x.location <;> simp [SlotEntry.isOccupied_iff]

/-- R78: what the check says of a movement task. -/
theorem State.disagrees_movement {k : MoveKind} (hk : t.kind = .movement k) : s.disagrees t = true ↔
    ¬ ∃ w x i, t.wheel = some w ∧ s.wheel w = some x ∧ x.intent = some i ∧ i.kind = k ∧ t.phase = some i.phase ∧ s.Agrees x i := by
  unfold State.disagrees
  rw [hk]
  dsimp only
  cases hw : t.wheel with
  | none => simp
  | some w =>
    cases hx : s.wheel w with
    | none => simp [hx]
    | some x =>
      cases hi : x.intent with
      | none => simp [hx, hi]
      | some i => simp [hx, hi, ← State.intentFits_iff, imp_iff_not_or, or_assoc]

theorem TaskRecord.isCare_iff : t.isCare = true ↔ t.kind = .flip ∨ t.kind = .brush ∨ t.kind = .flipBrush := by
  unfold TaskRecord.isCare
  cases t.kind <;> simp

/-- R78: the wheel of a care task, its board and its zone. -/
theorem State.disagrees_board (hc : t.isCare = true) {w : Nat} {x : Wheel} {c : Coord} (hw : t.wheel = some w) (hx : s.wheel w = some x)
    (hp : t.place = .board c) : s.disagrees t =
      (x.location != .inSlot c || !(s.slot c).isOccupied || x.hold == .inspect || x.careFault.isSome ||
        (t.kind == .brush && ((s.zone (s.zoneOf c)).alarm == .lowAlarm || x.hold == .quarantine))) := by
  have hfound : t.wheel.bind s.wheel = some x := by rw [hw, Option.bind_some, hx]
  unfold State.disagrees
  rcases TaskRecord.isCare_iff.1 hc with hk | hk | hk <;> rw [hk] <;> dsimp only <;> rw [hfound, hp]

/-- R78: a care task whose wheel has no record, or that names no board. -/
theorem State.disagrees_noBoard (hc : t.isCare = true)
    (h : ¬ ∃ w x c, t.wheel = some w ∧ s.wheel w = some x ∧ t.place = .board c) : s.disagrees t = true := by
  rcases hx : t.wheel.bind s.wheel with _ | x
  · unfold State.disagrees
    rcases TaskRecord.isCare_iff.1 hc with hk | hk | hk <;> rw [hk, hx]
  · obtain ⟨w, hw, hwx⟩ := Option.bind_eq_some_iff.1 hx
    rcases hp : t.place with c | _ | _
    · exact absurd ⟨w, x, c, hw, hwx, hp⟩ h
    · unfold State.disagrees
      rcases TaskRecord.isCare_iff.1 hc with hk | hk | hk <;> rw [hk, hx, hp]
    · unfold State.disagrees
      rcases TaskRecord.isCare_iff.1 hc with hk | hk | hk <;> rw [hk, hx, hp]

/-- R78: what the check says of a care task. -/
theorem State.disagrees_care (hc : t.isCare = true) : s.disagrees t = true ↔
    (¬ ∃ w x c, t.wheel = some w ∧ s.wheel w = some x ∧ t.place = .board c ∧ x.location = .inSlot c ∧
      (∃ v, s.slot c = .occupied v) ∧ x.hold ≠ .inspect ∧ x.careFault = none) ∨
    (t.kind = .brush ∧ ∃ w x c, t.wheel = some w ∧ s.wheel w = some x ∧ t.place = .board c ∧
      ((s.zone (s.zoneOf c)).alarm = .lowAlarm ∨ x.hold = .quarantine)) := by
  by_cases h : ∃ w x c, t.wheel = some w ∧ s.wheel w = some x ∧ t.place = .board c
  · obtain ⟨w, x, c, hw, hx, hp⟩ := h
    rw [State.disagrees_board hc hw hx hp]
    simp only [hw, hp, Option.some.injEq, TaskPlace.board.injEq, exists_and_left, exists_eq_left', hx, ← SlotEntry.isOccupied_iff]
    simp [imp_iff_not_or, or_assoc, Option.isSome_iff_ne_none]
  · exact iff_of_true (State.disagrees_noBoard hc h) (.inl fun ⟨w, x, c, hw, hx, hp, _⟩ => h ⟨w, x, c, hw, hx, hp⟩)

/-- R78: the check, for every task. -/
theorem State.disagrees_iff : s.disagrees t = true ↔ s.Disagrees t := by
  unfold State.Disagrees
  by_cases hcare : t.isCare = true
  · have hmove : ∀ k, t.kind ≠ .movement k := fun k hk => by simp [TaskRecord.isCare, hk] at hcare
    rw [State.disagrees_care hcare]
    simp [hcare, hmove]
  · have hbrush : t.kind ≠ .brush := fun hk => hcare (TaskRecord.isCare_iff.2 (.inr (.inl hk)))
    cases hk : t.kind with
    | survey =>
      have hfalse : s.disagrees t = false := by
        unfold State.disagrees
        rw [hk]
      simp [hfalse, hcare]
    | movement k =>
      rw [State.disagrees_movement hk]
      simp [hcare]
    | flip => exact absurd (TaskRecord.isCare_iff.2 (.inl hk)) hcare
    | brush => exact absurd hk hbrush
    | flipBrush => exact absurd (TaskRecord.isCare_iff.2 (.inr (.inr hk))) hcare

/-- R79, R92: a TAKE in IDLE by the choice. -/
theorem serveTake_idle (hidle : s.link.state = .idle) (hrun : s.dispatch.paused = false) : serveTake s =
    (match s.checkList.choice with
    | .empty => (s.checkList, ⟨.none, .noWork .empty⟩)
    | .blocked => (s.checkList.raise .management .starved, ⟨.none, .noWork .blocked⟩)
    | .task t => (s.checkList.issue t, (s.checkList.issue t).workReply t.number)) := by
  unfold serveTake
  rw [hidle]
  dsimp only
  unfold State.dispatchTake
  exact (if_neg (by simp [hrun])).trans rfl

/-- The reply of an answer can be told from the record it leaves. -/
theorem PortRecord.after_reply {r : PortRecord} {code : Nat} {a b : Reply} (h : (r.after code a).sansNotices = (r.after code b).sansNotices) :
    a = b := by
  unfold PortRecord.after at h
  by_cases hwait : ∃ x ∈ r.tx, x.place = .answer
  · rw [if_pos hwait, if_pos hwait] at h
    have hout := congrArg PortRecord.outstanding h
    simpa [PortRecord.sansNotices] using hout
  · rw [if_neg hwait, if_neg hwait] at h
    have htx := congrArg PortRecord.tx h
    simpa [PortRecord.sansNotices] using htx

theorem State.issueMovement_frame (s : State) (t : TaskRecord) :
    s.issueMovement t = { s with tasks := (s.issueMovement t).tasks, wheels := (s.issueMovement t).wheels } := by
  unfold State.issueMovement
  cases t.wheel with
  | none => rfl
  | some w =>
    dsimp only
    split
    · have h (u : State) : u.withdrawCare w = { u with tasks := (u.withdrawCare w).tasks, wheels := (u.withdrawCare w).wheels } := by
        rw [State.withdrawCare, State.withdrawWhere_tasks]
        exact u.withdrawWhere_frame _
      split
      · exact h _
      · exact h _
    · split <;> rfl

theorem State.merge_frame (s : State) (t : TaskRecord) :
    s.merge t = { s with tasks := (s.merge t).tasks, wheels := (s.merge t).wheels } := by
  unfold State.merge
  split
  · rfl
  · split
    · rfl
    · split
      · rfl
      · split <;> rfl

/-- An issue leaves the Port Unit and the arbiter alone. -/
theorem State.issue_outside (s : State) (t : TaskRecord) : (s.issue t).ports = s.ports ∧ (s.issue t).arbiter = s.arbiter := by
  unfold State.issue
  dsimp only
  rw [State.markZones_eq, State.merge_frame, State.issueMovement_frame]
  exact ⟨rfl, rfl⟩

/-- A task under a number is out. -/
def State.outUnder (s : State) (n : Fin 64) : Prop := ∃ v ∈ s.tasks, v.number = n ∧ v.queued = false

theorem State.outUnder.filter {u : State} {n : Fin 64} (h : s.outUnder n) (p : TaskRecord → Bool)
    (hu : u.tasks = s.tasks.filter fun v => !(v.queued && p v)) : u.outUnder n := by
  obtain ⟨v, hv, hn, hq⟩ := h
  exact ⟨v, hu ▸ List.mem_filter.2 ⟨hv, by simp [hq]⟩, hn, hq⟩

theorem State.outUnder.issueMovement {n : Fin 64} (h : s.outUnder n) (t : TaskRecord) : (s.issueMovement t).outUnder n := by
  unfold State.issueMovement
  cases t.wheel with
  | none => exact h
  | some w =>
    have hactive : State.outUnder (if t.isMovement then
        s.changeWheel w fun x => { x with intent := x.intent.map fun i => { i with status := .active } } else s) n := by
      split <;> exact h
    dsimp only
    split
    · exact hactive.filter _ (State.withdrawWhere_tasks _)
    · exact hactive

theorem State.outUnder.merge {n : Fin 64} (h : s.outUnder n) (t : TaskRecord) : (s.merge t).outUnder n := by
  have hinto (w : Nat) (other : TaskKind) : (s.mergeInto t w other).outUnder n := by
    obtain ⟨v, hv, hn, hq⟩ := h
    refine ⟨_, (State.mem_changeTask _ _ _).2 ⟨v, List.mem_filter.2 ⟨hv, by simp [hq]⟩, rfl⟩, ?_, ?_⟩ <;> split <;> assumption
  unfold State.merge
  split
  · exact h
  · split
    · exact h
    · split
      · exact hinto _ _
      · split
        · exact hinto _ _
        · exact h

/-- R92: a task just issued is found under its number. -/
theorem State.workReply_issue (hx : t ∈ s.tasks) : ∃ w, (s.issue t).workReply t.number = ⟨.ok, .work w⟩ := by
  have hstamped : ((s.stampIssue t.number).changeTask t.number fun v => { v with state := .issued, rereads := 0 }).outUnder t.number :=
    ⟨_, (State.mem_changeTask _ _ _).2 ⟨_, (State.mem_changeTask _ _ _).2 ⟨t, hx, rfl⟩, rfl⟩, by simp, by simp [TaskRecord.queued]⟩
  have hmarked : ((t.zones s).foldl State.markZone
      ((s.stampIssue t.number).changeTask t.number fun v => { v with state := .issued, rereads := 0 })).outUnder t.number := by
    rw [State.markZones_eq]
    exact hstamped
  obtain ⟨v, hv, hn, -⟩ := (hmarked.issueMovement t).merge t
  have hfound : ((s.issue t).task t.number).isSome = true := List.find?_isSome.2 ⟨v, hv, by simp [hn]⟩
  obtain ⟨y, hy⟩ := Option.isSome_iff_exists.1 hfound
  exact ⟨(s.issue t).workOf y, by rw [State.workReply, hy]⟩

end

/-- Settles O26: TAKE outside IDLE, TAKE that issues nothing, and the test of R91. -/
theorem takesThatIssueNothing : Obligations.TakesThatIssueNothing := by
  unfold Obligations.TakesThatIssueNothing
  refine ⟨fun s hs => ⟨fun v law hv hq => ?again, fun hl => ?home, fun hl => ?refused⟩, fun s hs hidle => ⟨fun hpaused => ?paused,
    fun t => State.disagrees_iff, ?checked⟩, fun s hs hidle hrun => ?test⟩
  case again =>
    have hout := State.out_of_mem law.oneOut hv hq
    have hworking := law.working.2 ⟨v, hv, hq⟩
    have hserve : serveTake (s.inGrant .robot) = (s.inGrant .robot, ⟨.ok, .work (s.workOf v)⟩) := by
      unfold serveTake
      rw [show (s.inGrant .robot).link.state = .working from hworking]
      dsimp only
      rw [show (s.inGrant .robot).out = some v from hout]
      rfl
    exact ⟨_, rfl, request_emits hs rfl hserve (.granted s _) (.refl _)⟩
  case home =>
    have hserve : serveTake (s.inGrant .robot) = (s.inGrant .robot).orderHome := by
      unfold serveTake
      rcases hl with hl | hl <;> rw [show (s.inGrant .robot).link.state = _ from hl]
    have horder : (s.inGrant .robot).orderHome = accept { s.inGrant .robot with link := { s.link with homeOrder := match s.link.homeOrder with
        | some m => some m
        | none => some 10 } } (.homeOrder s.config.robot.home) := by
      unfold State.orderHome
      rw [State.grantPort_link, State.received_link]
      cases s.link.homeOrder <;> rfl
    exact ⟨_, rfl, request_emits hs rfl (hserve.trans horder) ((SameInside.granted s _).setLink fun l => { l with
      homeOrder := match s.link.homeOrder with
        | some m => some m
        | none => some 10 }) (.silent rfl rfl)⟩
  case refused =>
    refine ⟨_, rfl, request_refused hs rfl ?_⟩
    unfold serveTake
    rcases hl with hl | hl | hl <;> rw [show (s.inGrant .robot).link.state = _ from hl]
  case paused =>
    have hserve : serveTake (s.inGrant .robot) = (s.inGrant .robot, ⟨.none, .noWork .paused⟩) := by
      unfold serveTake
      rw [show (s.inGrant .robot).link.state = .idle from hidle]
      exact if_pos hpaused
    exact ⟨_, rfl, request_emits hs rfl hserve (.granted s _) (.refl _)⟩
  case checked =>
    intro hrun u
    have hserve := serveTake_idle (s := s.inGrant .robot) hidle hrun
    have hsame : SameInside (s.inGrant .robot).checkList u := (SameInside.granted s .robot).checkList
    have hsilent : Emits (s.inGrant .robot) (s.inGrant .robot).checkList [] :=
      .silent (State.withdrawWhere_ports _ _) (State.withdrawWhere_arbiter _ _)
    refine ⟨fun hempty => ⟨_, rfl, request_emits hs rfl ?_ hsame hsilent⟩, fun hblocked => ⟨_, rfl, request_emits hs rfl ?_
      (hsame.raise_left _ _) (hsilent.trans (.raise _ _ _))⟩⟩
    · rw [hserve, hsame.congr State.choice, hempty]
    · rw [hserve, hsame.congr State.choice, hblocked]
  case test =>
    have hserve := serveTake_idle (s := s.inGrant .robot) hidle hrun
    have hsame : SameInside (s.inGrant .robot).checkList s.checkList := (SameInside.granted s .robot).checkList
    have hchoice := hsame.congr State.choice
    have hsilent : Emits (s.inGrant .robot) (s.inGrant .robot).checkList [] :=
      .silent (State.withdrawWhere_ports _ _) (State.withdrawWhere_arbiter _ _)
    have hnoWork {v : State} {b : Body} {raised : List (Port × Notice)} (he : serveTake (s.inGrant .robot) = (v, ⟨.none, b⟩))
        (hv : SameInside v s.checkList) (hemits : Emits (s.inGrant .robot) v raised) :
        ¬ ∃ t w, exec (.take (proper .robot)) s = .next t ∧
          (t.port .robot).sansNotices = ((s.port .robot).after RequestKind.take.code ⟨.ok, .work w⟩).sansNotices := by
      rintro ⟨t, w, ht, hport⟩
      obtain ⟨-, ⟨hanswer, -⟩, -⟩ := request_emits hs (k := .take) rfl he hv hemits
      have heq : t = s.request (proper .robot) .take serveTake := by cases ht; rfl
      subst heq
      have hreply := PortRecord.after_reply (hanswer.symm.trans hport)
      cases hreply
    unfold State.wouldIssue
    cases hc : s.checkList.choice with
    | empty =>
      refine iff_of_false nofun (hnoWork (b := .noWork .empty) ?_ hsame hsilent)
      rw [hserve, hchoice, hc]
    | blocked =>
      refine iff_of_false nofun (hnoWork (b := .noWork .blocked) ?_ (hsame.raise_left .management .starved) (hsilent.trans (.raise _ _ _)))
      rw [hserve, hchoice, hc]
    | task x =>
      refine iff_of_true rfl ?_
      obtain ⟨w, hw⟩ := State.workReply_issue (hsame.tasks ▸ (State.choice_task hc).1 : x ∈ (s.inGrant .robot).checkList.tasks)
      have he : serveTake (s.inGrant .robot) = ((s.inGrant .robot).checkList.issue x, ⟨.ok, .work w⟩) := by
        rw [hserve, hchoice, hc]
        exact Prod.ext rfl hw
      obtain ⟨-, ⟨hanswer, -⟩, -⟩ := request_emits hs (k := .take) rfl he (hsame.issue x) (hsilent.thenSilent
        (State.issue_outside _ x).1 (State.issue_outside _ x).2)
      exact ⟨_, w, rfl, hanswer⟩

end Sys2Proof.Machine


namespace Sys2Proof.Machine

set_option Elab.async false

/-! ## Visits of the sweep (R55 to R61) -/

/-- Two records that differ in their marks alone. -/
def Wheel.Remarked (x y : Wheel) : Prop := y = { x with flipMark := y.flipMark, brushMark := y.brushMark, moveMark := y.moveMark }

theorem Wheel.Remarked.refl (x : Wheel) : x.Remarked x := rfl

theorem Wheel.Remarked.trans {x y z : Wheel} (h : x.Remarked y) (g : y.Remarked z) : x.Remarked z := by
  unfold Wheel.Remarked at *
  rw [g, h]

theorem Wheel.Remarked.mark (x : Wheel) (k : TaskKind) (b : Bool) : x.Remarked (x.mark k b) := by
  cases k <;> rfl

/-- `t` differs from `s` in the list, the marks and the notices alone. -/
structure Listed (s t : State) : Prop where
  frame : t = { s with tasks := t.tasks, dispatch := t.dispatch, wheels := t.wheels, ports := t.ports }
  sans : ∀ q, (t.port q).sansNotices = (s.port q).sansNotices
  wheels : ∀ v, ∃ f : Wheel → Wheel, (∀ x : Wheel, x.Remarked (f x)) ∧ t.wheel v = (s.wheel v).map f

namespace Listed

variable {s t u : State}

theorem refl (s : State) : Listed s s := ⟨rfl, fun _ => rfl, fun v => ⟨id, Wheel.Remarked.refl, by simp⟩⟩

theorem trans (h : Listed s t) (g : Listed t u) : Listed s u := by
  refine ⟨?_, fun q => (g.sans q).trans (h.sans q), fun v => ?_⟩
  · rw [g.frame, h.frame]
  · obtain ⟨f, hf, hwf⟩ := h.wheels v
    obtain ⟨k, hk, hwk⟩ := g.wheels v
    exact ⟨k ∘ f, fun x => (hf x).trans (hk (f x)), by rw [hwk, hwf, Option.map_map]⟩

/-- Updates of the list alone. -/
theorem list (s : State) (l : List TaskRecord) (d : Dispatcher) : Listed s { s with tasks := l, dispatch := d } :=
  ⟨rfl, fun _ => rfl, fun v => ⟨id, Wheel.Remarked.refl, by rw [Option.map_id]; rfl⟩⟩

theorem markTask (s : State) (t : TaskRecord) (b : Bool) : Listed s (s.markTask t b) := by
  refine ⟨?_, fun q => ?_, fun v => ?_⟩
  · rw [State.markTask_frame]
  · rw [State.markTask_frame]
    rfl
  · rw [State.wheel_markTask]
    split
    · exact ⟨_, fun x => .mark x t.kind b, rfl⟩
    · exact ⟨id, Wheel.Remarked.refl, by simp⟩

theorem withdrawWhere (s : State) (p : TaskRecord → Bool) : Listed s (s.withdrawWhere p) := by
  refine ⟨?_, fun q => ?_, fun v => ⟨_, fun x => ?_, s.wheel_withdrawWhere p v⟩⟩
  · rw [State.withdrawWhere_frame]
  · rw [State.withdrawWhere_frame]
    rfl
  · rw [Wheel.mark_all]
    rfl

theorem raise (s : State) (p : Port) (n : Notice) : Listed s (s.raise p n) :=
  ⟨rfl, (Emits.raise s p n).sans, fun v => ⟨id, Wheel.Remarked.refl, by rw [Option.map_id]; rfl⟩⟩

theorem testIf (s : State) (b : Bool) : Listed s (s.testIf b) := by
  unfold State.testIf State.testAvailable State.raiseIf
  split
  · split
    · exact raise _ _ _
    · exact refl _
  · exact refl _

theorem enter {x : TaskRecord} {n : Fin 64} (h : s.enter x = some (t, n)) : Listed s t := by
  obtain ⟨-, rfl⟩ := State.enter_some h
  have hroom : Listed s s.makeRoomInSequence := by
    unfold State.makeRoomInSequence
    split
    · exact list s _ _
    · exact refl s
  exact (hroom.trans (list _ _ _)).trans (markTask _ _ _)

theorem offerNonCare {x : TaskRecord} {n : Fin 64} (h : s.offerNonCare x = some (t, n)) : Listed s t := by
  unfold State.offerNonCare at h
  split at h
  · split at h
    · exact enter h
    · split at h
      · cases h
      · exact (withdrawWhere s _).trans (enter h)
  · cases h

theorem offerCare {x : TaskRecord} (h : s.offerCare x = some t) : Listed s t := by
  have hentered {u : State} (hu : (u.enter x).map Prod.fst = some t) : Listed u t := by
    obtain ⟨⟨v, n⟩, hv, rfl⟩ := Option.map_eq_some_iff.1 hu
    exact enter hv
  unfold State.offerCare at h
  split at h
  · exact hentered h
  · split at h
    · cases h
    · split at h
      · exact (withdrawWhere s _).trans (hentered h)
      · cases h

theorem offerCandidate (s : State) (x : TaskRecord) : Listed s (s.offerCandidate x).1 := by
  unfold State.offerCandidate
  split
  · exact offerCare ‹_›
  · exact raise _ _ _

theorem visitMovement (s : State) (w : Nat) (x : Wheel) : Listed s (s.visitMovement w x).1 := by
  unfold State.visitMovement
  split
  · exact refl s
  · split
    · split
      · exact offerNonCare ‹_›
      · exact refl s
    · exact refl s

theorem visitFlip (s : State) (w : Nat) (x : Wheel) : Listed s (s.visitFlip w x).1 := by
  unfold State.visitFlip
  split
  · split
    · exact offerCandidate _ _
    · exact refl s
  · exact refl s

theorem visitBrush (s : State) (w : Nat) (x : Wheel) : Listed s (s.visitBrush w x).1 := by
  unfold State.visitBrush
  split
  · split
    · exact offerCandidate _ _
    · exact refl s
  · exact refl s

theorem visitOffers (s : State) (w : Nat) (x : Wheel) : Listed s (s.visitOffers w x).1 :=
  ((visitMovement s w x).trans (visitFlip _ w x)).trans (visitBrush _ w x)

/-- R57: what a visit does once the dues have been computed. -/
theorem visit (s : State) (w : Nat) : Listed (s.computeDues w) (s.visit w) := by
  unfold State.visit
  dsimp only
  split
  · exact refl _
  · exact (visitOffers _ w _).trans (testIf _ _)

end Listed

section
variable {s : State} {w : Nat} {x : Wheel} {c : Coord}

theorem State.careOpen_iff : s.careOpen w x c = true ↔ s.CareIsOpen w x c := by
  simp [State.careOpen, State.CareIsOpen, SlotEntry.isOccupied_iff, State.movementOut, TaskRecord.queued, TaskRecord.names, and_assoc,
    imp_iff_not_or, or_comm]

theorem State.dueNow_iff {due : Option Nat} : s.dueNow due = true ↔ s.IsDue due := by
  cases due <;> simp [State.dueNow, State.IsDue]

theorem State.wantsFlip_iff : s.wantsFlip w x c = true ↔ s.CareIsOpen w x c ∧ x.flipMark = false ∧ s.IsDue x.flipDue := by
  simp [State.wantsFlip, State.careOpen_iff, State.dueNow_iff, and_assoc]

theorem State.wantsBrush_iff : s.wantsBrush w x c = true ↔
    (s.CareIsOpen w x c ∧ x.brushMark = false ∧ (s.zone (s.zoneOf c)).alarm ≠ .lowAlarm ∧ x.hold ≠ .quarantine) ∧ s.IsDue x.brushDue := by
  simp only [State.wantsBrush, Bool.and_eq_true, State.careOpen_iff, State.dueNow_iff, Bool.not_eq_true', bne_iff_ne]
  tauto

theorem State.visitFlip_inSlot (hc : x.location = .inSlot c) : s.visitFlip w x = if s.wantsFlip w x c then
    s.offerCandidate (TaskRecord.offered .flip (some w) (.board c) (x.flipDue.getD 0)) else (s, false) := by
  unfold State.visitFlip
  rw [hc]

theorem State.visitBrush_inSlot (hc : x.location = .inSlot c) : s.visitBrush w x = if s.wantsBrush w x c then
    s.offerCandidate (TaskRecord.offered .brush (some w) (.board c) (x.brushDue.getD 0)) else (s, false) := by
  unfold State.visitBrush
  rw [hc]

theorem State.visitMovement_open {i : Intent} (hi : x.intent = some i) (hmark : x.moveMark = false) (hfits : s.Agrees x i) :
    s.visitMovement w x = ((s.offerNonCare (s.movementTask w x i)).map fun e => (e.1, true)).getD (s, false) := by
  unfold State.visitMovement
  rw [hi]
  dsimp only
  rw [if_pos (by simp [hmark, State.intentFits_iff.2 hfits])]
  cases s.offerNonCare (s.movementTask w x i) <;> rfl

theorem State.visitMovement_shut (h : ∀ i, x.intent = some i → x.moveMark = true ∨ ¬ s.Agrees x i) : s.visitMovement w x = (s, false) := by
  unfold State.visitMovement
  split
  · rfl
  · next i hi =>
    refine if_neg fun hopen => ?_
    simp only [Bool.and_eq_true, Bool.not_eq_true', State.intentFits_iff] at hopen
    rcases h i hi with hm | hm
    · rw [hopen.1] at hm
      cases hm
    · exact hm hopen.2

end

/-- R43: the computation of a wheel's dues writes its dues alone. -/
theorem State.computeDues_wheel (s : State) (w v : Nat) : ∃ g : Wheel → Wheel,
    (∀ x, g x = { x with flipDue := (g x).flipDue, brushDue := (g x).brushDue }) ∧ (v ≠ w → g = id) ∧
      (s.computeDues w).wheel v = (s.wheel v).map g := by
  rw [State.computeDues, State.wheel_changeWheel]
  by_cases hv : v = w
  · rw [if_pos hv]
    refine ⟨_, fun x => ?_, fun h => absurd hv h, rfl⟩
    dsimp only
    split <;> rfl
  · rw [if_neg hv]
    exact ⟨id, fun _ => rfl, fun _ => rfl, by simp⟩

/-- Settles O21: the offers by their conditions, and the frame of a visit. -/
theorem visitsOfferAndWriteLittleElse : Obligations.VisitsOfferAndWriteLittleElse := by
  unfold Obligations.VisitsOfferAndWriteLittleElse
  refine ⟨fun s w x => ⟨fun i hi hmark hfits => ?_, State.visitMovement_shut, fun c hc => ?_, fun hno => ?_⟩, fun s w => ?_⟩
  · rw [State.visitMovement_open hi hmark hfits]
    cases s.offerNonCare (s.movementTask w x i) <;> rfl
  · intro offer brushOpen
    have hoffer (k : TaskKind) (m : Nat) : s.offerCandidate (TaskRecord.offered k (some w) (.board c) m) = offer k m := by
      rcases ho : s.offerCare (TaskRecord.offered k (some w) (.board c) m) with _ | u
      · simp only [State.offerCandidate, offer, ho]
      · simp only [State.offerCandidate, offer, ho]
    refine ⟨fun m hopen hmark hdue hm => ?_, fun hshut => ?_, fun m hopen hdue hm => ?_, fun hshut => ?_⟩
    · rw [State.visitFlip_inSlot hc, if_pos (State.wantsFlip_iff.2 ⟨hopen, hmark, m, hdue, hm⟩), hoffer, hdue]
      rfl
    · rw [State.visitFlip_inSlot hc, if_neg]
      rw [State.wantsFlip_iff]
      rintro ⟨hopen, hmark, hdue⟩
      rcases hshut with h | h | h
      · exact h hopen
      · rw [hmark] at h
        cases h
      · exact h hdue
    · rw [State.visitBrush_inSlot hc, if_pos (State.wantsBrush_iff.2 ⟨hopen, m, hdue, hm⟩), hoffer, hdue]
      rfl
    · rw [State.visitBrush_inSlot hc, if_neg]
      rw [State.wantsBrush_iff]
      exact fun h => hshut.elim (fun g => g h.1) fun g => g h.2
  · unfold State.visitFlip State.visitBrush
    cases hl : x.location with
    | inSlot c => exact absurd hl (hno c)
    | _ => exact ⟨rfl, rfl⟩
  · intro t
    have hlisted := Listed.visit s w
    have hframe := hlisted.frame
    have hfield {α : Type} (f : State → α) (hf : ∀ (u : State) l d w p, f { u with tasks := l, dispatch := d, wheels := w, ports := p } = f u) :
        f t = f (s.computeDues w) := (congrArg f hframe).trans (hf _ _ _ _ _)
    refine ⟨hfield State.clock fun _ _ _ _ _ => rfl, hfield State.slots fun _ _ _ _ _ => rfl, hfield State.tags fun _ _ _ _ _ => rfl,
      hfield State.discrepancies fun _ _ _ _ _ => rfl, hfield State.link fun _ _ _ _ _ => rfl, hfield State.zones fun _ _ _ _ _ => rfl,
      hfield State.loop fun _ _ _ _ _ => rfl, hfield State.config fun _ _ _ _ _ => rfl, hfield State.memory fun _ _ _ _ _ => rfl,
      hfield State.lastSurvey fun _ _ _ _ _ => rfl, hlisted.sans, fun v => ?_⟩
    obtain ⟨f, hf, hwheel⟩ := hlisted.wheels v
    obtain ⟨g, hg, hother, hdues⟩ := State.computeDues_wheel s w v
    rw [hdues] at hwheel
    refine ⟨fun hnone => ?_, fun x hx => ?_⟩
    · rw [hwheel, hnone]
      rfl
    · rw [hx, Option.map_some, Option.map_some] at hwheel
      have hy := hf (g x)
      refine ⟨_, hwheel, ?_, fun hne => ?_⟩
      · rw [hy, hg]
      · rw [hy, hother hne]
        exact ⟨rfl, rfl⟩

end Sys2Proof.Machine


namespace Sys2Proof.Machine

set_option Elab.async false

/-- The lowest key at or above another. -/
theorem Table.nextFrom_none {α : Type} {t : Table α} {k : Nat} (h : ∀ w, k ≤ w → t.find w = none) : t.nextFrom k = none := by
  induction t with
  | nil => rfl
  | cons e t ih =>
    obtain ⟨j, v⟩ := e
    have hbelow : ¬ k ≤ j := fun hj => by simpa [Table.find] using h j hj
    rw [Table.nextFrom, if_neg hbelow]
    refine ih fun w hw => ?_
    have hne : j ≠ w := fun hj => hbelow (hj ▸ hw)
    simpa [Table.find, hne] using h w hw

theorem Table.nextFrom_some {α : Type} {t : Table α} {k w : Nat} {x : α} (hcanonical : t.canonical = true) (hx : t.find w = some x)
    (hk : k ≤ w) (hnone : ∀ v, k ≤ v → v < w → t.find v = none) : t.nextFrom k = some (w, x) := by
  rw [Table.canonical_iff] at hcanonical
  induction t with
  | nil => cases hx
  | cons e t ih =>
    obtain ⟨j, v⟩ := e
    rw [List.map_cons, List.pairwise_cons] at hcanonical
    obtain ⟨hrising, hrest⟩ := hcanonical
    by_cases hj : j = w
    · subst hj
      obtain rfl : v = x := by simpa [Table.find] using hx
      rw [Table.nextFrom, if_pos hk]
    · have hxt : Table.find w t = some x := by simpa [Table.find, hj] using hx
      have hjw : j < w := hrising w (List.mem_map.2 ⟨(w, x), Table.mem_of_find hxt, rfl⟩)
      have hbelow : ¬ k ≤ j := fun hkj => by simpa [Table.find] using hnone j hkj hjw
      rw [Table.nextFrom, if_neg hbelow]
      refine ih hrest hxt fun v' hkv hvw => ?_
      have hne : j ≠ v' := fun h => hbelow (h ▸ hkv)
      simpa [Table.find, hne] using hnone v' hkv hvw

/-- Settles O20: the boundaries, and the grants of a running pass. -/
theorem sweepWalksTheTable : Obligations.SweepWalksTheTable := by
  unfold Obligations.SweepWalksTheTable
  refine ⟨fun s n hs hn => congrArg Host.Outcome.next ((State.whenRunning_of_running hs _).trans ?_), ?_⟩
  · unfold Sweep.takeBoundary
    rw [hn]
    dsimp only
    unfold Sweep.boundary Sweep.start
    rfl
  · intro s hs hcanonical ended granted
    have hstep (t : State) (h : s.sweepVisit = t) : exec .sweepVisit s = .next t :=
      congrArg Host.Outcome.next ((State.whenRunning_of_running hs _).trans h)
    have hended : s.sweep.finish = ended := by
      simp only [Sweep.finish, ended, Bool.and_comm]
    refine ⟨fun hstopped => hstep _ ?_, fun hrun hnone => hstep _ ?_, ?_⟩
    · unfold State.sweepVisit
      rw [if_neg (by simp [hstopped])]
    · unfold State.sweepVisit
      rw [if_pos hrun]
      dsimp only
      rw [Table.nextFrom_none hnone, ← hended]
      rfl
    · intro w x y hrun hx hcursor hbelow hnone hy moved flipped brushed entered
      refine hstep _ ?_
      have hnext : Table.nextFrom s.sweep.cursor s.wheels = some (w, x) := Table.nextFrom_some hcanonical hx hcursor hnone
      have hvisit : granted.visit w = brushed.1.testIf entered := by
        unfold State.visit
        dsimp only
        rw [hy]
        rfl
      have hsweep : (granted.visit w).sweep = s.sweep := (congrArg State.sweep (Listed.visit granted w).frame).trans rfl
      have hadvance : s.sweep.advance w = if w = 8191 then ended else { s.sweep with cursor := w + 1 } := by
        have hhandles : Config.handles = 8192 := rfl
        unfold Sweep.advance
        rw [hended]
        refine if_congr ?_ rfl rfl
        omega
      unfold State.sweepVisit
      rw [if_pos hrun]
      dsimp only
      rw [hnext]
      dsimp only
      have hgranted : s.grantSweep = granted := rfl
      rw [hgranted, hsweep, hvisit, hadvance]

end Sys2Proof.Machine


namespace Sys2Proof.Machine

set_option Elab.async false

/-! ## A MOVE that is out beside a QUEUED FLIP of its wheel

R84 withdraws a wheel's QUEUED care tasks as its MOVE is issued and R59 offers none while it is out, so no run has the two in the list
together. The law of the inventory does not say so: it lets a QUEUED care task stand beside the movement task of its wheel, whatever
that task's state. PICKED does not withdraw, and leaves the care task naming a board on which its wheel no longer lies. -/

/-- The wheel of the counterexample, lying on board 0 and bound for board 1. -/
def movingWheel : Wheel :=
  { tag := 1#48, batch := 0, cls := 0, entry := 0, location := .inSlot ⟨0, 0, 0⟩, faceUp := .a, lastFlip := none, lastBrush := none
    flipDue := none, brushDue := none, flipCount := 0, brushCount := 0, hold := .none, careFault := none
    intent := some { kind := .move, destination := .slot ⟨0, 0, 1⟩, retargeted := false, returnSlot := none, phase := .beforePick
                     status := .active }
    lastOutcome := none, lastSeen := none, flipMark := true, brushMark := false, moveMark := true }

/-- Its MOVE, ISSUED. -/
def moveOut : TaskRecord :=
  { TaskRecord.offered (.movement .move) (some 0) (.board ⟨0, 0, 0⟩) 0 with
    issue := 1, destination := some (.slot ⟨0, 0, 1⟩), phase := some .beforePick, state := .issued }

/-- Its FLIP, QUEUED. -/
def flipQueued : TaskRecord := { TaskRecord.offered .flip (some 0) (.board ⟨0, 0, 0⟩) 0 with number := 1, sequence := 1 }

/-- A care class that is valid. -/
def validClass : CareClass := { CareClass.default with valid := true }

/-- The state of the counterexample: the tag of the wheel has verified, and the robot reports PICKED. -/
def moveBesideFlip : State :=
  { State.reset with
    slots := [(0, .occupied 0), (1, .reserved .destination 0)]
    wheels := [(0, movingWheel)]
    tags := [(1, 0)]
    tasks := [moveOut, flipQueued]
    dispatch := { Dispatcher.initial with sequence := 2 }
    link := { RobotLink.initial with state := .working, verified := true }
    config := { Configuration.default with classes := Vector.replicate 16 validClass }
    retainedProfiles := Vector.replicate 16 validClass
    pending := [.picked (proper .robot) ⟨0, 1⟩] }

theorem moveBesideFlip_wheel (w : Nat) : moveBesideFlip.wheel w = if w = 0 then some movingWheel else none := by
  by_cases h : w = 0
  · rw [if_pos h, h]
    rfl
  · rw [if_neg h]
    simp [State.wheel, moveBesideFlip, Table.find, Ne.symm h]

theorem moveBesideFlip_slot (c : Coord) : moveBesideFlip.slot c =
    if c = ⟨0, 0, 0⟩ then .occupied 0 else if c = ⟨0, 0, 1⟩ then .reserved .destination 0 else .empty := by
  have hkey (d : Coord) : d.key = c.key ↔ c = d := ⟨fun h => (Coord.key_injective h).symm, fun h => by rw [h]⟩
  have h0 := hkey ⟨0, 0, 0⟩
  have h1 := hkey ⟨0, 0, 1⟩
  rw [show (⟨0, 0, 0⟩ : Coord).key = 0 from rfl] at h0
  rw [show (⟨0, 0, 1⟩ : Coord).key = 1 from rfl] at h1
  simp only [State.slot, moveBesideFlip, Table.find, h0, h1]
  split_ifs <;> rfl

theorem moveBesideFlip_storeLaw : moveBesideFlip.StoreLaw where
  slots := by decide
  wheels := by decide
  tags := by decide
  index := fun k w => by
    simp only [moveBesideFlip_wheel]
    by_cases hk : k = 1
    · subst hk
      by_cases hw : w = 0
      · subst hw
        exact iff_of_true rfl ⟨movingWheel, rfl, rfl⟩
      · simp [hw, moveBesideFlip, Table.find, Ne.symm hw]
    · by_cases hw : w = 0 <;> simp [hw, moveBesideFlip, Table.find, Ne.symm hk, movingWheel]
  discrepancies := by decide

theorem moveBesideFlip_taskLaw : moveBesideFlip.TaskLaw where
  numbers := by decide
  shapes := by
    intro t ht
    simp only [moveBesideFlip, List.mem_cons, List.not_mem_nil, or_false] at ht
    rcases ht with rfl | rfl
    · exact ⟨rfl, rfl, rfl, rfl⟩
    · exact ⟨rfl, ⟨_, rfl⟩, rfl, rfl, rfl⟩
  order := by decide
  room := by decide
  oneOut := by decide
  working := iff_of_true rfl ⟨moveOut, List.mem_cons_self, rfl⟩
  idle := fun h => absurd rfl h

theorem moveBesideFlip_configLaw : moveBesideFlip.ConfigLaw where
  working := { Configuration.default_fits with
    classes := fun n => by
      have hclass : moveBesideFlip.config.classes[n] = validClass := by simp [moveBesideFlip]
      rw [hclass]
      constructor <;> decide }
  image := Configuration.default_fits
  saving := fun c h => by cases h
  geometry := rfl
  profiles := rfl
  valid := by decide

theorem moveBesideFlip_inventoryLaw : moveBesideFlip.InventoryLaw where
  held := fun c w h => by
    rw [moveBesideFlip_slot] at h
    split_ifs at h with h0 h1 <;> simp at h
    subst h h0
    exact ⟨movingWheel, rfl, rfl⟩
  bound := fun c w h => by
    rw [moveBesideFlip_slot] at h
    split_ifs at h with h0 h1 <;> simp at h
    subst h h1
    exact ⟨movingWheel, _, rfl, rfl, rfl⟩
  kept := fun c w h => by
    rw [moveBesideFlip_slot] at h
    split_ifs at h with h0 h1 <;> simp at h
  located := fun w x c hx hc => by
    rw [moveBesideFlip_wheel] at hx
    split_ifs at hx with hw <;> cases hx
    cases hc
    rw [moveBesideFlip_slot, if_pos rfl, hw]
    exact .inl rfl
  intents := fun w x i hx hi => by
    rw [moveBesideFlip_wheel] at hx
    split_ifs at hx with hw <;> cases hx
    cases hi
    refine ⟨⟨⟨_, rfl⟩, rfl, _, rfl⟩, fun d hd => .inl ?_, fun r hr => by cases hr⟩
    cases hd
    rw [moveBesideFlip_slot, hw]
    rfl
  gripper := fun w x hx => by
    rw [moveBesideFlip_wheel] at hx
    split_ifs at hx with hw <;> cases hx
    simp [movingWheel]
  marks := fun w x hx => by
    rw [moveBesideFlip_wheel] at hx
    split_ifs at hx with hw <;> cases hx
    subst hw
    decide
  once := by decide
  tasks := fun t ht w hw => by
    simp only [moveBesideFlip, List.mem_cons, List.not_mem_nil, or_false] at ht
    rcases ht with rfl | rfl
    · cases hw
      refine ⟨movingWheel, rfl, fun _ => ⟨_, rfl, rfl, rfl, rfl, fun _ => rfl, fun c hc => ?_⟩, nofun⟩
      cases hc
      rw [moveBesideFlip_slot]
      rfl
    · cases hw
      refine ⟨movingWheel, rfl, nofun, fun _ => ⟨_, rfl, rfl, ?_⟩⟩
      rw [moveBesideFlip_slot]
      rfl

/-- Refutes O59: a wheel is PICKED from its board while a FLIP of it is QUEUED, and the FLIP goes on naming the board. -/
theorem not_stepsKeepTheInventory : ¬ Obligations.StepsKeepTheInventory := by
  unfold Obligations.StepsKeepTheInventory
  intro h
  obtain ⟨t, hstep, hflip, hat⟩ : ∃ t, step moveBesideFlip = .next t ∧ flipQueued ∈ t.tasks ∧
      (t.wheel 0).map Wheel.location = some .inGripper :=
    ⟨_, rfl, by decide, by decide⟩
  have law := h _ t moveBesideFlip_storeLaw moveBesideFlip_taskLaw moveBesideFlip_configLaw moveBesideFlip_inventoryLaw hstep
  obtain ⟨x, hx, -, hcare⟩ := law.tasks flipQueued hflip 0 rfl
  obtain ⟨c, hc, -⟩ := hcare rfl
  rw [hx, Option.map_some, hc] at hat
  cases hat

end Sys2Proof.Machine

namespace Sys2Proof.Machine

set_option Elab.async false

/-! ## The law of quarantine -/

section
variable {s u : State}

/-- A record is sheltered by the quarantine aisles alone, whatever else the state holds. -/
theorem State.sheltered_congr (hgeometry : u.config.geometry = s.config.geometry) (x : Wheel) : u.Sheltered x ↔ s.Sheltered x := by
  have hbound : u.boundToQuarantine x = s.boundToQuarantine x := by
    unfold State.boundToQuarantine State.quarantinedGoal State.quarantined
    rw [hgeometry]
  unfold State.Sheltered
  rw [hbound]

theorem State.QuarantineLaw.congr (law : s.QuarantineLaw) (hwheels : ∀ w x, u.wheel w = some x → s.wheel w = some x)
    (hgeometry : u.config.geometry = s.config.geometry) : u.QuarantineLaw :=
  fun w x hx => (State.sheltered_congr hgeometry x).2 (law w x (hwheels w x hx))

theorem State.QuarantineLaw.changeWheel (law : s.QuarantineLaw) (w : Nat) {f : Wheel → Wheel}
    (hf : ∀ x, s.wheel w = some x → s.Sheltered x → s.Sheltered (f x)) : (s.changeWheel w f).QuarantineLaw := by
  intro v y hy
  have hsheltered : s.Sheltered y := by
    rw [State.wheel_changeWheel] at hy
    split at hy
    · obtain ⟨x, hx, rfl⟩ := Option.map_eq_some_iff.1 hy
      exact hf x (by simp_all) (law v x hx)
    · exact law v y hy
  exact hsheltered

/-- A write keeps the law of quarantine, when the sources of its command's state lie as its tasks say. -/
theorem Writes.quarantineLaw {g : Scope} {t : State} (h : Writes g s t) (hsources : s.SourcesLie) (law : s.QuarantineLaw) :
    t.QuarantineLaw := by
  induction h with
  | refl => exact law
  | wheel _ w f _ hq ih => exact ih.changeWheel w (hq hsources)
  | wheelClass _ w n _ ih => exact ih.changeWheel w fun x _ hx => hx.congr rfl rfl rfl
  | @create u _ w x _ _ _ _ _ hq ih =>
    intro v y hy
    have hsheltered : u.Sheltered y := by
      rw [State.wheel_createWheel] at hy
      split at hy
      · cases hy; exact hq
      · exact ih v y hy
    exact hsheltered
  | @delete u _ w ih =>
    refine ih.congr (fun v x hx => ?_) (congrArg Configuration.geometry (State.deleteWheel_config ..))
    rw [State.wheel_deleteWheel] at hx
    split at hx
    · cases hx
    · exact hx
  | @config u _ _ c r p hq _ ih =>
    rcases hq with hempty | hgeometry
    · intro w x hx
      rw [State.wheel, hempty] at hx
      cases hx
    · exact ih.congr (fun _ _ => id) hgeometry
  | slot _ _ _ ih | noSlots _ ih | findings _ _ _ ih | humidity _ _ _ _ ih | port _ _ _ _ ih | free _ _ _ _ _ _ _ _ ih
  | clock _ _ _ ih | memory _ _ _ _ ih => exact ih.congr (fun _ _ => id) rfl

theorem State.QuarantineLaw.loseRetention : s.loseRetention.QuarantineLaw := fun _ _ hx => by cases hx

/-- R2: a start keeps every wheel's place and hold, and the geometry of a hall that holds wheels. -/
theorem State.QuarantineLaw.restarted (law : s.QuarantineLaw) (hretained : s.retainedGeometry = s.config.geometry) (i : StartInputs) :
    (s.restarted i).QuarantineLaw := by
  intro w y hy
  rw [State.wheel_restarted] at hy
  obtain ⟨x, hx, rfl⟩ := Option.map_eq_some_iff.1 hy
  have hwheels : s.wheels ≠ [] := by
    rintro hempty
    rw [State.wheel, hempty] at hx
    cases hx
  have hgeometry : (s.restarted i).config.geometry = s.config.geometry := by
    simp only [State.restarted, State.settledGeometry, if_neg hwheels, hretained]
  refine (State.sheltered_congr hgeometry _).2 (State.Sheltered.leave (law w x hx) rfl (fun _ => id) fun j c hj hc => ?_)
  obtain ⟨k, hk, rfl⟩ := Option.map_eq_some_iff.1 hj
  exact ⟨k, hk, hc⟩

end

/-- Settles O60: each write a command makes keeps the law, and so does what a start makes of wheels and geometry; where PICKED binds a wheel
to the board it lifts it from, the wheel lay on that board by the law of the inventory. -/
theorem stepsKeepQuarantine : Obligations.StepsKeepQuarantine := by
  intro s t _ _ hconfig hinventory law hstep
  unfold step at hstep
  split at hstep
  · cases hstep; exact law
  · next c rest _ =>
    have hrest : State.QuarantineLaw { s with pending := rest } := law.congr (fun _ _ => id) rfl
    by_cases hc : scopeOf c = ⟨true, true, true⟩
    · obtain ⟨v, hv, rfl | ⟨i, lost, rfl⟩⟩ := exec_starts hc { s with pending := rest }
      · rw [hv] at hstep; cases hstep; exact hrest
      · rw [hv] at hstep; cases hstep
        refine (start_writes (scopeOf c) _ i lost).quarantineLaw (by simp [State.SourcesLie, State.restarted]) ?_
        cases lost
        · exact hrest.restarted hconfig.geometry i
        · exact State.QuarantineLaw.loseRetention.restarted hconfig.geometry i
    · obtain ⟨v, hv, hw⟩ := exec_writes hc { s with pending := rest }
      rw [hv] at hstep; cases hstep
      exact hw.quarantineLaw hinventory.sourcesLie hrest

end Sys2Proof.Machine
